-- ==== Sys2Proof/Word.lean ====
section
/-! DEFINITION. The byte, the only thing the GL4's spec treats as bits: what passes on its two links (R184, R196). Every
other quantity of the spec is an unsigned whole number within a stated range (00_scope.md, Conventions), a `Nat`. -/

namespace Sys2Proof

/-- One byte on the Host Message Link or on the Station Bus. -/
abbrev Byte := BitVec 8

end Sys2Proof
end

