-- ==== Sys2Proof/Syntax.lean ====
section
/-! DEFINITION. The commands of the block, one constructor of `Instr` for each row of spec/opcode_table.json, and the
values their operands are made of. A request carries its frame's tag and its fields as R196 encodes them: an enumeration
byte is a value of its list or a code beyond it (`Coded`), so that a code beyond the list reaches the owning rule (R185). -/

namespace Sys2Proof

/-- The four induction lanes. -/
inductive LaneId where
  | l1 | l2 | l3 | l4
  deriving DecidableEq, Repr, Inhabited

/-- The five station roles of a lane, in roster order (R70). -/
inductive Role where
  | entry | tag | scale | vision | laneEnd
  deriving DecidableEq, Repr, Inhabited

/-- A roster slot, named by lane and role. -/
structure SlotId where
  lane : LaneId
  role : Role
  deriving DecidableEq, Repr, Inhabited

/-- The two plan banks, 0 and 1. -/
inductive BankId where
  | b0 | b1
  deriving DecidableEq, Repr, Inhabited

/-- The five grades. -/
inductive Grade where
  | a | b | c | d | q
  deriving DecidableEq, Repr, Inhabited

/-- Where a map cell sends an item: a destination 0 to 15, or gate E (R96). -/
inductive Dest where
  | gate (d : Nat)
  | gateE
  deriving DecidableEq, Repr, Inhabited

/-- A 64-bit tag code: a 24-bit SKU and a 40-bit serial. -/
structure TagCode where
  sku    : Nat
  serial : Nat
  deriving DecidableEq, Repr, Inhabited

/-- An enumeration byte of a request or an answer: a value of its list, or a code beyond the list (R185). -/
inductive Coded (α : Type) where
  | known  (a : α)
  | beyond (code : Nat)
  deriving DecidableEq, Repr

/-- The rates of the Host Message Link, chosen by strap at cold reset (00_scope.md, Physical interface). -/
inductive LinkRate where
  | baud115200 | baud460800
  deriving DecidableEq, Repr, Inhabited

inductive OnOff where
  | on | off
  deriving DecidableEq, Repr, Inhabited

/-- A mark or flag as a value on the link, set or clear. -/
inductive Mark where
  | set | clear
  deriving DecidableEq, Repr, Inhabited

/-- The two kinds of STOP LINE (R176). -/
inductive StopKind where
  | drain | cut
  deriving DecidableEq, Repr, Inhabited

/-- The chain modes of a destination (R154), which are also the causes of a stall. -/
inductive ChainMode where
  | flag | limit
  deriving DecidableEq, Repr, Inhabited

/-- The eleven sources of a check (R93, R94). -/
inductive Source where
  | tagState | matchResult | weightDeviation | stain | tear | wear | crease | swingTag | colour | piecesShort | reason
  deriving DecidableEq, Repr, Inhabited

inductive Scope where
  | item | piece
  deriving DecidableEq, Repr, Inhabited

/-- The five tests of a check, without their limits (R93). -/
inductive TestKind where
  | atMost | atLeast | within | equals | notEquals
  deriving DecidableEq, Repr, Inhabited

/-- The fail actions of a check (R93). -/
inductive FailAction where
  | penalty (n : Nat)
  | capB | capC | capD
  | quarantine
  deriving DecidableEq, Repr, Inhabited

inductive MissingPolicy where
  | pass | fail | quarantine
  deriving DecidableEq, Repr, Inhabited

/-- The fields WRITE CHECK carries beside the check number (R93, R100). -/
structure CheckFields where
  source  : Coded Source
  scope   : Coded Scope
  test    : Coded TestKind
  lower   : Nat
  upper   : Nat
  action  : Coded FailAction
  missing : Coded MissingPolicy
  deriving DecidableEq, Repr

/-- A check's test with its limits; the upper limit is held only for WITHIN (R93). -/
inductive Limits where
  | atMost (l : Nat)
  | atLeast (l : Nat)
  | within (l h : Nat)
  | equals (l : Nat)
  | notEquals (l : Nat)
  deriving DecidableEq, Repr, Inhabited

/-- A check record of a plan bank (R93). -/
structure Check where
  source  : Source
  scope   : Scope
  limits  : Limits
  action  : FailAction
  missing : MissingPolicy
  deriving DecidableEq, Repr, Inhabited

/-- The program of one category in a plan bank (R95). -/
structure Program where
  list    : Nat
  group   : Nat
  nominal : Nat
  pieces  : Nat
  deriving DecidableEq, Repr, Inhabited

/-- The three penalty levels of a plan bank (R96). -/
structure Thresholds where
  t1 : Nat
  t2 : Nat
  t3 : Nat
  deriving DecidableEq, Repr, Inhabited

/-- One line of a LOAD RETURN (R31). -/
structure LineLoad where
  sku       : Nat
  category  : Nat
  quantity  : Nat
  pieces    : Nat
  refWeight : Nat
  tags      : List TagCode
  deriving DecidableEq, Repr

/-- The RA a LOAD RETURN carries whole (R31). -/
structure ReturnLoad where
  ra      : Nat
  account : Nat
  label   : Nat
  reason  : Nat
  lines   : List LineLoad
  deriving DecidableEq, Repr

/-- The setting a CONFIGURE or a READ SETTING names (R178, R179). A gate index is 0 to 15, with 16 for E; an event index is
the event kind's code (R195). -/
inductive SettingName where
  | manifestWait
  | decisionWait
  | sweepPeriod
  | downThreshold
  | lapLimit
  | gatePosition (g : Nat)
  | chainMode (d : Nat)
  | eventEnable (k : Nat)
  | beyond (code : Nat)
  deriving DecidableEq, Repr

/-- The value of a setting (R178). -/
inductive SettingValue where
  | num (n : Nat)
  | unset
  | mode (m : Coded ChainMode)
  | enable (v : Coded OnOff)
  deriving DecidableEq, Repr

/-- The check result a tag head gives with a code (R77). -/
inductive CheckResult where
  | good | bad
  deriving DecidableEq, Repr, Inhabited

/-- One piece score set of a VISION answer (R77). -/
structure PieceScores where
  stain    : Nat
  tear     : Nat
  wear     : Nat
  crease   : Nat
  swingTag : Nat
  colour   : Nat
  deriving DecidableEq, Repr, Inhabited

/-- What every answer frame carries beside its report kind and its data (R77, section 10.6). -/
structure AnswerHead where
  address : Nat
  echo    : Nat
  ticket  : Nat
  deriving DecidableEq, Repr, Inhabited

/-- The commands, in the order of spec/opcode_table.json. -/
inductive Instr where
  /-- R182: the whole cold reset, with the level of HOLD and the rate strap as it ends. -/
  | coldReset (holdHigh : Bool) (strap : LinkRate)
  | warmReset (tag : Nat)
  | warmResetActs
  /-- R172: the level HOLD changes to. -/
  | hold (high : Bool)
  | pitch
  | index
  | sweepTimer
  /-- R76: whether the start byte of an answer was received in the turn. -/
  | turnTimeout (partialAnswer : Bool)
  | manifestWaitExpiry (ra : Nat)
  | decisionWaitExpiry (lane : LaneId)
  | interbyteTimeout
  /-- R184: the bytes the receiver holds when it discards the frame, from the frame's start byte on. -/
  | frameDiscarded (held : List Byte)
  | unknownRequest (tag kind : Nat)
  | busy (tag kind : Nat)
  | replySent
  | readItem (tag item : Nat)
  | withdrawItem (tag item : Nat)
  | forceGrade (tag item : Nat) (grade : Coded Grade)
  | loadReturn (tag : Nat) (load : ReturnLoad)
  | addTags (tag ra line : Nat) (codes : List TagCode)
  | amendReturn (tag ra : Nat) (label reason : Option Nat) (quantity : Option (Nat × Nat))
  | removeReturn (tag ra : Nat)
  | readReturn (tag ra : Nat) (line : Option Nat)
  /-- R51: the pairs are an RA number and a label issue each. -/
  | openParcel (tag lane account : Nat) (pairs : List (Nat × Nat))
  | closeParcel (tag lane : Nat)
  | abortLane (tag lane : Nat)
  | enrolStation (tag lane : Nat) (role : Coded Role) (address : Nat)
  | retireStation (tag lane : Nat) (role : Coded Role)
  | readStation (tag lane : Nat) (role : Coded Role)
  | writeCheck (tag number : Nat) (fields : CheckFields)
  | writeList (tag number : Nat) (entries : List Nat)
  | writeProgram (tag category list group nominal pieces : Nat)
  | writeThresholds (tag t1 t2 t3 : Nat)
  /-- R102: each cell is a cell number and a destination byte, 16 for E. -/
  | writeMap (tag : Nat) (cells : List (Nat × Nat))
  | clearBank (tag : Nat)
  | validatePlan (tag : Nat)
  | switchPlan (tag : Nat)
  | setShadow (tag : Nat) (value : Coded OnOff)
  | addTote (tag dest tote capacity weightLimit warnAt : Nat) (pause lotEnd : Coded Mark)
  | confirmSwap (tag dest : Nat)
  | setLimit (tag dest : Nat) (limit : Option Nat)
  | closeTote (tag dest tote : Nat)
  | dropChain (tag dest : Nat)
  | readDestination (tag dest : Nat)
  | startLine (tag : Nat)
  | pauseLine (tag : Nat)
  | resumeLine (tag : Nat)
  | stopLine (tag : Nat) (kind : Coded StopKind)
  | configure (tag : Nat) (name : SettingName) (value : SettingValue)
  | readSetting (tag : Nat) (name : SettingName)
  | readStatus (tag : Nat)
  | fetchEvents (tag count : Nat)
  | nothing (a : AnswerHead)
  | presented (a : AnswerHead)
  | parcelDone (a : AnswerHead)
  | atEnd (a : AnswerHead)
  | tagReading (a : AnswerHead) (codes : List (TagCode × Coded CheckResult))
  | weight (a : AnswerHead) (grams : Nat)
  | vision (a : AnswerHead) (pieces : List PieceScores)
  | garbledAnswer
  | malformedRequest (tag kind : Nat)
  | sweepFrameSent
  | answerOutsideTurn
  deriving DecidableEq, Repr

end Sys2Proof
end

