-- ==== Sys2Proof/Decode.lean ====
section
/-! DEFINITION. The reading of a command from the bits of spec/opcode_table.json. The table gives bits to no row, so no word
spells a command; the frames that carry the commands are read in Sys2Proof/Machine/Frames.lean. -/

namespace Sys2Proof

def decodeTableWord (_nbits _w : Nat) : Option Instr := none

end Sys2Proof
end

