-- ==== Sys2Proof/Config.lean ====
section
/-! DEFINITION. What the part fixes once (the sizes of its collections), and the free values: constants without a body, of
which nothing can be proved but that they have a value. -/

namespace Sys2Proof.Config

/-- R22: the most RA records. -/
def maxReturns : Nat := 1024
/-- R23: the entries of the line pool. -/
def linePool : Nat := 4096
/-- R23: the entries of the tag pool. -/
def tagPool : Nat := 8192
/-- R152: the descriptors of the tote pool. -/
def totePool : Nat := 256
/-- R188: the entries of the Event Queue. -/
def queueSize : Nat := 256
/-- R57: the longest lane queue. -/
def laneQueue : Nat := 6
/-- R134: the carriers and positions of the sorter loop. -/
def loopSize : Nat := 96
/-- R186: the most BUSY replies waiting. -/
def maxBusy : Nat := 4
/-- R191: the most records one FETCH EVENTS returns. -/
def maxFetch : Nat := 16

/-- FREE VALUE (log entry 3): the choice made at the n-th place where the spec leaves the order of several acts of one step
open (R67, R134, R190). -/
opaque freeOrder : Nat → Nat

/-- FREE VALUES (log entry 4): what is read from a plan entry that R118 and R127 say is always defined when it is read, in
the states (reached by no run) where it is undefined. -/
opaque freeProgram : Program
/-- See `freeProgram`. -/
opaque freeList : List Nat
/-- See `freeProgram`. -/
opaque freeCheck : Check
/-- See `freeProgram`. -/
opaque freeThresholds : Thresholds
/-- See `freeProgram`. -/
opaque freeCell : Dest
/-- FREE VALUE (log entry 4): the bank an item binds when no bank is ACTIVE, which R10 says cannot be. -/
opaque freeBank : BankId

end Sys2Proof.Config
end

