-- ==== Sys2Proof/Machine/Table.lean ====
section
/-! DEFINITION. The containers State is made of: tables keyed by number in one canonical form (keys strictly rising), and
the fixed families of lanes, roles and banks. All of them are plain data. -/

namespace Sys2Proof.Machine

/-- A collection kept by number (R1, R22, R92, R133): entries with strictly rising keys. -/
structure Table (α : Type) where
  entries : List (Nat × α)
  deriving DecidableEq, Repr

/-- The table that holds nothing. -/
def Table.empty {α : Type} : Table α := ⟨[]⟩

/-- The first value listed under a key. -/
def lookupEntry {α : Type} : List (Nat × α) → Nat → Option α
  | [], _ => none
  | (k', v) :: rest, k => if k' = k then some v else lookupEntry rest k

/-- Put a value under a key, in its place by rising keys. -/
def putEntry {α : Type} : List (Nat × α) → Nat → α → List (Nat × α)
  | [], k, v => [(k, v)]
  | (k', v') :: rest, k, v =>
    if k < k' then (k, v) :: (k', v') :: rest
    else if k' = k then (k, v) :: rest
    else (k', v') :: putEntry rest k v

def Table.lookup {α : Type} (t : Table α) (k : Nat) : Option α := lookupEntry t.entries k

def Table.put {α : Type} (t : Table α) (k : Nat) (v : α) : Table α := ⟨putEntry t.entries k v⟩

def Table.remove {α : Type} (t : Table α) (k : Nat) : Table α := ⟨t.entries.filter fun e => e.1 ≠ k⟩

def Table.has {α : Type} (t : Table α) (k : Nat) : Bool := (t.lookup k).isSome

def Table.size {α : Type} (t : Table α) : Nat := t.entries.length

def Table.values {α : Type} (t : Table α) : List α := t.entries.map (·.2)

/-- Change the value under a key that the table lists; a key it does not list stays unlisted. -/
def Table.modify {α : Type} (t : Table α) (k : Nat) (f : α → α) : Table α :=
  ⟨t.entries.map fun e => if e.1 = k then (e.1, f e.2) else e⟩

/-- Change every value. -/
def Table.mapValues {α : Type} (t : Table α) (f : α → α) : Table α := ⟨t.entries.map fun e => (e.1, f e.2)⟩

/-- The canonical form: keys strictly rising. -/
def risingKeys {α : Type} : List (Nat × α) → Bool
  | [] => true
  | [_] => true
  | (k, _) :: (k', v) :: rest => decide (k < k') && risingKeys ((k', v) :: rest)

def Table.wf {α : Type} (t : Table α) : Bool := risingKeys t.entries

/-- One value for each lane. -/
structure Quad (α : Type) where
  l1 : α
  l2 : α
  l3 : α
  l4 : α
  deriving DecidableEq, Repr

def Quad.all {α : Type} (a : α) : Quad α := ⟨a, a, a, a⟩

def Quad.at {α : Type} (q : Quad α) : LaneId → α
  | .l1 => q.l1
  | .l2 => q.l2
  | .l3 => q.l3
  | .l4 => q.l4

def Quad.modify {α : Type} (q : Quad α) (l : LaneId) (f : α → α) : Quad α :=
  match l with
  | .l1 => { q with l1 := f q.l1 }
  | .l2 => { q with l2 := f q.l2 }
  | .l3 => { q with l3 := f q.l3 }
  | .l4 => { q with l4 := f q.l4 }

def Quad.map {α β : Type} (q : Quad α) (f : α → β) : Quad β := ⟨f q.l1, f q.l2, f q.l3, f q.l4⟩

/-- The values in the order of the lanes. -/
def Quad.toList {α : Type} (q : Quad α) : List α := [q.l1, q.l2, q.l3, q.l4]

/-- One value for each role of a lane. -/
structure PerRole (α : Type) where
  entry   : α
  tag     : α
  scale   : α
  vision  : α
  laneEnd : α
  deriving DecidableEq, Repr

def PerRole.all {α : Type} (a : α) : PerRole α := ⟨a, a, a, a, a⟩

def PerRole.at {α : Type} (q : PerRole α) : Role → α
  | .entry => q.entry
  | .tag => q.tag
  | .scale => q.scale
  | .vision => q.vision
  | .laneEnd => q.laneEnd

def PerRole.modify {α : Type} (q : PerRole α) (r : Role) (f : α → α) : PerRole α :=
  match r with
  | .entry => { q with entry := f q.entry }
  | .tag => { q with tag := f q.tag }
  | .scale => { q with scale := f q.scale }
  | .vision => { q with vision := f q.vision }
  | .laneEnd => { q with laneEnd := f q.laneEnd }

def PerRole.map {α β : Type} (q : PerRole α) (f : α → β) : PerRole β :=
  ⟨f q.entry, f q.tag, f q.scale, f q.vision, f q.laneEnd⟩

/-- The values in the order of the roles. -/
def PerRole.toList {α : Type} (q : PerRole α) : List α := [q.entry, q.tag, q.scale, q.vision, q.laneEnd]

/-- One value for each plan bank. -/
structure Pair (α : Type) where
  b0 : α
  b1 : α
  deriving DecidableEq, Repr

def Pair.at {α : Type} (q : Pair α) : BankId → α
  | .b0 => q.b0
  | .b1 => q.b1

def Pair.modify {α : Type} (q : Pair α) (b : BankId) (f : α → α) : Pair α :=
  match b with
  | .b0 => { q with b0 := f q.b0 }
  | .b1 => { q with b1 := f q.b1 }

def Pair.map {α β : Type} (q : Pair α) (f : α → β) : Pair β := ⟨f q.b0, f q.b1⟩

end Sys2Proof.Machine
end

