-- ==== Sys2Proof/Machine/Blocks.lean ====
section
/-! DEFINITION. What each of the eleven blocks of the GL4 holds (00_scope.md, Block overview), field by field, with the
value each holds after a cold reset; the event records and the reply frames. -/

namespace Sys2Proof.Machine

/-! ### Items (R5 to R8) -/

inductive ItemState where
  | measuring | decided | waiting | ready | sorting
  deriving DecidableEq, Repr, Inhabited

inductive RoleStatus where
  | awaited | taken | missing
  deriving DecidableEq, Repr, Inhabited

/-- The tag state; the tag code is present only while it is READ (R6). -/
inductive TagState where
  | read (code : TagCode)
  | noTag
  | corrupt
  | conflict
  deriving DecidableEq, Repr, Inhabited

inductive MatchResult where
  | exact | skuOnly | unlisted | repeated | over | stray | noReturn | staleLabel | unread | forced
  deriving DecidableEq, Repr, Inhabited

inductive Cap where
  | noCap | b | c | d
  deriving DecidableEq, Repr, Inhabited

inductive ExcReason where
  | mapped | laps | tooHeavy | withdrawn | cut
  deriving DecidableEq, Repr, Inhabited

/-- Destination and exception reason (R8): the reason is present exactly while the destination is E. -/
inductive Route where
  | tote (d : Nat)
  | exception (reason : ExcReason)
  deriving DecidableEq, Repr, Inhabited

/-- An item record; its item number is its key in the Item Table (R5 to R8). -/
structure Item where
  lane           : LaneId
  ticket         : Nat
  parcel         : Nat
  bank           : BankId
  state          : ItemState
  created        : Nat
  decidedTime    : Option Nat
  loadedTime     : Option Nat
  tagStatus      : RoleStatus
  scaleStatus    : RoleStatus
  visionStatus   : RoleStatus
  tagState       : TagState
  weight         : Option Nat
  pieces         : List PieceScores
  result         : Option MatchResult
  /-- matched RA number and line index, present together (R7) -/
  matched        : Option (Nat × Nat)
  category       : Option Nat
  expectedPieces : Nat
  penalty        : Nat
  cap            : Cap
  quarantine     : Bool
  failed         : List Nat
  grade          : Option Grade
  shadow         : Option Grade
  forced         : Bool
  route          : Option Route
  carrier        : Option Nat
  laps           : Nat
  deriving DecidableEq, Repr

structure ItemTable where
  records    : Table Item
  nextNumber : Nat
  deriving DecidableEq, Repr

/-- R20. -/
def ItemTable.cold : ItemTable := { records := Table.empty, nextNumber := 1 }

/-! ### Return authorisations (R22 to R27) -/

inductive RaState where
  | loaded | bound | expected | overdue | complete | short
  deriving DecidableEq, Repr, Inhabited

/-- A listed tag with its received mark (R26). -/
structure ListedTag where
  code     : TagCode
  received : Bool
  deriving DecidableEq, Repr, Inhabited

/-- A line of an RA record (R25). -/
structure Line where
  sku       : Nat
  category  : Nat
  quantity  : Nat
  received  : Nat
  pieces    : Nat
  refWeight : Nat
  tags      : List ListedTag
  deriving DecidableEq, Repr, Inhabited

/-- An RA record; its RA number is its key in the Return Table (R24, R27). -/
structure Ra where
  account   : Nat
  label     : Nat
  reason    : Nat
  state     : RaState
  mismatch  : Bool
  closed    : Bool
  boundLane : Option LaneId
  matched   : Nat
  /-- remaining manifest-wait time, ms (R29) -/
  timer     : Option Nat
  lines     : List Line
  deriving DecidableEq, Repr, Inhabited

structure ReturnTable where
  records : Table Ra
  deriving DecidableEq, Repr

/-- R47. -/
def ReturnTable.cold : ReturnTable := { records := Table.empty }

/-! ### Lanes (R49) -/

inductive LaneState where
  | idle | opened | closing
  deriving DecidableEq, Repr, Inhabited

inductive CloseCause where
  | host | key
  deriving DecidableEq, Repr, Inhabited

inductive EntryRefusal where
  | notOpen | line | queueFull | eventsFull | entryDown | endDown
  deriving DecidableEq, Repr, Inhabited

inductive Verdict where
  | none
  | accept (ticket : Nat)
  | refuse (reason : EntryRefusal)
  deriving DecidableEq, Repr, Inhabited

/-- A lane's decision-wait timer: remaining ms and the item it belongs to (R61). -/
structure WaitTimer where
  remaining : Nat
  item      : Nat
  deriving DecidableEq, Repr, Inhabited

structure Lane where
  state         : LaneState
  parcelCounter : Nat
  account       : Option Nat
  boundRas      : List Nat
  closeCause    : Option CloseCause
  queue         : List Nat
  nextTicket    : Nat
  verdict       : Verdict
  timer         : Option WaitTimer
  deriving DecidableEq, Repr, Inhabited

/-- R68. -/
def Lane.cold : Lane :=
  { state := .idle, parcelCounter := 0, account := none, boundRas := [], closeCause := none, queue := [],
    nextTicket := 0, verdict := .none, timer := none }

/-! ### Station Bus (R70, R74 to R76) -/

inductive SlotState where
  | vacant | up | down
  deriving DecidableEq, Repr, Inhabited

inductive SweepOutcome where
  | silent | valid | garbled
  deriving DecidableEq, Repr, Inhabited

structure Slot where
  state     : SlotState
  address   : Option Nat
  score     : Nat
  maxScore  : Nat
  lastValid : Option Nat
  /-- present for a slot of the open sweep's roll that has stayed enrolled since the sweep began (R70, R72) -/
  outcome   : Option SweepOutcome
  deriving DecidableEq, Repr, Inhabited

/-- R90. -/
def Slot.vacant : Slot :=
  { state := .vacant, address := none, score := 0, maxScore := 0, lastValid := none, outcome := none }

/-- What the sweep frame shows of a lane (R75). -/
structure Lamp where
  state     : LaneState
  suspended : Bool
  deriving DecidableEq, Repr, Inhabited

/-- How far the open sweep has come (R76). -/
inductive SweepPhase where
  | sendingFrame
  | turn (k : Nat)
  | turnsOver
  deriving DecidableEq, Repr, Inhabited

/-- The open sweep: what its frame carries, and how far it has come (R75, R76). -/
structure Sweep where
  roll      : List SlotId
  addresses : List Nat
  verdicts  : Quad Verdict
  lamps     : Quad Lamp
  phase     : SweepPhase
  deriving DecidableEq, Repr

structure StationBus where
  roster : Quad (PerRole Slot)
  number : Nat
  timer  : Nat
  sweep  : Option Sweep
  deriving DecidableEq, Repr

/-- R90. -/
def StationBus.cold : StationBus :=
  { roster := Quad.all (PerRole.all Slot.vacant), number := 0, timer := 20, sweep := none }

/-! ### Plan Store (R92, R97, R108) -/

inductive BankState where
  | empty | standby | active | draining
  deriving DecidableEq, Repr, Inhabited

structure Bank where
  checks     : Table Check
  lists      : Table (List Nat)
  programs   : Table Program
  thresholds : Option Thresholds
  map        : Table Dest
  state      : BankState
  valid      : Bool
  bound      : Nat
  deriving DecidableEq, Repr

/-- R110. -/
def Bank.cold : Bank :=
  { checks := Table.empty, lists := Table.empty, programs := Table.empty, thresholds := none, map := Table.empty,
    state := .empty, valid := false, bound := 0 }

structure PlanStore where
  banks  : Pair Bank
  shadow : OnOff
  deriving DecidableEq, Repr

/-- R110. -/
def PlanStore.cold : PlanStore := { banks := ⟨Bank.cold, Bank.cold⟩, shadow := .off }

/-! ### Sorter Tracker (R133 to R145) -/

structure Sorter where
  /-- the occupied carriers and the item number each holds (R133) -/
  carriers   : Table Nat
  origin     : Nat
  pointer    : LaneId
  aligned    : Bool
  revolution : Nat
  /-- XFER1 to XFER4 -/
  xfer       : Quad Bool
  /-- the gate outputs asserted: 0 to 15, and 16 for GATE_E, rising -/
  gates      : List Nat
  deriving DecidableEq, Repr

/-- R149. -/
def Sorter.cold : Sorter :=
  { carriers := Table.empty, origin := 0, pointer := .l1, aligned := false, revolution := 0, xfer := Quad.all false,
    gates := [] }

/-! ### Totes and destinations (R151 to R153) -/

structure Tote where
  id          : Nat
  capacity    : Nat
  weightLimit : Nat
  warnAt      : Nat
  pause       : Bool
  lotEnd      : Bool
  count       : Nat
  weight      : Nat
  firstDrop   : Option Nat
  deriving DecidableEq, Repr, Inhabited

/-- The state of a destination: it has a current tote exactly when it is ACTIVE (R153), and a stall cause and stall tote ID
exactly while it is STALLED (R151). -/
inductive DestState where
  | starved
  | active (current : Tote)
  | stalled (cause : ChainMode) (tote : Nat)
  deriving DecidableEq, Repr, Inhabited

/-- An open lot tracker (R158). -/
structure Lot where
  first : Nat
  totes : Nat
  items : Nat
  deriving DecidableEq, Repr, Inhabited

structure Destination where
  state  : DestState
  /-- the QUEUED descriptors of the chain, in chain order -/
  queued : List Tote
  mode   : ChainMode
  limit  : Option Nat
  lot    : Option Lot
  deriving DecidableEq, Repr, Inhabited

/-- R168. -/
def Destination.cold : Destination := { state := .starved, queued := [], mode := .flag, limit := none, lot := none }

structure ToteStore where
  dests : Table Destination
  deriving DecidableEq, Repr

/-- R168: all sixteen destinations, each STARVED. -/
def ToteStore.cold : ToteStore := { dests := ⟨(List.range 16).map fun d => (d, Destination.cold)⟩ }

/-! ### Events (R190, R195) -/

inductive EventKind where
  | itemPlaced | itemException | itemWithdrawn | itemGraded | checkFailed | manifestOverdue | parcelClosed
  | stationDown | stationUp | stationOrphan | lateMeasurement | planSwitched | planDrained | sorterSlip
  | indexMissing | toteNearFull | toteComplete | lotComplete | destinationStalled | destinationStarved
  | lotOpenAtStop | lineState
  deriving DecidableEq, Repr, Inhabited

inductive WithdrawReason where
  | host | skipped | aborted | cut
  deriving DecidableEq, Repr, Inhabited

inductive EndCause where
  | host | key | aborted | cut
  deriving DecidableEq, Repr, Inhabited

inductive RaOutcome where
  | complete | short | noManifest
  deriving DecidableEq, Repr, Inhabited

inductive FailCause where
  | value | missing
  deriving DecidableEq, Repr, Inhabited

inductive ReportKind where
  | nothing | presented | parcelDone | tagReading | weight | vision | atEnd
  deriving DecidableEq, Repr, Inhabited

inductive LateCause where
  | decided | missing | taken
  deriving DecidableEq, Repr, Inhabited

inductive CompletionReason where
  | full | weight | forced
  deriving DecidableEq, Repr, Inhabited

inductive LineMode where
  | setup
  | running
  | draining (kind : StopKind)
  deriving DecidableEq, Repr, Inhabited

inductive PauseCause where
  | host | slip | index
  deriving DecidableEq, Repr, Inhabited

inductive LineCause where
  | start | stop | stopEnd | pause | resume | slip | index | hold
  deriving DecidableEq, Repr, Inhabited

/-- The fields the three final events share (R14). -/
structure FinalFields where
  lane    : LaneId
  ticket  : Nat
  parcel  : Nat
  state   : ItemState
  grade   : Option Grade
  result  : Option MatchResult
  matched : Option (Nat × Nat)
  dest    : Option Dest
  laps    : Nat
  forced  : Bool
  deriving DecidableEq, Repr

/-- The fields of ITEM GRADED (R130). -/
structure GradedFields where
  ra         : Nat
  lane       : LaneId
  ticket     : Nat
  parcel     : Nat
  bank       : BankId
  result     : Option MatchResult
  line       : Option Nat
  category   : Option Nat
  penalty    : Nat
  cap        : Cap
  quarantine : Bool
  failed     : List Nat
  grade      : Option Grade
  shadow     : Option Grade
  route      : Option Route
  state      : ItemState
  forced     : Bool
  deriving DecidableEq, Repr

/-- The fields of CHECK FAILED (R131). -/
structure FailedFields where
  bank   : BankId
  check  : Nat
  place  : Nat
  piece  : Nat
  cause  : FailCause
  value  : Option Nat
  action : FailAction
  deriving DecidableEq, Repr

/-- Subject and detail fields of an event, by kind (R195 and the rules it names). -/
inductive EventBody where
  | itemPlaced (tote weight : Nat) (fields : FinalFields)
  | itemException (reason : ExcReason) (fields : FinalFields)
  | itemWithdrawn (reason : WithdrawReason) (fields : FinalFields)
  | itemGraded (fields : GradedFields)
  | checkFailed (fields : FailedFields)
  | manifestOverdue (ra : Nat) (lane : LaneId) (parcel account label : Nat)
  | parcelClosed (lane : LaneId) (parcel : Nat) (account : Option Nat) (cause : EndCause) (retired : Nat)
      (outcomes : List (Nat × RaOutcome × Nat))
  | stationDown (slot : SlotId) (address score sweep : Nat)
  | stationUp (slot : SlotId) (address maxScore sweep : Nat)
  | stationOrphan (slot : SlotId) (ticket : Nat) (kind : ReportKind)
  | lateMeasurement (slot : SlotId) (ticket : Nat) (kind : ReportKind) (cause : LateCause)
  | planSwitched (active other : BankId) (otherState : BankState) (otherBound : Nat)
  | planDrained (bank active : BankId)
  | sorterSlip (origin occupied : Nat)
  | indexMissing (origin occupied : Nat)
  | toteNearFull (tote dest count capacity weight : Nat)
  | toteComplete (tote dest count weight : Nat) (reason : CompletionReason) (firstDrop : Option Nat)
  | lotComplete (dest first last totes items : Nat)
  | destinationStalled (dest : Nat) (cause : ChainMode) (tote queued : Nat)
  | destinationStarved (dest : Nat)
  | lotOpenAtStop (dest first totes items : Nat)
  | lineState (mode : LineMode) (pause : Option PauseCause) (hold : Bool) (cause : LineCause)
  deriving DecidableEq, Repr

/-- An event record (R190). -/
structure Event where
  time : Nat
  item : Nat
  body : EventBody
  deriving DecidableEq, Repr

structure EventQueue where
  events  : List Event
  overrun : Bool
  deriving DecidableEq, Repr

/-- R193. -/
def EventQueue.cold : EventQueue := { events := [], overrun := false }

/-! ### Line Controller (R170, R178, R181) -/

structure LineControl where
  mode          : LineMode
  /-- the pause mark with its cause, present exactly while it is set -/
  pause         : Option PauseCause
  hold          : Bool
  /-- the level of the HOLD input -/
  holdPin       : Bool
  clock         : Nat
  /-- MANIFEST WAIT, s -/
  manifestWait  : Nat
  /-- DECISION WAIT, s -/
  decisionWait  : Nat
  /-- SWEEP PERIOD, ms -/
  sweepPeriod   : Nat
  downThreshold : Nat
  lapLimit      : Nat
  /-- GATE POSITION of gates 0 to 15 and, under 16, of gate E; a gate not listed is unset -/
  gatePositions : Table Nat
  /-- EVENT ENABLE by the event kind's code (R195) -/
  enables       : Table Bool
  deriving DecidableEq, Repr

/-- R181, R195: the kinds that are OFF after a cold reset are ITEM GRADED, CHECK FAILED, STATION ORPHAN, LATE MEASUREMENT
and TOTE NEAR FULL. -/
def coldEnables : Table Bool :=
  ⟨(List.range 22).map fun i => (i + 1, !([4, 5, 10, 11, 16].contains (i + 1)))⟩

/-- R178, R182: the Line Controller as a cold reset ends with HOLD at the given level. -/
def LineControl.cold (holdHigh : Bool) : LineControl :=
  { mode := .setup, pause := none, hold := holdHigh, holdPin := holdHigh, clock := 0, manifestWait := 60,
    decisionWait := 4, sweepPeriod := 20, downThreshold := 40, lapLimit := 3, gatePositions := Table.empty,
    enables := coldEnables }

/-! ### Replies (R187) -/

inductive RefusalReason where
  | full | duplicate | duplicateTag | notFound | inUse | outOfRange | contradiction | staleLabel | notOneAccount
  | alreadyComplete | laneIncomplete | lineState | bankBusy | notValid | notStalled | empty
  deriving DecidableEq, Repr, Inhabited

inductive Status where
  | done
  | refused (reason : RefusalReason)
  | busy
  | unknownRequest
  | malformed
  deriving DecidableEq, Repr, Inhabited

inductive FaultKind where
  | noProgram | noList | noCheck | badScope | thresholds | noMapCell
  deriving DecidableEq, Repr, Inhabited

/-- The report of R97. -/
structure PlanReport where
  states : Pair BankState
  valid  : Pair Bool
  bound  : Pair Nat
  edit   : BankId
  shadow : OnOff
  deriving DecidableEq, Repr

/-- What READ ITEM 0 returns (R19). -/
structure ItemSummary where
  live       : Nat
  measuring  : Nat
  decided    : Nat
  waiting    : Nat
  ready      : Nat
  sorting    : Nat
  bank0      : Nat
  bank1      : Nat
  nextNumber : Nat
  deriving DecidableEq, Repr

/-- One line as READ RETURN summarises it (R37). -/
structure LineSummary where
  sku          : Nat
  category     : Nat
  quantity     : Nat
  received     : Nat
  pieces       : Nat
  refWeight    : Nat
  tags         : Nat
  tagsReceived : Nat
  deriving DecidableEq, Repr

/-- The header READ RETURN returns (R37). -/
structure RaHeader where
  ra        : Nat
  account   : Nat
  label     : Nat
  reason    : Nat
  state     : RaState
  mismatch  : Bool
  closed    : Bool
  boundLane : Option LaneId
  matched   : Nat
  timer     : Option Nat
  lineCount : Nat
  deriving DecidableEq, Repr

/-- What READ RETURN 0 returns (R38). -/
structure ReturnSummary where
  records      : Nat
  loaded       : Nat
  bound        : Nat
  expected     : Nat
  overdue      : Nat
  complete     : Nat
  short        : Nat
  linesUsed    : Nat
  linesFree    : Nat
  tagsUsed     : Nat
  tagsFree     : Nat
  manifestWait : Nat
  deriving DecidableEq, Repr

/-- A slot as READ STATION reports it (R73). -/
structure StationReport where
  state         : SlotState
  address       : Option Nat
  score         : Nat
  maxScore      : Nat
  lastValid     : Option Nat
  sweepNumber   : Nat
  sweepPeriod   : Nat
  downThreshold : Nat
  deriving DecidableEq, Repr

/-- A destination's state with what R160 reports beside it: the current tote's ID, or the stall cause and stall tote ID. -/
inductive DestStatus where
  | starved
  | active (tote : Nat)
  | stalled (cause : ChainMode) (tote : Nat)
  deriving DecidableEq, Repr, Inhabited

/-- What the DONE reply of the five tote requests carries (R160). -/
structure DestReport where
  status : DestStatus
  queued : Nat
  deriving DecidableEq, Repr

/-- A destination's state alone, as READ STATUS and READ DESTINATION ALL give it (R166, R180). -/
inductive DestName where
  | starved | active | stalled
  deriving DecidableEq, Repr, Inhabited

/-- A lane as READ STATUS reports it (R180). -/
structure LaneReport where
  state        : LaneState
  usable       : Bool
  parcel       : Option Nat
  account      : Option Nat
  boundRas     : List Nat
  closeCause   : Option CloseCause
  queue        : List Nat
  timerRunning : Bool
  deriving DecidableEq, Repr

/-- What READ STATUS returns (R180). -/
structure StatusReport where
  mode      : LineMode
  pause     : Option PauseCause
  hold      : Bool
  suspended : Bool
  clock     : Nat
  lanes     : Quad LaneReport
  slots     : Quad (PerRole (SlotState × Nat))
  sweep     : Nat
  live      : Nat
  used      : Nat
  overrun   : Bool
  plan      : PlanReport
  origin    : Nat
  aligned   : Bool
  pointer   : LaneId
  occupied  : Nat
  dests     : List DestName
  freeTotes : Nat
  deriving DecidableEq, Repr

/-- The data after the reply head, by request (R187 and the rule of each request). -/
inductive ReplyData where
  /-- the head alone -/
  | headOnly
  | item (number : Nat) (record : Item)
  | itemSummary (summary : ItemSummary)
  /-- WITHDRAW ITEM: the state the item was in; RETIRED, or REDIRECTED -/
  | withdrawn (was : ItemState) (redirected : Bool)
  | forced (grade : Grade) (dest : Option Dest) (state : ItemState)
  /-- LOAD RETURN: CREATED or FILLED, the new state, MISMATCH, free line and tag entries -/
  | loaded (filled : Bool) (state : RaState) (mismatch : Bool) (freeLines freeTags : Nat)
  | listedTags (n : Nat)
  | raState (state : RaState)
  | entriesReturned (lines tags : Nat)
  | raRecord (header : RaHeader) (lines : List LineSummary)
  | raLine (line : Line)
  | returnSummary (summary : ReturnSummary)
  /-- OPEN PARCEL: the parcel number and, for each pair, BOUND (true) or EXPECTED (false) -/
  | parcelOpened (parcel : Nat) (bound : List Bool)
  | laneState (state : LaneState)
  | aborted (retired : Nat) (settled : Bool)
  | enrolled (slot : SlotId) (usable : Bool)
  | station (report : StationReport)
  | plan (report : PlanReport)
  | validated (fault : Option (FaultKind × Nat)) (report : PlanReport)
  | shadow (setting : OnOff) (computed : Bool) (report : PlanReport)
  | destination (report : DestReport)
  | toteAdded (report : DestReport) (free : Nat)
  | chainDropped (report : DestReport) (freed : Nat)
  | destinationRead (dest : Nat) (record : Destination)
  /-- READ DESTINATION ALL: the FREE descriptors; per destination its state, current tote ID and QUEUED descriptors -/
  | allDestinations (free : Nat) (dests : List (DestName × Option Nat × Nat))
  | started (usable : List LaneId)
  | paused (pause : Option PauseCause) (hold : Bool)
  | resumed (pause : Option PauseCause) (hold suspended : Bool)
  | stopped (mode : LineMode) (live notIdle : Nat)
  | setting (name : SettingName) (value : SettingValue)
  | status (report : StatusReport)
  | events (overrun : Bool) (records : List Event) (left : Nat)
  /-- a refused OPEN PARCEL: the RA number of the pair at fault (R51) -/
  | faultRa (ra : Nat)
  /-- a refused START LINE: the first unset gate; the two gates that share a position; the plan (R175) -/
  | faultGate (gate : Nat)
  | faultGates (first second : Nat)
  | faultPlan
  deriving DecidableEq, Repr

/-- A reply frame: tag and kind of the frame it answers, and its body (R187). -/
structure Reply where
  tag    : Nat
  kind   : Nat
  status : Status
  data   : ReplyData
  deriving DecidableEq, Repr

/-! ### Message Port (R184, R186) -/

/-- How far the reply of the request in service has come: formed and waiting for the transmitter, being sent, or sent (a
WARM RESET whose reset has not yet acted, R183). -/
inductive ReplyStage where
  | waiting (reply : Reply)
  | sending
  | sent
  deriving DecidableEq, Repr

/-- The request in service (R186). -/
structure Service where
  tag   : Nat
  kind  : Nat
  stage : ReplyStage
  deriving DecidableEq, Repr

/-- The reply the transmitter is sending: that of the request in service, or a BUSY reply. -/
inductive Sending where
  | service (reply : Reply)
  | busy (reply : Reply)
  deriving DecidableEq, Repr

structure Port where
  /-- the bytes of the part-received frame from its start byte on; none while the receiver hunts -/
  receiving : List Byte
  service   : Option Service
  sending   : Option Sending
  /-- the BUSY replies waiting, in the order they were formed -/
  waiting   : List Reply
  rate      : LinkRate
  deriving DecidableEq, Repr

/-- R193, with the rate the strap fixes. -/
def Port.cold (strap : LinkRate) : Port :=
  { receiving := [], service := none, sending := none, waiting := [], rate := strap }

end Sys2Proof.Machine
end

