-- ==== Sys2Proof/Machine/State.lean ====
section
/-! DEFINITION. The state of the block: what its blocks hold, and the queue of the commands that are waiting. -/

namespace Sys2Proof.Machine

/-- The whole state. The Grading Engine holds nothing that lasts beyond one decision (R112) and has no field. -/
structure State where
  port    : Port
  queue   : EventQueue
  line    : LineControl
  returns : ReturnTable
  lanes   : Quad Lane
  items   : ItemTable
  bus     : StationBus
  plan    : PlanStore
  sorter  : Sorter
  totes   : ToteStore
  /-- the commands waiting, first in first out (the model's own) -/
  pending : List Instr
  /-- how many free choices of order have been made (the model's own, log entry 3) -/
  draws   : Nat
  deriving DecidableEq, Repr

/-- The reasons a step can stop with a fault. There is none: the spec names no condition that stops the part. -/
inductive Fault where
  deriving DecidableEq, Repr

/-- The reasons a step can be refused. -/
inductive Refusal where
  /-- Raised by an arm of `exec` whose command has no meaning yet; safe. No arm raises it now. -/
  | notModelled (mnemonic : String)
  deriving DecidableEq, Repr

/-- Every block as a cold reset leaves it (R20, R47, R68, R90, R110, R149, R168, R182, R193), with the HOLD level and the
strap as the reset ends; the model's own fields are given. -/
def State.cold (holdHigh : Bool) (strap : LinkRate) (pending : List Instr) (draws : Nat) : State :=
  { port := Port.cold strap, queue := EventQueue.cold, line := LineControl.cold holdHigh, returns := ReturnTable.cold,
    lanes := Quad.all Lane.cold, items := ItemTable.cold, bus := StationBus.cold, plan := PlanStore.cold,
    sorter := Sorter.cold, totes := ToteStore.cold, pending := pending, draws := draws }

/-- The machine right after a cold reset that ends with HOLD low and the strap at 115200 baud (log entry 2), with no command
waiting. -/
def State.reset : State := State.cold false .baud115200 [] 0

end Sys2Proof.Machine
end

