-- ==== Sys2Proof/Machine/Flags.lean ====
section
/-! DEFINITION. The marks and conditions the blocks compute from what they hold: counts, suspension, usability, the edit
bank, whether an item is decided or settled, the free pool entries. -/

namespace Sys2Proof.Machine

/-! ### Counts of the Event Queue and the Item Table -/

/-- U, the records held by the Event Queue (R188). -/
def State.used (s : State) : Nat := s.queue.events.length

/-- P, the live item records (R1). -/
def State.live (s : State) : Nat := s.items.records.size

/-- ATTN is asserted while U is above 0 (R192). -/
def State.attn (s : State) : Bool := decide (0 < s.used)

/-- U plus P is below 256 (R55, R189). -/
def State.roomForEvent (s : State) : Bool := decide (s.used + s.live < Config.queueSize)

/-- The number of occupied carriers (R133). -/
def State.occupied (s : State) : Nat := s.sorter.carriers.size

/-! ### The line -/

/-- The line is suspended while the pause mark or the hold mark is set (R172). -/
def LineControl.suspended (l : LineControl) : Bool := l.pause.isSome || l.hold

def State.suspended (s : State) : Bool := s.line.suspended

def LineMode.isSetup : LineMode → Bool
  | .setup => true
  | .running => false
  | .draining _ => false

def LineMode.isRunning : LineMode → Bool
  | .setup => false
  | .running => true
  | .draining _ => false

def LineMode.isDraining : LineMode → Bool
  | .setup => false
  | .running => false
  | .draining _ => true

/-- Every lane is IDLE (R177). -/
def State.allLanesIdle (s : State) : Bool := s.lanes.toList.all fun l => decide (l.state = .idle)

/-- The number of lanes that are not IDLE (R176). -/
def State.lanesNotIdle (s : State) : Nat := (s.lanes.toList.filter fun l => decide (l.state ≠ .idle)).length

/-! ### The roster -/

def State.slot (s : State) (x : SlotId) : Slot := (s.bus.roster.at x.lane).at x.role

/-- A slot is enrolled when it is UP or DOWN (section 4.1). -/
def Slot.enrolled (x : Slot) : Bool := decide (x.state ≠ .vacant)

/-- A lane is usable when each of its five slots is enrolled (R50). -/
def State.usable (s : State) (l : LaneId) : Bool := (s.bus.roster.at l).toList.all Slot.enrolled

def allLanes : List LaneId := [.l1, .l2, .l3, .l4]

def allRoles : List Role := [.entry, .tag, .scale, .vision, .laneEnd]

/-- The twenty slots in roster order (R70). -/
def allSlots : List SlotId := allLanes.flatMap fun l => allRoles.map fun r => ⟨l, r⟩

/-! ### Items -/

/-- An item is decided when its grade is present (R7). -/
def Item.decided (it : Item) : Bool := it.grade.isSome

/-- An item is in lane while it is not SORTING (R12). -/
def Item.inLane (it : Item) : Bool := decide (it.state ≠ .sorting)

def Item.dest (it : Item) : Option Dest :=
  match it.route with
  | none => none
  | some (.tote d) => some (.gate d)
  | some (.exception _) => some .gateE

/-- The status of a measurement role; ENTRY and END have none and read as TAKEN. -/
def Item.status (it : Item) : Role → RoleStatus
  | .tag => it.tagStatus
  | .scale => it.scaleStatus
  | .vision => it.visionStatus
  | .entry => .taken
  | .laneEnd => .taken

def Item.withStatus (it : Item) (r : Role) (x : RoleStatus) : Item :=
  match r with
  | .tag => { it with tagStatus := x }
  | .scale => { it with scaleStatus := x }
  | .vision => { it with visionStatus := x }
  | .entry => it
  | .laneEnd => it

/-- The measurements are settled when no status is AWAITED (R113). -/
def Item.measured (it : Item) : Bool :=
  decide (it.tagStatus ≠ .awaited) && decide (it.scaleStatus ≠ .awaited) && decide (it.visionStatus ≠ .awaited)

/-- The live record of a lane with a ticket, with its item number (R84). -/
def State.itemByTicket (s : State) (l : LaneId) (ticket : Nat) : Option (Nat × Item) :=
  s.items.records.entries.find? fun e => decide (e.2.lane = l) && decide (e.2.ticket = ticket)

/-- The item is of the parcel of its lane (R49), and undecided. -/
def State.undecidedOf (s : State) (l : LaneId) (it : Item) : Bool :=
  decide (it.lane = l) && decide (it.parcel = (s.lanes.at l).parcelCounter) && !it.decided

/-- Some item of the lane's parcel is still undecided (R64). -/
def State.anyUndecided (s : State) (l : LaneId) : Bool :=
  s.items.records.entries.any fun e => s.undecidedOf l e.2

/-! ### Return authorisations -/

/-- A placeholder is EXPECTED or OVERDUE (R28). -/
def Ra.placeholder (r : Ra) : Bool := decide (r.state = .expected) || decide (r.state = .overdue)

/-- Bound to a lane's parcel: BOUND, EXPECTED or OVERDUE (R27). -/
def Ra.held (r : Ra) : Bool := decide (r.state = .bound) || r.placeholder

/-- A line has room while its received count is below its expected quantity (R41). -/
def Line.hasRoom (l : Line) : Bool := decide (l.received < l.quantity)

/-- R25. -/
def Ra.fullyReceived (r : Ra) : Bool := r.lines.all fun l => decide (l.received = l.quantity)

def Ra.tagCount (r : Ra) : Nat := (r.lines.map fun l => l.tags.length).sum

/-- Line entries in use (R23). -/
def State.linesUsed (s : State) : Nat := (s.returns.records.values.map fun r => r.lines.length).sum

/-- Tag entries in use (R23). -/
def State.tagsUsed (s : State) : Nat := (s.returns.records.values.map Ra.tagCount).sum

def State.linesFree (s : State) : Nat := Config.linePool - s.linesUsed

def State.tagsFree (s : State) : Nat := Config.tagPool - s.tagsUsed

/-- The records of the lane's bound RAs, in binding order, with their numbers (R39). -/
def State.boundRecords (s : State) (l : LaneId) : List (Nat × Ra) :=
  (s.lanes.at l).boundRas.filterMap fun n => (s.returns.records.lookup n).map fun r => (n, r)

/-- The RAs a match searches: the lane's bound RAs in state BOUND (R39). -/
def State.searchedRas (s : State) (l : LaneId) : List (Nat × Ra) :=
  (s.boundRecords l).filter fun e => decide (e.2.state = .bound)

/-- The item's RA question is settled (R114). -/
def State.raSettled (s : State) (it : Item) : Bool :=
  match it.tagState with
  | .read code =>
    ((s.searchedRas it.lane).any fun e => e.2.lines.any fun l => decide (l.sku = code.sku)) ||
      !((s.boundRecords it.lane).any fun e => decide (e.2.state = .expected))
  | .noTag => true
  | .corrupt => true
  | .conflict => true

/-! ### Plan banks -/

def otherBank : BankId → BankId
  | .b0 => .b1
  | .b1 => .b0

/-- The bank that is ACTIVE, if one is. -/
def State.activeBank (s : State) : Option BankId :=
  if s.plan.banks.b0.state = .active then some .b0
  else if s.plan.banks.b1.state = .active then some .b1
  else none

/-- The bank that is not ACTIVE, and bank 0 if neither is (R98). -/
def State.editBank (s : State) : BankId := if s.plan.banks.b0.state = .active then .b1 else .b0

/-- The second condition of R108: the edit bank is STANDBY with its VALID mark set. -/
def State.editReady (s : State) : Bool :=
  decide ((s.plan.banks.at s.editBank).state = .standby) && (s.plan.banks.at s.editBank).valid

/-- The shadow grade is computed (R108). -/
def State.shadowComputed (s : State) : Bool := decide (s.plan.shadow = .on) && s.editReady

/-! ### Destinations -/

def State.dest (s : State) (d : Nat) : Destination := (s.totes.dests.lookup d).getD Destination.cold

/-- The descriptors of a destination's chain. -/
def Destination.totes (x : Destination) : List Tote :=
  match x.state with
  | .active t => t :: x.queued
  | .starved => x.queued
  | .stalled _ _ => x.queued

/-- Every descriptor that is not FREE. -/
def State.allTotes (s : State) : List Tote := s.totes.dests.values.flatMap Destination.totes

/-- The FREE descriptors (R153). -/
def State.freeTotes (s : State) : Nat := Config.totePool - s.allTotes.length

end Sys2Proof.Machine
end

