-- ==== Sys2Proof/Machine/Ops.lean ====
section
/-! DEFINITION. The named operations the commands share: changing one entry of a block, offering events, replying,
settlement, retirement, the end of a stop, the choice of an order the spec leaves open. -/

namespace Sys2Proof.Machine

/-! ### Counters and orders -/

/-- The value after `n` of a counter that runs from `lo` to `hi` and wraps (00_scope.md, Conventions). -/
def wrapNext (lo hi n : Nat) : Nat := if n < hi then n + 1 else lo

/-- One of the orders of a list, named by a number. A list of fewer than two entries has only one. -/
def permuteBy {α : Type} : Nat → Nat → List α → List α
  | _, _, [] => []
  | _, _, [x] => [x]
  | 0, _, l => l
  | fuel + 1, k, x :: y :: rest =>
    let l := x :: y :: rest
    let i := k % l.length
    l.getD i x :: permuteBy fuel (k / l.length) (l.eraseIdx i)

/-- The acts in the order in which they happen to be taken, where the spec orders them not at all (R134, R67, R190): a free
value chooses the order, and only where there are two acts or more. -/
def State.freeOrder {α : Type} (s : State) (acts : List α) : List α :=
  permuteBy acts.length (Config.freeOrder s.draws) acts

/-- Count a free choice that was made. -/
def State.countDraw (s : State) (choices : Nat) : State :=
  if choices < 2 then s else { s with draws := s.draws + 1 }

/-! ### One entry of a block -/

def State.modLane (s : State) (l : LaneId) (f : Lane → Lane) : State := { s with lanes := s.lanes.modify l f }

def State.modItem (s : State) (n : Nat) (f : Item → Item) : State :=
  { s with items := { s.items with records := s.items.records.modify n f } }

def State.modRa (s : State) (n : Nat) (f : Ra → Ra) : State :=
  { s with returns := { s.returns with records := s.returns.records.modify n f } }

def State.putRa (s : State) (n : Nat) (r : Ra) : State :=
  { s with returns := { s.returns with records := s.returns.records.put n r } }

def State.removeRa (s : State) (n : Nat) : State :=
  { s with returns := { s.returns with records := s.returns.records.remove n } }

def State.modSlot (s : State) (x : SlotId) (f : Slot → Slot) : State :=
  { s with bus := { s.bus with roster := s.bus.roster.modify x.lane fun lane => lane.modify x.role f } }

def State.modBank (s : State) (b : BankId) (f : Bank → Bank) : State :=
  { s with plan := { s.plan with banks := s.plan.banks.modify b f } }

def State.modDest (s : State) (d : Nat) (f : Destination → Destination) : State :=
  { s with totes := { s.totes with dests := s.totes.dests.modify d f } }

def State.item (s : State) (n : Nat) : Option Item := s.items.records.lookup n

def State.ra (s : State) (n : Nat) : Option Ra := s.returns.records.lookup n

/-! ### Events (R181, R188 to R190) -/

/-- The kind of an event. -/
def EventBody.kind : EventBody → EventKind
  | .itemPlaced .. => .itemPlaced
  | .itemException .. => .itemException
  | .itemWithdrawn .. => .itemWithdrawn
  | .itemGraded .. => .itemGraded
  | .checkFailed .. => .checkFailed
  | .manifestOverdue .. => .manifestOverdue
  | .parcelClosed .. => .parcelClosed
  | .stationDown .. => .stationDown
  | .stationUp .. => .stationUp
  | .stationOrphan .. => .stationOrphan
  | .lateMeasurement .. => .lateMeasurement
  | .planSwitched .. => .planSwitched
  | .planDrained .. => .planDrained
  | .sorterSlip .. => .sorterSlip
  | .indexMissing .. => .indexMissing
  | .toteNearFull .. => .toteNearFull
  | .toteComplete .. => .toteComplete
  | .lotComplete .. => .lotComplete
  | .destinationStalled .. => .destinationStalled
  | .destinationStarved .. => .destinationStarved
  | .lotOpenAtStop .. => .lotOpenAtStop
  | .lineState .. => .lineState

/-- The code of an event kind (R195). -/
def EventKind.code : EventKind → Nat
  | .itemPlaced => 1
  | .itemException => 2
  | .itemWithdrawn => 3
  | .itemGraded => 4
  | .checkFailed => 5
  | .manifestOverdue => 6
  | .parcelClosed => 7
  | .stationDown => 8
  | .stationUp => 9
  | .stationOrphan => 10
  | .lateMeasurement => 11
  | .planSwitched => 12
  | .planDrained => 13
  | .sorterSlip => 14
  | .indexMissing => 15
  | .toteNearFull => 16
  | .toteComplete => 17
  | .lotComplete => 18
  | .destinationStalled => 19
  | .destinationStarved => 20
  | .lotOpenAtStop => 21
  | .lineState => 22

/-- The enable of an event kind (R181). -/
def State.enabled (s : State) (k : EventKind) : Bool := (s.line.enables.lookup k.code).getD true

/-- Offer a non-final event: discarded when its kind is disabled, stored while U plus P is below 256, otherwise dropped with
the overrun flag set (R181, R189). Its time is the line clock (R190). -/
def State.offer (s : State) (item : Nat) (body : EventBody) : State :=
  if s.enabled body.kind then
    if s.roomForEvent then
      { s with queue := { s.queue with events := s.queue.events ++ [⟨s.line.clock, item, body⟩] } }
    else { s with queue := { s.queue with overrun := true } }
  else s

/-- Offer LINE STATE with its cause (R170). -/
def State.offerLineState (s : State) (cause : LineCause) : State :=
  s.offer 0 (.lineState s.line.mode s.line.pause s.line.hold cause)

/-- The Sorter Tracker's or the host's setting of the pause mark: a mark already set keeps its cause (R145, R146, R173). -/
def State.setPause (s : State) (why : PauseCause) (cause : LineCause) : State :=
  if s.line.pause.isSome then s
  else State.offerLineState { s with line := { s.line with pause := some why } } cause

/-! ### The end of a stop (R177) -/

/-- The end test: in DRAINING, with every lane IDLE and the Item Table empty, the mode becomes SETUP. -/
def State.endTest (s : State) : State :=
  if s.line.mode.isDraining && s.allLanesIdle && decide (s.live = 0) then
    State.offerLineState { s with line := { s.line with mode := .setup } } .stopEnd
  else s

/-! ### Settlement (R64, R65) -/

/-- What settlement reports of a bound RA: its outcome, and its matched in binding (0 for NO MANIFEST). -/
def Ra.outcome (r : Ra) : RaOutcome × Nat :=
  if r.placeholder then (.noManifest, 0)
  else if r.fullyReceived then (.complete, r.matched)
  else (.short, r.matched)

/-- A BOUND record as settlement leaves it (R65). -/
def Ra.settled (r : Ra) : Ra :=
  { r with state := if r.fullyReceived then .complete else .short, closed := true, boundLane := none, mismatch := false }

/-- Settle one bound RA: a placeholder is freed, a BOUND record becomes COMPLETE or SHORT (R65, step 1). -/
def State.settleRa (s : State) (n : Nat) : State :=
  match s.ra n with
  | none => s
  | some r => if r.placeholder then s.removeRa n else s.modRa n Ra.settled

/-- The outcomes PARCEL CLOSED carries, in binding order (R65, step 2). -/
def State.outcomes (s : State) (l : LaneId) : List (Nat × RaOutcome × Nat) :=
  (s.boundRecords l).map fun e => (e.1, e.2.outcome)

/-- Settle the lane's parcel (R65). -/
def State.settle (s : State) (l : LaneId) (cause : EndCause) (retired : Nat) : State :=
  let lane := s.lanes.at l
  let body := EventBody.parcelClosed l lane.parcelCounter lane.account cause retired (s.outcomes l)
  let s := lane.boundRas.foldl State.settleRa s
  let s := s.offer 0 body
  let s := s.modLane l fun x => { x with boundRas := [], account := none, closeCause := none, state := .idle }
  s.endTest

def CloseCause.endCause : CloseCause → EndCause
  | .host => .host
  | .key => .key

/-- The settlement test of a CLOSING lane (R64). -/
def State.settlementTest (s : State) (l : LaneId) : State :=
  if (s.lanes.at l).state = .closing && !s.anyUndecided l then
    s.settle l (((s.lanes.at l).closeCause.map CloseCause.endCause).getD .host) 0
  else s

/-! ### Retirement (R13) -/

/-- The fields the final events share, as the record holds them (R14). An item in lane has made no lap. -/
def Item.finalFields (it : Item) : FinalFields :=
  { lane := it.lane, ticket := it.ticket, parcel := it.parcel, state := it.state, grade := it.grade, result := it.result,
    matched := it.matched, dest := it.dest, laps := if it.inLane then 0 else it.laps, forced := it.forced }

/-- Take an item out of its lane's queue; a decision-wait timer that belongs to it stops (R57, R61). -/
def Lane.dropItem (x : Lane) (n : Nat) : Lane :=
  { x with queue := x.queue.filter fun m => m ≠ n,
           timer := x.timer.filter fun t => t.item ≠ n }

/-- Steps 1 and 2 of R13: the item leaves its lane queue or its carrier and the table, and its final event is stored. -/
def State.closeRecord (s : State) (n : Nat) (it : Item) (final : EventBody) : State :=
  let s := s.modLane it.lane fun x => x.dropItem n
  { s with
    sorter := { s.sorter with carriers := ⟨s.sorter.carriers.entries.filter fun e => e.2 ≠ n⟩ }
    items := { s.items with records := s.items.records.remove n }
    queue := { s.queue with events := s.queue.events ++ [⟨s.line.clock, n, final⟩] } }

/-- Step 3 of R13: the bound-item count falls, and a DRAINING bank whose count reaches 0 becomes STANDBY (R106). -/
def State.releaseBank (s : State) (b : BankId) : State :=
  let bank := s.plan.banks.at b
  let left := bank.bound - 1
  if bank.state = .draining ∧ left = 0 then
    (s.modBank b fun x => { x with bound := left, state := .standby, valid := true }).offer 0 (.planDrained b (otherBank b))
  else s.modBank b fun x => { x with bound := left }

/-- Steps 3 to 5 of R13. Within an abort the lane is not told of each undecided item (R64). -/
def State.afterRetirement (s : State) (it : Item) (tellLane : Bool) : State :=
  let s := s.releaseBank it.bank
  let s := if tellLane && !it.decided then s.settlementTest it.lane else s
  if s.live = 0 then s.endTest else s

/-- Retire a live item with ITEM WITHDRAWN (R13, R14). An item that is not live is not retired again. -/
def State.withdraw (s : State) (n : Nat) (reason : WithdrawReason) (tellLane : Bool) : State :=
  match s.item n with
  | none => s
  | some it => (s.closeRecord n it (.itemWithdrawn reason it.finalFields)).afterRetirement it tellLane

/-! ### Routing (R8) -/

/-- A cause with a holding reason acts on an item: a reason already held stays, MAPPED or none gives way (R8). -/
def Item.sendToE (it : Item) (reason : ExcReason) : Item :=
  match it.route with
  | some (.exception .mapped) => { it with route := some (.exception reason) }
  | some (.exception _) => it
  | some (.tote _) => { it with route := some (.exception reason) }
  | none => { it with route := some (.exception reason) }

/-- The item holds a holding reason (R8). -/
def Item.held (it : Item) : Bool :=
  match it.route with
  | some (.exception .mapped) => false
  | some (.exception _) => true
  | some (.tote _) => false
  | none => false

/-- What a cell of the destination map gives an item (R96, R127). -/
def Route.ofCell : Dest → Route
  | .gate d => .tote d
  | .gateE => .exception .mapped

/-! ### Aborts (R66, R67) -/

/-- Clear a lane: retire its queue head to tail, drop its pending verdict, and settle its parcel if one is bound. -/
def State.abort (s : State) (l : LaneId) (reason : WithdrawReason) (cause : EndCause) : State :=
  let lane := s.lanes.at l
  let s := lane.queue.foldl (fun s n => s.withdraw n reason false) s
  let s := s.modLane l fun x => { x with queue := [], verdict := .none, timer := none }
  if lane.state = .idle then s else s.settle l cause lane.queue.length

/-! ### Replies (R185 to R187) -/

/-- What a block gives as the outcome of a request, beside the state it leaves. -/
structure Answer where
  state  : State
  status : Status
  data   : ReplyData

def State.done (s : State) (data : ReplyData) : Answer := ⟨s, .done, data⟩

def State.refuse (s : State) (reason : RefusalReason) : Answer := ⟨s, .refused reason, .headOnly⟩

def State.refuseWith (s : State) (reason : RefusalReason) (data : ReplyData) : Answer := ⟨s, .refused reason, data⟩

/-- The reply of the request taken into service: sent at once when the transmitter is free, otherwise next (R186). -/
def State.reply (s : State) (r : Reply) : State :=
  match s.port.sending with
  | none => { s with port := { s.port with service := some ⟨r.tag, r.kind, .sending⟩, sending := some (.service r) } }
  | some _ => { s with port := { s.port with service := some ⟨r.tag, r.kind, .waiting r⟩ } }

/-- A frame received while a request is in service: answered BUSY, or discarded while 4 BUSY replies wait (R186). -/
def State.answerBusy (s : State) (tag kind : Nat) : State :=
  let r : Reply := ⟨tag, kind, .busy, .headOnly⟩
  if s.port.waiting.length < Config.maxBusy then
    match s.port.sending with
    | none => { s with port := { s.port with sending := some (.busy r) } }
    | some _ => { s with port := { s.port with waiting := s.port.waiting ++ [r] } }
  else s

/-- A whole frame was received: the receiver hunts again (R184). -/
def State.frameTaken (s : State) : State := { s with port := { s.port with receiving := [] } }

/-- A received frame of the given tag and kind: BUSY while a request is in service, otherwise it is taken into service, the
owning block acts, and the reply is formed from its outcome (R185, R186). That it is taken also while four BUSY replies wait, which
a WARM RESET that has acted can leave, is the model's choice (log entry 6). -/
def State.serve (s : State) (tag kind : Nat) (act : State → Answer) : State :=
  let s := s.frameTaken
  if s.port.service.isSome then s.answerBusy tag kind
  else
    let a := act s
    a.state.reply ⟨tag, kind, a.status, a.data⟩

/-- The transmitter is free: the reply of the request in service goes first, then the BUSY replies in order (R186). -/
def Port.sendNext (p : Port) : Port :=
  match p.service with
  | some ⟨tag, kind, .waiting r⟩ => { p with service := some ⟨tag, kind, .sending⟩, sending := some (.service r) }
  | _ =>
    match p.waiting with
    | [] => { p with sending := none }
    | r :: rest => { p with sending := some (.busy r), waiting := rest }

end Sys2Proof.Machine
end

