-- ==== Sys2Proof/Machine/Operands.lean ====
section
/-! DEFINITION. The operands of the commands: the lane, slot, gate and destination a number names, the ranges of every
request's fields, and the ranges of a station answer's data. -/

namespace Sys2Proof.Machine

/-- The lane a lane byte names (1 to 4). -/
def laneOf : Nat → Option LaneId
  | 1 => some .l1
  | 2 => some .l2
  | 3 => some .l3
  | 4 => some .l4
  | _ => none

/-- The number of a lane. -/
def laneNumber : LaneId → Nat
  | .l1 => 1
  | .l2 => 2
  | .l3 => 3
  | .l4 => 4

/-- The lane after a lane, lane 4 followed by lane 1 (R138). -/
def nextLane : LaneId → LaneId
  | .l1 => .l2
  | .l2 => .l3
  | .l3 => .l4
  | .l4 => .l1

/-- The four lanes from one on, upward and round (R138). -/
def lanesFrom (l : LaneId) : List LaneId := [l, nextLane l, nextLane (nextLane l), nextLane (nextLane (nextLane l))]

/-- A value of an enumeration byte's list, if the byte names one. -/
def coded {α : Type} : Coded α → Option α
  | .known a => some a
  | .beyond _ => none

/-- The slot a lane byte and a role byte name (R71). -/
def slotOf (lane : Nat) (role : Coded Role) : Option SlotId :=
  match laneOf lane, coded role with
  | some l, some r => some ⟨l, r⟩
  | _, _ => none

/-- A destination byte of the map: 0 to 15, and 16 for E (R102, R196). -/
def destOf (n : Nat) : Option Dest :=
  if n < 16 then some (.gate n) else if n = 16 then some .gateE else none

/-! ### LOAD RETURN and ADD TAGS (R31, R34) -/

/-- R31, test 1, for one line. A SKU above 24 bits is outside the field's range (R25, R185). -/
def LineLoad.inRange (l : LineLoad) : Bool :=
  decide (l.sku ≤ 16777215) && decide (l.category ≤ 30) && decide (1 ≤ l.quantity) && decide (l.quantity ≤ 15) &&
    decide (1 ≤ l.pieces) && decide (l.pieces ≤ 8) && decide (l.refWeight ≤ 30000) &&
    decide (l.tags.length ≤ l.quantity) && l.tags.all fun c => decide (c.sku = l.sku)

/-- R31, test 1. -/
def loadInRange (r : ReturnLoad) : Bool :=
  decide (r.ra ≠ 0) && decide (1 ≤ r.lines.length) && decide (r.lines.length ≤ 16) && decide (r.reason ≤ 15) &&
    r.lines.all LineLoad.inRange

/-- Every tag code the request lists, in order. -/
def loadTags (r : ReturnLoad) : List TagCode := r.lines.flatMap LineLoad.tags

/-- Some entry appears twice. -/
def hasRepeat {α : Type} [DecidableEq α] : List α → Bool
  | [] => false
  | a :: rest => rest.contains a || hasRepeat rest

/-- A line as it is loaded: received count 0, every received mark clear (R32). -/
def LineLoad.toLine (l : LineLoad) : Line :=
  { sku := l.sku, category := l.category, quantity := l.quantity, received := 0, pieces := l.pieces,
    refWeight := l.refWeight, tags := l.tags.map fun c => ⟨c, false⟩ }

/-- Line number i of a record, counting from 1 (R24). -/
def Ra.line (r : Ra) (i : Nat) : Option Line := if i = 0 then none else r.lines[i - 1]?

def Ra.modLine (r : Ra) (i : Nat) (f : Line → Line) : Ra :=
  if i = 0 then r else { r with lines := r.lines.modify (i - 1) f }

/-- The code is listed on some line of the RA (R34, test 4). -/
def Ra.lists (r : Ra) (c : TagCode) : Bool := r.lines.any fun l => l.tags.any fun t => decide (t.code = c)

/-! ### Plan entries (R99 to R102) -/

/-- The limits a WRITE CHECK stores; the upper limit only for WITHIN (R100). -/
def limitsOf (test : TestKind) (lower upper : Nat) : Limits :=
  match test with
  | .atMost => .atMost lower
  | .atLeast => .atLeast lower
  | .within => .within lower upper
  | .equals => .equals lower
  | .notEquals => .notEquals lower

/-- A PENALTY of amount 0 is out of range (R100). -/
def FailAction.amountOk : FailAction → Bool
  | .penalty n => decide (1 ≤ n) && decide (n ≤ 255)
  | .capB => true
  | .capC => true
  | .capD => true
  | .quarantine => true

/-- The check record the fields of a WRITE CHECK describe, if every one is in range (R100). -/
def checkOf (f : CheckFields) : Option Check :=
  match coded f.source, coded f.scope, coded f.test, coded f.action, coded f.missing with
  | some source, some scope, some test, some action, some missing =>
    if decide (test = .within) && decide (f.upper < f.lower) then none
    else if FailAction.amountOk action then
      some ⟨source, scope, limitsOf test f.lower f.upper, action, missing⟩
    else none
  | _, _, _, _, _ => none

/-- R101. -/
def listInRange (number : Nat) (entries : List Nat) : Bool :=
  decide (number ≤ 31) && decide (1 ≤ entries.length) && decide (entries.length ≤ 24) &&
    entries.all fun c => decide (c ≤ 127)

/-- R101. -/
def programInRange (category list group nominal pieces : Nat) : Bool :=
  decide (category ≤ 31) && decide (list ≤ 31) && decide (group ≤ 3) && decide (1 ≤ nominal) &&
    decide (nominal ≤ 30000) && decide (1 ≤ pieces) && decide (pieces ≤ 8)

/-- R102. -/
def cellsInRange (cells : List (Nat × Nat)) : Bool :=
  decide (1 ≤ cells.length) && decide (cells.length ≤ 20) &&
    cells.all fun c => decide (c.1 ≤ 19) && decide (c.2 ≤ 16)

/-! ### Totes (R160, R161) -/

/-- R161, test 1, and the destination and flags of R160. -/
def toteInRange (dest tote capacity weightLimit warnAt : Nat) (pause lotEnd : Coded Mark) : Bool :=
  decide (dest ≤ 15) && decide (tote ≠ 0) && decide (1 ≤ capacity) && decide (capacity ≤ 60) &&
    decide (500 ≤ weightLimit) && decide (weightLimit ≤ 25000) && decide (warnAt < capacity) &&
    (coded pause).isSome && (coded lotEnd).isSome

def markSet : Coded Mark → Bool
  | .known .set => true
  | .known .clear => false
  | .beyond _ => false

/-! ### Settings (R178, R179) -/

/-- R179, test 1: the name is a setting, and its index is one the setting has. -/
def settingExists : SettingName → Bool
  | .manifestWait => true
  | .decisionWait => true
  | .sweepPeriod => true
  | .downThreshold => true
  | .lapLimit => true
  | .gatePosition g => decide (g ≤ 16)
  | .chainMode d => decide (d ≤ 15)
  | .eventEnable k => decide (1 ≤ k) && decide (k ≤ 22)
  | .beyond _ => false

/-- The settings written in SETUP only (R178). -/
def setupOnly : SettingName → Bool
  | .sweepPeriod => true
  | .gatePosition _ => true
  | .chainMode _ => true
  | .manifestWait => false
  | .decisionWait => false
  | .downThreshold => false
  | .lapLimit => false
  | .eventEnable _ => false
  | .beyond _ => false

/-- R179, test 3: the value is one of the setting's values, and not OFF for a final event kind. -/
def settingAdmits : SettingName → SettingValue → Bool
  | .manifestWait, .num n => decide (5 ≤ n) && decide (n ≤ 600)
  | .decisionWait, .num n => decide (1 ≤ n) && decide (n ≤ 30)
  | .sweepPeriod, .num n => decide (5 ≤ n) && decide (n ≤ 100)
  | .downThreshold, .num n => decide (8 ≤ n) && decide (n ≤ 248)
  | .lapLimit, .num n => decide (1 ≤ n) && decide (n ≤ 7)
  | .gatePosition _, .num n => decide (1 ≤ n) && decide (n ≤ 95)
  | .gatePosition _, .unset => true
  | .chainMode _, .mode (.known _) => true
  | .eventEnable _, .enable (.known .on) => true
  | .eventEnable k, .enable (.known .off) => decide (3 < k)
  | _, _ => false

/-! ### Answers (R76, R77) -/

def PieceScores.inRange (p : PieceScores) : Bool :=
  decide (p.stain ≤ 100) && decide (p.tear ≤ 100) && decide (p.wear ≤ 100) && decide (p.crease ≤ 100) &&
    decide (p.swingTag ≤ 1) && decide (p.colour ≤ 100)

/-- R77: zero to four codes, each with a check result. -/
def codesInRange (codes : List (TagCode × Coded CheckResult)) : Bool :=
  decide (codes.length ≤ 4) && codes.all fun c => (coded c.2).isSome

/-- R77. -/
def piecesInRange (pieces : List PieceScores) : Bool :=
  decide (1 ≤ pieces.length) && decide (pieces.length ≤ 8) && pieces.all fun p => PieceScores.inRange p

end Sys2Proof.Machine
end

