-- ==== Sys2Proof/Machine/Matching.lean ====
section
/-! DEFINITION. The match the Return Table performs for the Grading Engine (R39 to R46): the search of the parcel's loaded
RAs, the result with what it returns, and the count changes. -/

namespace Sys2Proof.Machine

/-- What a match returns with its result (R44). -/
structure MatchReturn where
  result    : MatchResult
  matched   : Option (Nat × Nat)
  category  : Nat
  pieces    : Option Nat
  refWeight : Option Nat
  reason    : Option Nat
  deriving DecidableEq, Repr

/-- A line as the search meets it: its RA's number and record, its index from 1, the line. -/
structure Found where
  number : Nat
  ra     : Ra
  index  : Nat
  line   : Line
  deriving DecidableEq, Repr

/-- Number the lines of a record from `i` on. -/
def numberLines (number : Nat) (ra : Ra) : Nat → List Line → List Found
  | _, [] => []
  | i, l :: rest => ⟨number, ra, i, l⟩ :: numberLines number ra (i + 1) rest

/-- The lines in search order: binding order, then line index order (R39). -/
def searchLines (ras : List (Nat × Ra)) : List Found := ras.flatMap fun e => numberLines e.1 e.2 1 e.2.lines

/-- The line lists the code with the given received mark. -/
def Line.listsWith (l : Line) (c : TagCode) (received : Bool) : Bool :=
  l.tags.any fun t => decide (t.code = c) && decide (t.received = received)

/-- The line lists tags, or none (R42). -/
def Line.unlistedResult (l : Line) : MatchResult := if l.tags.isEmpty then .skuOnly else .unlisted

/-- Where the search for a READ tag code ends (R41, R42): a result, and the line it rests on. -/
def findMatch (lines : List Found) (placeholder : Bool) (c : TagCode) : MatchResult × Option Found :=
  match lines.find? fun f => f.line.listsWith c false && f.line.hasRoom with
  | some f => (.exact, some f)
  | none =>
    match lines.find? fun f => f.line.listsWith c true with
    | some f => (.repeated, some f)
    | none =>
      match lines.find? fun f => decide (f.line.sku = c.sku) && f.line.hasRoom with
      | some f => (f.line.unlistedResult, some f)
      | none =>
        match lines.find? fun f => decide (f.line.sku = c.sku) with
        | some f => (.over, some f)
        | none => (if placeholder then .noReturn else .stray, none)

/-- The results that count an item against a line (R45). -/
def MatchResult.counts : MatchResult → Bool
  | .exact => true
  | .skuOnly => true
  | .unlisted => true
  | .repeated => false
  | .over => false
  | .stray => false
  | .noReturn => false
  | .staleLabel => false
  | .unread => false
  | .forced => false

/-- R43: a counting result in an RA whose label-mismatch mark is set is STALE LABEL instead. -/
def staleIfMismatch : MatchResult × Option Found → MatchResult × Option Found
  | (r, some f) => if r.counts && f.ra.mismatch then (.staleLabel, some f) else (r, some f)
  | (r, none) => (r, none)

/-- What a result with its line returns to the Grading Engine (R44). -/
def matchReturn : MatchResult × Option Found → MatchReturn
  | (r, some f) =>
    if r.counts || decide (r = .staleLabel) then
      ⟨r, some (f.number, f.index), f.line.category, some f.line.pieces, some f.line.refWeight, some f.ra.reason⟩
    else ⟨r, none, f.line.category, some f.line.pieces, some f.line.refWeight, none⟩
  | (r, none) => ⟨r, none, 31, none, none, none⟩

/-- Set the received mark of a listed code (R45). -/
def markReceived (tags : List ListedTag) (c : TagCode) : List ListedTag :=
  tags.map fun t => if t.code = c then { t with received := true } else t

/-- The count changes of a counting result on one record (R45). -/
def Ra.countMatch (ra : Ra) (index : Nat) (r : MatchResult) (c : TagCode) : Ra :=
  { ra.modLine index (fun l =>
      { l with received := l.received + 1, tags := if r = .exact then markReceived l.tags c else l.tags }) with
    matched := ra.matched + 1 }

/-- The outcome of the search for an item (R39 to R43). -/
def State.searchFor (s : State) (it : Item) : MatchResult × Option Found :=
  match it.tagState with
  | .read c =>
    staleIfMismatch
      (findMatch (searchLines (s.searchedRas it.lane)) ((s.boundRecords it.lane).any fun e => e.2.placeholder) c)
  | .noTag => (.unread, none)
  | .corrupt => (.unread, none)
  | .conflict => (.unread, none)

/-- The count changes the search's outcome calls for (R45). -/
def State.countFound (s : State) (it : Item) : MatchResult × Option Found → State
  | (r, some f) =>
    match it.tagState with
    | .read c => if r.counts then s.modRa f.number fun ra => ra.countMatch f.index r c else s
    | .noTag => s
    | .corrupt => s
    | .conflict => s
  | (_, none) => s

end Sys2Proof.Machine
end

