-- ==== Sys2Proof/Machine/Grading.lean ====
section
/-! DEFINITION. The Grading Engine (R112 to R131): the sources and the run of a program's list, the grade, the destination,
the shadow grade, the decision as one act, and the test that decides an item when it is ready. -/

namespace Sys2Proof.Machine

/-! ### Plan entries, which are always defined when they are read (R118, R127; log entry 4) -/

def Bank.program (b : Bank) (category : Nat) : Program := (b.programs.lookup category).getD Config.freeProgram

def Bank.list (b : Bank) (n : Nat) : List Nat := (b.lists.lookup n).getD Config.freeList

def Bank.check (b : Bank) (n : Nat) : Check := (b.checks.lookup n).getD Config.freeCheck

def Bank.levels (b : Bank) : Thresholds := b.thresholds.getD Config.freeThresholds

/-- The place of a grade in the destination map (R96). -/
def gradePlace : Grade → Nat
  | .a => 0
  | .b => 1
  | .c => 2
  | .d => 3
  | .q => 4

/-- The number of the cell at a grade and a group (R96). -/
def cellNumber (g : Grade) (group : Nat) : Nat := 4 * gradePlace g + group

def Bank.cell (b : Bank) (g : Grade) (group : Nat) : Dest := (b.map.lookup (cellNumber g group)).getD Config.freeCell

/-- Where the bank's map sends a grade in a category's group, with the exception reason (R127). -/
def Bank.routeFor (b : Bank) (g : Grade) (category : Nat) : Route := Route.ofCell (b.cell g (b.program category).group)

/-! ### Sources (R121 to R123) -/

/-- What the sources read: the item, its expected pieces, and what the match returned. -/
structure Evidence where
  item      : Item
  expected  : Nat
  result    : MatchResult
  refWeight : Option Nat
  reason    : Option Nat

/-- The highest of a list of scores; none of an empty list. -/
def highest : List Nat → Option Nat
  | [] => none
  | a :: rest => some (rest.foldl max a)

/-- The lowest of a list of scores; none of an empty list. -/
def lowest : List Nat → Option Nat
  | [] => none
  | a :: rest => some (rest.foldl min a)

/-- A vision source's score in one piece; none for the other sources. -/
def visionScore : Source → Option (PieceScores → Nat)
  | .stain => some PieceScores.stain
  | .tear => some PieceScores.tear
  | .wear => some PieceScores.wear
  | .crease => some PieceScores.crease
  | .swingTag => some PieceScores.swingTag
  | .colour => some PieceScores.colour
  | .tagState => none
  | .matchResult => none
  | .weightDeviation => none
  | .piecesShort => none
  | .reason => none

/-- The worst of a vision source is the highest score, but the lowest for SWING TAG and COLOUR (R121). -/
def worstIsLow : Source → Bool
  | .swingTag => true
  | .colour => true
  | .stain => false
  | .tear => false
  | .wear => false
  | .crease => false
  | .tagState => false
  | .matchResult => false
  | .weightDeviation => false
  | .piecesShort => false
  | .reason => false

/-- Percent of deviation from the reference weight, at most 999; none without a weight or a reference weight (R122). -/
def weightDeviation (weight refWeight : Option Nat) : Option Nat :=
  match weight, refWeight with
  | some w, some r => if r = 0 then none else some (min 999 ((if w < r then r - w else w - r) * 100 / r))
  | _, _ => none

/-- R123. -/
def tagStateValue (it : Item) : Option Nat :=
  if it.tagStatus = .missing then none
  else
    match it.tagState with
    | .read _ => some 0
    | .noTag => some 1
    | .corrupt => some 2
    | .conflict => some 3

/-- R123. -/
def matchValue : MatchResult → Option Nat
  | .exact => some 0
  | .skuOnly => some 1
  | .unlisted => some 2
  | .repeated => none
  | .over => none
  | .stray => none
  | .noReturn => none
  | .staleLabel => none
  | .unread => none
  | .forced => none

/-- The value of a source: piece 0 asks for the item's value, piece k for that of reported piece k (R121 to R123). -/
def sourceValue (e : Evidence) (source : Source) (piece : Nat) : Option Nat :=
  match visionScore source with
  | some score =>
    if piece = 0 then
      if worstIsLow source then lowest (e.item.pieces.map score) else highest (e.item.pieces.map score)
    else (e.item.pieces[piece - 1]?).map score
  | none =>
    match source with
    | .tagState => tagStateValue e.item
    | .matchResult => matchValue e.result
    | .weightDeviation => weightDeviation e.item.weight e.refWeight
    | .piecesShort => if e.item.visionStatus = .missing then none else some (e.expected - e.item.pieces.length)
    | _ => e.reason

/-! ### Running the list (R120, R124, R125) -/

/-- The value satisfies the test (R93). -/
def Limits.passes : Limits → Nat → Bool
  | .atMost l, v => decide (v ≤ l)
  | .atLeast l, v => decide (l ≤ v)
  | .within l h, v => decide (l ≤ v) && decide (v ≤ h)
  | .equals l, v => decide (v = l)
  | .notEquals l, v => decide (v ≠ l)

/-- One recorded failure (R124, R131). -/
structure Failure where
  check  : Nat
  place  : Nat
  piece  : Nat
  cause  : FailCause
  value  : Option Nat
  action : FailAction
  deriving DecidableEq, Repr

/-- The working values of one run of a list: penalty sum, cap, quarantine mark, and the first eight failures. -/
structure Tally where
  penalty    : Nat
  cap        : Cap
  quarantine : Bool
  failures   : List Failure
  deriving DecidableEq, Repr

def Tally.start : Tally := { penalty := 0, cap := .noCap, quarantine := false, failures := [] }

/-- D is worse than C, C than B, and any cap than none (R125). -/
def capRank : Cap → Nat
  | .noCap => 0
  | .b => 1
  | .c => 2
  | .d => 3

def worseCap (x y : Cap) : Cap := if capRank x < capRank y then y else x

/-- Apply a fail action (R125). -/
def Tally.act (t : Tally) : FailAction → Tally
  | .penalty n => { t with penalty := min 65535 (t.penalty + n) }
  | .capB => { t with cap := worseCap t.cap .b }
  | .capC => { t with cap := worseCap t.cap .c }
  | .capD => { t with cap := worseCap t.cap .d }
  | .quarantine => { t with quarantine := true }

/-- Record a failure while fewer than eight are held (R124). -/
def Tally.record (t : Tally) (f : Failure) : Tally :=
  if t.failures.length < 8 then { t with failures := t.failures ++ [f] } else t

/-- One evaluation of a check (R124). -/
def Tally.evaluate (t : Tally) (number place piece : Nat) (check : Check) (value : Option Nat) : Tally :=
  match value with
  | some v =>
    if Limits.passes check.limits v then t
    else (t.act check.action).record ⟨number, place, piece, .value, some v, check.action⟩
  | none =>
    match check.missing with
    | .pass => t
    | .fail => (t.act check.action).record ⟨number, place, piece, .missing, none, check.action⟩
    | .quarantine => (t.act .quarantine).record ⟨number, place, piece, .missing, none, .quarantine⟩

/-- The evaluations of one list entry: once for ITEM scope, once for each expected piece for PIECE scope (R120). -/
def Tally.entry (t : Tally) (e : Evidence) (b : Bank) (place number : Nat) : Tally :=
  let check := b.check number
  match check.scope with
  | .item => t.evaluate number place 0 check (sourceValue e check.source 0)
  | .piece =>
    (List.range e.expected).foldl
      (fun t k => t.evaluate number place (k + 1) check (sourceValue e check.source (k + 1))) t

/-- Run a list's entries in order, places counted from `place` (R120). -/
def runEntries (e : Evidence) (b : Bank) : Nat → List Nat → Tally → Tally
  | _, [], t => t
  | place, number :: rest, t => runEntries e b (place + 1) rest (t.entry e b place number)

def runList (e : Evidence) (b : Bank) (list : List Nat) : Tally := runEntries e b 1 list Tally.start

/-! ### The grade (R119, R126) -/

def gradeOfSum (t : Thresholds) (sum : Nat) : Grade :=
  if sum ≤ t.t1 then .a else if sum ≤ t.t2 then .b else if sum ≤ t.t3 then .c else .d

def capGrade : Cap → Grade
  | .noCap => .a
  | .b => .b
  | .c => .c
  | .d => .d

/-- A cap worse than the grade replaces it (R126, step 2). -/
def capped (g : Grade) (cap : Cap) : Grade := if gradePlace g < capRank cap then capGrade cap else g

def Tally.grade (t : Tally) (levels : Thresholds) : Grade :=
  if t.quarantine then .q else capped (gradeOfSum levels t.penalty) t.cap

/-- The results that are graded Q at once, without running the list (R119). -/
def gradedQ : MatchResult → Bool
  | .repeated => true
  | .over => true
  | .stray => true
  | .noReturn => true
  | .staleLabel => true
  | .exact => false
  | .skuOnly => false
  | .unlisted => false
  | .unread => false
  | .forced => false

/-- Grade an item with a bank: what its run gives, and the grade (R119, R120, R126, R128). -/
def gradeWith (e : Evidence) (b : Bank) (category : Nat) : Tally × Grade :=
  if gradedQ e.result then (Tally.start, .q)
  else
    let t := runList e b (b.list (b.program category).list)
    (t, t.grade b.levels)

/-! ### The decision (R117) -/

/-- Once decided, an item on the belt is DECIDED and one at lane end is READY (R17, R129). -/
def decidedState : ItemState → ItemState
  | .measuring => .decided
  | .waiting => .ready
  | .decided => .decided
  | .ready => .ready
  | .sorting => .sorting

/-- The lane's decision-wait timer stops if it belongs to the item (R61, R129). -/
def Lane.stopTimer (x : Lane) (n : Nat) : Lane := { x with timer := x.timer.filter fun t => t.item ≠ n }

/-- The fields of ITEM GRADED, from the record (R130). -/
def Item.gradedFields (it : Item) : GradedFields :=
  { ra := (it.matched.map (·.1)).getD 0, lane := it.lane, ticket := it.ticket, parcel := it.parcel, bank := it.bank,
    result := it.result, line := it.matched.map (·.2), category := it.category, penalty := it.penalty, cap := it.cap,
    quarantine := it.quarantine, failed := it.failed, grade := it.grade, shadow := it.shadow, route := it.route,
    state := it.state, forced := it.forced }

/-- The record as a decision leaves it (R118 to R129). -/
def Item.afterDecision (it : Item) (m : MatchReturn) (expected : Nat) (tally : Tally) (grade : Grade) (shadow : Option Grade)
    (route : Route) (clock : Nat) : Item :=
  { it with
    result := some m.result, matched := m.matched, category := some m.category, expectedPieces := expected,
    penalty := tally.penalty, cap := tally.cap, quarantine := tally.quarantine,
    failed := tally.failures.map Failure.check, grade := some grade, shadow := shadow, route := some route,
    state := decidedState it.state, decidedTime := some clock }

/-- What a decision writes into the record, and its recorded failures (R117, steps 1 to 6; R118 to R129). -/
def State.decisionFor (s : State) (it : Item) (m : MatchReturn) : Item × List Failure :=
  let bank := s.plan.banks.at it.bank
  let expected := m.pieces.getD (bank.program m.category).pieces
  let e : Evidence := ⟨it, expected, m.result, m.refWeight, m.reason⟩
  let graded := gradeWith e bank m.category
  let shadow :=
    if s.shadowComputed then some (gradeWith e (s.plan.banks.at s.editBank) m.category).2 else none
  (it.afterDecision m expected graded.1 graded.2 shadow (bank.routeFor graded.2 m.category) s.line.clock, graded.1.failures)

/-- CHECK FAILED for one recorded failure (R131). -/
def State.offerFailure (s : State) (n : Nat) (bank : BankId) (f : Failure) : State :=
  s.offer n (.checkFailed ⟨bank, f.check, f.place, f.piece, f.cause, f.value, f.action⟩)

/-- The Grading Engine decides an undecided item, as one act (R117). A decided item is left as it is (R17, R115). -/
def State.decideItem (s : State) (n : Nat) : State :=
  match s.item n with
  | none => s
  | some it =>
    if it.decided then s
    else
      let found := s.searchFor it
      let (it', failures) := s.decisionFor it (matchReturn found)
      let s := s.countFound it found
      let s := s.modItem n fun _ => it'
      let s := s.modLane it.lane fun x => x.stopTimer n
      let s := s.offer n (.itemGraded it'.gradedFields)
      let s := failures.foldl (fun s f => s.offerFailure n it.bank f) s
      s.settlementTest it.lane

/-- Test an undecided item, and decide it when its measurements and its RA question are settled (R115). -/
def State.testItem (s : State) (n : Nat) : State :=
  match s.item n with
  | none => s
  | some it => if !it.decided && it.measured && s.raSettled it then s.decideItem n else s

/-- Test every undecided item of the lane's parcel, in lane-queue order (R115). -/
def State.retest (s : State) (l : LaneId) : State :=
  (s.lanes.at l).queue.foldl
    (fun s n =>
      match s.item n with
      | none => s
      | some it => if s.undecidedOf l it then s.testItem n else s) s

end Sys2Proof.Machine
end

