-- ==== Sys2Proof/Machine/Items.lean ====
section
/-! DEFINITION. The Item Table: numbers and tickets, creation (R2, R3, R9), and its three requests (R15 to R19). -/

namespace Sys2Proof.Machine

/-! ### Creation -/

/-- The first free value of a counter from `n` on, looking at most `fuel` times (R2, R3). -/
def firstFree (taken : Nat → Bool) (lo hi : Nat) : Nat → Nat → Option Nat
  | 0, _ => none
  | fuel + 1, n => if taken n then firstFree taken lo hi fuel (wrapNext lo hi n) else some n

/-- R2: at most 128 numbers are in use, so a free one is found within 129 values. -/
def State.issueNumber (s : State) : Option Nat :=
  firstFree (fun n => s.items.records.has n) 1 65535 129 s.items.nextNumber

/-- R3: a ticket that no live record of the lane carries. -/
def State.issueTicket (s : State) (l : LaneId) : Option Nat :=
  firstFree (fun t => (s.itemByTicket l t).isSome) 0 255 256 (s.lanes.at l).nextTicket

/-- A measurement status at creation: AWAITED if the role's slot is UP, otherwise MISSING (R9). -/
def State.statusAtCreation (s : State) (l : LaneId) (r : Role) : RoleStatus :=
  if (s.slot ⟨l, r⟩).state = .up then .awaited else .missing

/-- The record R9 describes. -/
def State.newItem (s : State) (l : LaneId) (ticket : Nat) : Item :=
  { lane := l, ticket := ticket, parcel := (s.lanes.at l).parcelCounter, bank := s.activeBank.getD Config.freeBank,
    state := .measuring, created := s.line.clock, decidedTime := none, loadedTime := none,
    tagStatus := s.statusAtCreation l .tag, scaleStatus := s.statusAtCreation l .scale,
    visionStatus := s.statusAtCreation l .vision, tagState := .noTag, weight := none, pieces := [], result := none,
    matched := none, category := none, expectedPieces := 1, penalty := 0, cap := .noCap, quarantine := false,
    failed := [], grade := none, shadow := none, forced := false, route := none, carrier := none, laps := 0 }

/-- Create the record, with the lane's part of the act: ticket, queue, entry verdict (R9, R10, R56). -/
def State.createItem (s : State) (l : LaneId) (number ticket : Nat) : State :=
  let it := s.newItem l ticket
  let s := { s with items := { records := s.items.records.put number it, nextNumber := wrapNext 1 65535 number } }
  let s := s.modBank it.bank fun b => { b with bound := b.bound + 1 }
  s.modLane l fun x =>
    { x with queue := x.queue ++ [number], nextTicket := wrapNext 0 255 ticket, verdict := .accept ticket }

/-! ### READ ITEM (R19) -/

def State.countItems (s : State) (p : Item → Bool) : Nat := (s.items.records.values.filter p).length

def State.itemSummary (s : State) : ItemSummary :=
  { live := s.live
    measuring := s.countItems fun it => decide (it.state = .measuring)
    decided := s.countItems fun it => decide (it.state = .decided)
    waiting := s.countItems fun it => decide (it.state = .waiting)
    ready := s.countItems fun it => decide (it.state = .ready)
    sorting := s.countItems fun it => decide (it.state = .sorting)
    bank0 := s.countItems fun it => decide (it.bank = .b0)
    bank1 := s.countItems fun it => decide (it.bank = .b1)
    nextNumber := s.items.nextNumber }

def readItem (n : Nat) (s : State) : Answer :=
  if n = 0 then s.done (.itemSummary s.itemSummary)
  else
    match s.item n with
    | none => s.refuse .notFound
    | some it => s.done (.item n it)

/-! ### WITHDRAW ITEM (R15, R16) -/

def withdrawItem (n : Nat) (s : State) : Answer :=
  match s.item n with
  | none => s.refuse .notFound
  | some it =>
    if it.inLane then (s.withdraw n .host true).done (.withdrawn it.state false)
    else (s.modItem n fun x => { x with route := some (.exception .withdrawn) }).done (.withdrawn .sorting true)

/-! ### FORCE GRADE (R17, R18) -/

/-- An undecided item as FORCE GRADE decides it (R17). -/
def Item.forceUndecided (it : Item) (g : Grade) (bank : Bank) (clock : Nat) : Item :=
  { it with
    result := some .forced, matched := none, category := some 31, expectedPieces := (bank.program 31).pieces,
    penalty := 0, cap := .noCap, quarantine := false, failed := [], grade := some g, shadow := none, forced := true,
    route := some (bank.routeFor g 31), state := decidedState it.state, decidedTime := some clock }

/-- A decided item as FORCE GRADE leaves it: a holding reason keeps its destination E (R18). -/
def Item.forceDecided (it : Item) (g : Grade) (bank : Bank) : Item :=
  { it with
    grade := some g, forced := true,
    route := if it.held then it.route else some (bank.routeFor g (it.category.getD 31)) }

def forceGrade (n : Nat) (grade : Coded Grade) (s : State) : Answer :=
  match s.item n with
  | none => s.refuse .notFound
  | some it =>
    match coded grade with
    | none => s.refuse .outOfRange
    | some g =>
      let bank := s.plan.banks.at it.bank
      if it.decided then
        let it' := it.forceDecided g bank
        let s := (s.modItem n fun _ => it').offer n (.itemGraded it'.gradedFields)
        s.done (.forced g it'.dest it'.state)
      else
        let it' := it.forceUndecided g bank s.line.clock
        let s := (s.modItem n fun _ => it').modLane it.lane fun x => x.stopTimer n
        let s := s.offer n (.itemGraded it'.gradedFields)
        (s.settlementTest it.lane).done (.forced g it'.dest it'.state)

/-! ### The commands -/

def execReadItem (tag item : Nat) (s : State) : Host.Outcome State Fault Refusal :=
  .next (s.serve tag 16 (readItem item))

def execWithdrawItem (tag item : Nat) (s : State) : Host.Outcome State Fault Refusal :=
  .next (s.serve tag 17 (withdrawItem item))

def execForceGrade (tag item : Nat) (grade : Coded Grade) (s : State) : Host.Outcome State Fault Refusal :=
  .next (s.serve tag 18 (forceGrade item grade))

end Sys2Proof.Machine
end

