-- ==== Sys2Proof/Machine/Bus.lean ====
section
/-! DEFINITION. The Station Bus Controller: the roster requests (R71 to R73), sweeps and turns (R74 to R78), fault scoring
(R79 to R83) and the delivery of measurements (R84 to R88). -/

namespace Sys2Proof.Machine

/-! ### Turns and answers (R76, R78) -/

/-- The slot whose turn it is in the open sweep. -/
def State.currentTurn (s : State) : Option SlotId :=
  match s.bus.sweep with
  | none => none
  | some w =>
    match w.phase with
    | .sendingFrame => none
    | .turn k => w.roll[k]?
    | .turnsOver => none

/-- The turn ends: the next turn begins, or the turns are over (R76). -/
def Sweep.endTurn (w : Sweep) : Sweep :=
  match w.phase with
  | .sendingFrame => w
  | .turn k => { w with phase := if k + 1 < w.roll.length then .turn (k + 1) else .turnsOver }
  | .turnsOver => w

def State.endTurn (s : State) : State := { s with bus := { s.bus with sweep := s.bus.sweep.map Sweep.endTurn } }

/-- The answer is valid for the slot, as to its address, its echo, its kind and its data (R76). -/
def State.answerValid (s : State) (x : SlotId) (a : AnswerHead) (fromRole dataOk : Bool) : Bool :=
  decide ((s.slot x).address = some a.address) && decide (a.echo = s.bus.number) && fromRole && dataOk

/-- A valid answer sets the outcome VALID and stamps the slot's last valid answer (R76). -/
def State.noteValid (s : State) (x : SlotId) : State :=
  s.modSlot x fun slot => { slot with outcome := some .valid, lastValid := some s.line.clock }

def State.noteGarbled (s : State) (x : SlotId) : State := s.modSlot x fun slot => { slot with outcome := some .garbled }

/-- An answer whose frame check is good is received whole. Outside every turn it is discarded. In a turn it ends the turn; if
the slot has stayed enrolled since the sweep began it is VALID and its report is handed on, or GARBLED and not acted on; for
any other slot it is neither acted on nor scored (R72, R76, R78). -/
def State.takeAnswer (s : State) (a : AnswerHead) (fromRole : Role → Bool) (dataOk : Bool)
    (act : SlotId → State → State) : State :=
  match s.currentTurn with
  | none => s
  | some x =>
    if (s.slot x).outcome.isSome then
      if s.answerValid x a (fromRole x.role) dataOk then act x (s.endTurn.noteValid x)
      else s.endTurn.noteGarbled x
    else s.endTurn

/-- A damaged answer was received in the turn: GARBLED, not acted on (R76). -/
def State.takeGarbled (s : State) : State :=
  match s.currentTurn with
  | none => s
  | some x => if (s.slot x).outcome.isSome then s.endTurn.noteGarbled x else s.endTurn

/-- The turn's time has passed: a part-received answer is garbled, otherwise the outcome stays (R76). -/
def State.turnPassed (s : State) (partialAnswer : Bool) : State :=
  match s.currentTurn with
  | none => s
  | some x => if partialAnswer && (s.slot x).outcome.isSome then s.endTurn.noteGarbled x else s.endTurn

/-- The last byte of the sweep frame was sent: the first turn begins (R76). -/
def Sweep.frameSent (w : Sweep) : Sweep :=
  match w.phase with
  | .sendingFrame => { w with phase := if w.roll.isEmpty then .turnsOver else .turn 0 }
  | .turn _ => w
  | .turnsOver => w

/-! ### Measurement delivery (R84 to R88) -/

/-- The tag state a TAG READING writes (R85). -/
def tagStateOf : List (TagCode × Coded CheckResult) → TagState
  | [] => .noTag
  | [(c, .known .good)] => .read c
  | [_] => .corrupt
  | _ => .conflict

/-- A valid measurement answer from a slot: delivered to its item, discarded as late, or an orphan (R84, R87, R88). -/
def State.deliver (s : State) (x : SlotId) (ticket : Nat) (kind : ReportKind) (write : Item → Item) : State :=
  match s.itemByTicket x.lane ticket with
  | none => s.offer 0 (.stationOrphan x ticket kind)
  | some (n, it) =>
    if it.decided then s.offer n (.lateMeasurement x ticket kind .decided)
    else
      match it.status x.role with
      | .awaited => (s.modItem n fun it => (write it).withStatus x.role .taken).testItem n
      | .missing => s.offer n (.lateMeasurement x ticket kind .missing)
      | .taken => s.offer n (.lateMeasurement x ticket kind .taken)

/-! ### Sweep close (R79 to R83) -/

/-- The fault score after a turn's outcome (R79). -/
def scoreAfter (score : Nat) : SweepOutcome → Nat
  | .valid => score - 1
  | .garbled => if 247 < score then 255 else score + 8
  | .silent => if 247 < score then 255 else score + 8

/-- The measurement roles (R82). -/
def Role.isMeasurement : Role → Bool
  | .entry => false
  | .tag => true
  | .scale => true
  | .vision => true
  | .laneEnd => false

/-- A role goes MISSING on one undecided item that awaits it, which is then tested (R82). -/
def State.loseRole (s : State) (r : Role) (n : Nat) : State :=
  match s.item n with
  | none => s
  | some it =>
    if !it.decided && decide (it.status r = .awaited) then
      (s.modItem n fun it => it.withStatus r .missing).testItem n
    else s

/-- What a DOWN slot does to its lane, in lane-queue order (R82). -/
def State.roleDown (s : State) (x : SlotId) : State :=
  if Role.isMeasurement x.role then (s.lanes.at x.lane).queue.foldl (fun s n => s.loseRole x.role n) s else s

/-- The slot scored by its outcome, which is then discarded (R79). -/
def Slot.scored (slot : Slot) (o : SweepOutcome) : Slot :=
  let score := scoreAfter slot.score o
  { slot with score := score, maxScore := max slot.maxScore score, outcome := none }

/-- Score one slot of the roll, and test its state (R79 to R81). -/
def State.scoreSlot (s : State) (x : SlotId) : State :=
  match (s.slot x).outcome with
  | none => s
  | some o =>
    let slot := (s.slot x).scored o
    let s := s.modSlot x fun _ => slot
    if slot.state = .up ∧ s.line.downThreshold ≤ slot.score then
      let s := s.modSlot x fun slot => { slot with state := .down }
      (s.offer 0 (.stationDown x (slot.address.getD 0) slot.score s.bus.number)).roleDown x
    else if slot.state = .down ∧ slot.score = 0 then
      let s := s.modSlot x fun slot => { slot with state := .up }
      s.offer 0 (.stationUp x (slot.address.getD 0) slot.maxScore s.bus.number)
    else s

/-- The open sweep closes, and its slots are scored in roster order (R74, R79). -/
def State.closeSweep (s : State) : State :=
  match s.bus.sweep with
  | none => s
  | some _ =>
    let s := allSlots.foldl State.scoreSlot s
    { s with bus := { s.bus with sweep := none } }

/-! ### Sweep start (R74, R75) -/

def State.enrolledSlots (s : State) : List SlotId := allSlots.filter fun x => (s.slot x).enrolled

/-- An enrolled slot is in the roll and its outcome is SILENT (R75, R76). -/
def Slot.rolled (slot : Slot) : Slot := { slot with outcome := if slot.enrolled then some .silent else none }

/-- A new sweep begins if a slot is enrolled: its frame takes each lane's pending verdict and the lamps (R74, R75). -/
def State.beginSweep (s : State) : State :=
  let roll := s.enrolledSlots
  if roll.isEmpty then s
  else
    let sweep : Sweep :=
      { roll := roll, addresses := roll.map fun x => ((s.slot x).address).getD 0, verdicts := s.lanes.map Lane.verdict,
        lamps := s.lanes.map fun l => ⟨l.state, s.suspended⟩, phase := .sendingFrame }
    { s with
      bus := { s.bus with
        roster := s.bus.roster.map fun lane => lane.map Slot.rolled
        number := wrapNext 0 255 s.bus.number
        sweep := some sweep }
      lanes := s.lanes.map fun l => { l with verdict := .none } }

/-- The sweep timer expires: close, begin, and start the timer at the current period (R74). -/
def State.sweepExpiry (s : State) : State :=
  let s := s.closeSweep.beginSweep
  { s with bus := { s.bus with timer := s.line.sweepPeriod } }

/-! ### Roster requests (R71 to R73) -/

def enrolStation (lane : Nat) (role : Coded Role) (address : Nat) (s : State) : Answer :=
  match slotOf lane role with
  | none => s.refuse .outOfRange
  | some x =>
    if address = 0 ∨ 62 < address then s.refuse .outOfRange
    else if (s.lanes.at x.lane).state ≠ .idle then s.refuse .inUse
    else if (s.slot x).enrolled then s.refuse .inUse
    else if allSlots.any fun y => decide ((s.slot y).address = some address) then s.refuse .duplicate
    else
      let s := s.modSlot x fun _ =>
        { state := .up, address := some address, score := 0, maxScore := 0, lastValid := none, outcome := none }
      s.done (.enrolled x (s.usable x.lane))

def retireStation (lane : Nat) (role : Coded Role) (s : State) : Answer :=
  match slotOf lane role with
  | none => s.refuse .outOfRange
  | some x =>
    if !(s.slot x).enrolled then s.refuse .notFound
    else if (s.lanes.at x.lane).state ≠ .idle then s.refuse .inUse
    else (s.modSlot x fun _ => Slot.vacant).done .headOnly

def readStation (lane : Nat) (role : Coded Role) (s : State) : Answer :=
  match slotOf lane role with
  | none => s.refuse .outOfRange
  | some x =>
    let slot := s.slot x
    (s.modSlot x fun slot => { slot with maxScore := slot.score }).done
      (.station
        { state := slot.state, address := slot.address, score := slot.score, maxScore := slot.maxScore,
          lastValid := slot.lastValid, sweepNumber := s.bus.number, sweepPeriod := s.line.sweepPeriod,
          downThreshold := s.line.downThreshold })

/-! ### The commands -/

def execEnrolStation (tag lane : Nat) (role : Coded Role) (address : Nat) (s : State) :
    Host.Outcome State Fault Refusal :=
  .next (s.serve tag 64 (enrolStation lane role address))

def execRetireStation (tag lane : Nat) (role : Coded Role) (s : State) : Host.Outcome State Fault Refusal :=
  .next (s.serve tag 65 (retireStation lane role))

def execReadStation (tag lane : Nat) (role : Coded Role) (s : State) : Host.Outcome State Fault Refusal :=
  .next (s.serve tag 66 (readStation lane role))

def execSweepTimer (s : State) : Host.Outcome State Fault Refusal := .next s.sweepExpiry

def execSweepFrameSent (s : State) : Host.Outcome State Fault Refusal :=
  .next { s with bus := { s.bus with sweep := s.bus.sweep.map Sweep.frameSent } }

def execTurnTimeout (partialAnswer : Bool) (s : State) : Host.Outcome State Fault Refusal :=
  .next (s.turnPassed partialAnswer)

/-- Every role may answer NOTHING, which hands nothing on (R77, R78). -/
def execNothing (a : AnswerHead) (s : State) : Host.Outcome State Fault Refusal :=
  .next (s.takeAnswer a (fun _ => true) true fun _ s => s)

def execTagReading (a : AnswerHead) (codes : List (TagCode × Coded CheckResult)) (s : State) :
    Host.Outcome State Fault Refusal :=
  .next (s.takeAnswer a (fun r => decide (r = .tag)) (codesInRange codes) fun x s =>
    s.deliver x a.ticket .tagReading fun it => { it with tagState := tagStateOf codes })

def execWeight (a : AnswerHead) (grams : Nat) (s : State) : Host.Outcome State Fault Refusal :=
  .next (s.takeAnswer a (fun r => decide (r = .scale)) (decide (grams ≤ 30000)) fun x s =>
    s.deliver x a.ticket .weight fun it => { it with weight := some grams })

def execVision (a : AnswerHead) (pieces : List PieceScores) (s : State) : Host.Outcome State Fault Refusal :=
  .next (s.takeAnswer a (fun r => decide (r = .vision)) (piecesInRange pieces) fun x s =>
    s.deliver x a.ticket .vision fun it => { it with pieces := pieces })

def execGarbledAnswer (s : State) : Host.Outcome State Fault Refusal := .next s.takeGarbled

/-- R76: an answer outside every turn of the open sweep is discarded. -/
def execAnswerOutsideTurn (s : State) : Host.Outcome State Fault Refusal := .next s

end Sys2Proof.Machine
end

