-- ==== Sys2Proof/Machine/Returns.lean ====
section
/-! DEFINITION. The Return Table: its five requests (R31 to R38) and the expiry of a placeholder's manifest-wait timer
(R30). -/

namespace Sys2Proof.Machine

/-! ### LOAD RETURN (R31 to R33) -/

/-- A new record in state LOADED (R32). -/
def loadedRecord (r : ReturnLoad) : Ra :=
  { account := r.account, label := r.label, reason := r.reason, state := .loaded, mismatch := false, closed := false,
    boundLane := none, matched := 0, timer := none, lines := r.lines.map LineLoad.toLine }

/-- A placeholder as a load fills it (R33). -/
def Ra.fill (p : Ra) (r : ReturnLoad) : Ra :=
  { p with label := r.label, reason := r.reason, lines := r.lines.map LineLoad.toLine, state := .bound, timer := none,
           mismatch := p.mismatch || decide (r.label ≠ p.label) }

/-- R31, test 5. -/
def State.loadFull (s : State) (r : ReturnLoad) (creates : Bool) : Bool :=
  (creates && decide (Config.maxReturns ≤ s.returns.records.size)) ||
    decide (s.linesFree < r.lines.length) || decide (s.tagsFree < (loadTags r).length)

/-- R31 to R33. The reply to a filling load reports the state and the label-mismatch mark as the filling leaves them, also where
the re-test of the same act settles the parcel, which closes the record and clears its mark (the model's choice, log entry
8). -/
def loadReturn (r : ReturnLoad) (s : State) : Answer :=
  if !loadInRange r then s.refuse .outOfRange
  else if hasRepeat (loadTags r) then s.refuse .duplicateTag
  else
    match s.ra r.ra with
    | none =>
      if s.loadFull r true then s.refuse .full
      else
        let s := s.putRa r.ra (loadedRecord r)
        s.done (.loaded false .loaded false s.linesFree s.tagsFree)
    | some p =>
      if !p.placeholder then s.refuse .duplicate
      else if p.account ≠ r.account then s.refuse .notOneAccount
      else if s.loadFull r false then s.refuse .full
      else
        let filled := p.fill r
        let s := s.modRa r.ra fun _ => filled
        let s := (p.boundLane.map fun l => s.retest l).getD s
        s.done (.loaded true .bound filled.mismatch s.linesFree s.tagsFree)

/-! ### ADD TAGS (R34) -/

def addTags (n index : Nat) (codes : List TagCode) (s : State) : Answer :=
  match s.ra n with
  | none => s.refuse .notFound
  | some r =>
    if r.placeholder then s.refuse .inUse
    else
      match r.line index with
      | none => s.refuse .outOfRange
      | some l =>
        if codes.isEmpty || decide (15 < codes.length) || (codes.any fun c => decide (c.sku ≠ l.sku)) ||
            decide (l.quantity < l.tags.length + codes.length) then s.refuse .outOfRange
        else if hasRepeat codes || codes.any r.lists then s.refuse .duplicateTag
        else if s.tagsFree < codes.length then s.refuse .full
        else
          let s := s.modRa n fun r => r.modLine index fun l =>
            { l with tags := l.tags ++ codes.map fun c => ⟨c, false⟩ }
          s.done (.listedTags (l.tags.length + codes.length))

/-! ### AMEND RETURN (R35) -/

/-- R35, test 3. -/
def Ra.amendInRange (r : Ra) (label reason : Option Nat) (quantity : Option (Nat × Nat)) : Bool :=
  decide (label.getD 0 ≤ 255) && decide (reason.getD 0 ≤ 15) &&
    match quantity with
    | none => true
    | some (index, q) =>
      match r.line index with
      | none => false
      | some l => decide (1 ≤ q) && decide (q ≤ 15) && decide (l.received ≤ q) && decide (l.tags.length ≤ q)

/-- A COMPLETE or SHORT record is placed again by its counts when a quantity is amended (R35). -/
def Ra.replace (r : Ra) : Ra :=
  if r.state = .loaded then r
  else { r with state := if r.fullyReceived then .complete else .short, closed := true }

def Ra.amend (r : Ra) (label reason : Option Nat) (quantity : Option (Nat × Nat)) : Ra :=
  let r := { r with label := label.getD r.label, reason := reason.getD r.reason }
  match quantity with
  | none => r
  | some (index, q) => (r.modLine index fun l => { l with quantity := q }).replace

def amendReturn (n : Nat) (label reason : Option Nat) (quantity : Option (Nat × Nat)) (s : State) : Answer :=
  match s.ra n with
  | none => s.refuse .notFound
  | some r =>
    if r.held then s.refuse .inUse
    else if !r.amendInRange label reason quantity then s.refuse .outOfRange
    else
      let r' := r.amend label reason quantity
      (s.modRa n fun _ => r').done (.raState r'.state)

/-! ### REMOVE RETURN (R36) -/

def removeReturn (n : Nat) (s : State) : Answer :=
  match s.ra n with
  | none => s.refuse .notFound
  | some r =>
    if r.held then s.refuse .inUse
    else (s.removeRa n).done (.entriesReturned r.lines.length r.tagCount)

/-! ### READ RETURN (R37, R38) -/

def Line.summary (l : Line) : LineSummary :=
  { sku := l.sku, category := l.category, quantity := l.quantity, received := l.received, pieces := l.pieces,
    refWeight := l.refWeight, tags := l.tags.length, tagsReceived := (l.tags.filter ListedTag.received).length }

def Ra.header (n : Nat) (r : Ra) : RaHeader :=
  { ra := n, account := r.account, label := r.label, reason := r.reason, state := r.state, mismatch := r.mismatch,
    closed := r.closed, boundLane := r.boundLane, matched := r.matched, timer := r.timer, lineCount := r.lines.length }

def State.countRas (s : State) (x : RaState) : Nat :=
  (s.returns.records.values.filter fun r => decide (r.state = x)).length

def State.returnSummary (s : State) : ReturnSummary :=
  { records := s.returns.records.size, loaded := s.countRas .loaded, bound := s.countRas .bound,
    expected := s.countRas .expected, overdue := s.countRas .overdue, complete := s.countRas .complete,
    short := s.countRas .short, linesUsed := s.linesUsed, linesFree := s.linesFree, tagsUsed := s.tagsUsed,
    tagsFree := s.tagsFree, manifestWait := s.line.manifestWait }

/-- R37, R38. RA number 0 asks for the summary, whatever line index comes with it (the model's choice, log entry 8). -/
def readReturn (n : Nat) (index : Option Nat) (s : State) : Answer :=
  if n = 0 then s.done (.returnSummary s.returnSummary)
  else
    match s.ra n with
    | none => s.refuse .notFound
    | some r =>
      match index with
      | none => s.done (.raRecord (Ra.header n r) (r.lines.map Line.summary))
      | some i =>
        match r.line i with
        | none => s.refuse .outOfRange
        | some l => s.done (.raLine l)

/-! ### Manifest-wait expiry (R29, R30) -/

/-- A running timer can reach 0 only while the line is not suspended; one that stands at 0 has reached it (R29, R61). -/
def State.timerCanExpire (s : State) (remaining : Nat) : Bool := !s.suspended || decide (remaining = 0)

/-- The placeholder becomes OVERDUE, MANIFEST OVERDUE is offered, and its parcel's undecided items are re-tested (R30). -/
def State.manifestOverdue (s : State) (n : Nat) (r : Ra) : State :=
  let s := s.modRa n fun x => { x with state := .overdue, timer := none }
  match r.boundLane with
  | none => s
  | some l =>
    (s.offer 0 (.manifestOverdue n l (s.lanes.at l).parcelCounter r.account r.label)).retest l

def State.manifestExpiry (s : State) (n : Nat) : State :=
  match s.ra n with
  | none => s
  | some r =>
    match r.timer with
    | none => s
    | some remaining =>
      if decide (r.state = .expected) && s.timerCanExpire remaining then s.manifestOverdue n r else s

/-! ### The commands -/

def execLoadReturn (tag : Nat) (load : ReturnLoad) (s : State) : Host.Outcome State Fault Refusal :=
  .next (s.serve tag 32 (loadReturn load))

def execAddTags (tag ra line : Nat) (codes : List TagCode) (s : State) : Host.Outcome State Fault Refusal :=
  .next (s.serve tag 33 (addTags ra line codes))

def execAmendReturn (tag ra : Nat) (label reason : Option Nat) (quantity : Option (Nat × Nat)) (s : State) :
    Host.Outcome State Fault Refusal :=
  .next (s.serve tag 34 (amendReturn ra label reason quantity))

def execRemoveReturn (tag ra : Nat) (s : State) : Host.Outcome State Fault Refusal :=
  .next (s.serve tag 35 (removeReturn ra))

def execReadReturn (tag ra : Nat) (line : Option Nat) (s : State) : Host.Outcome State Fault Refusal :=
  .next (s.serve tag 36 (readReturn ra line))

def execManifestWaitExpiry (ra : Nat) (s : State) : Host.Outcome State Fault Refusal :=
  .next (s.manifestExpiry ra)

end Sys2Proof.Machine
end

