-- ==== Sys2Proof/Machine/Lanes.lean ====
section
/-! DEFINITION. The Lane Controllers: opening a parcel (R51 to R54), induction (R55 to R57), lane end (R58 to R62), closing
and abort (R63 to R66). -/

namespace Sys2Proof.Machine

/-! ### OPEN PARCEL (R51 to R53) -/

/-- The test of one pair, with the number of placeholders earlier pairs of the request need (R52). -/
def State.pairFault (s : State) (account earlier : Nat) (pair : Nat × Nat) : Option RefusalReason :=
  match s.ra pair.1 with
  | none => if Config.maxReturns ≤ s.returns.records.size + earlier then some .full else none
  | some r =>
    match r.state with
    | .loaded => if r.account ≠ account then some .notOneAccount else if r.label ≠ pair.2 then some .staleLabel else none
    | .short => if r.account ≠ account then some .notOneAccount else if r.label ≠ pair.2 then some .staleLabel else none
    | .bound => some .inUse
    | .expected => some .inUse
    | .overdue => some .inUse
    | .complete => some .alreadyComplete

/-- The first pair at fault, in request order, with its reason (R52). -/
def State.firstPairFault (s : State) (account : Nat) : Nat → List (Nat × Nat) → Option (RefusalReason × Nat)
  | _, [] => none
  | earlier, pair :: rest =>
    match s.pairFault account earlier pair with
    | some reason => some (reason, pair.1)
    | none => s.firstPairFault account (if s.returns.records.has pair.1 then earlier else earlier + 1) rest

/-- The placeholder OPEN PARCEL creates (R28); its timer starts at the manifest-wait setting (R29). -/
def placeholder (account label : Nat) (l : LaneId) (waitSeconds : Nat) : Ra :=
  { account := account, label := label, reason := 0, state := .expected, mismatch := false, closed := false,
    boundLane := some l, matched := 0, timer := some (1000 * waitSeconds), lines := [] }

/-- A LOADED or SHORT record as a parcel binds it (R53). -/
def Ra.bind (r : Ra) (l : LaneId) : Ra := { r with state := .bound, boundLane := some l, matched := 0 }

/-- Bind one pair (R53). -/
def State.bindPair (s : State) (l : LaneId) (account : Nat) (pair : Nat × Nat) : State :=
  match s.ra pair.1 with
  | some r => s.putRa pair.1 (r.bind l)
  | none => s.putRa pair.1 (placeholder account pair.2 l s.line.manifestWait)

/-- The lane as an OPEN PARCEL that is taken leaves it (R53). -/
def Lane.opening (x : Lane) (account : Nat) (ras : List Nat) : Lane :=
  { x with state := .opened, parcelCounter := wrapNext 0 65535 x.parcelCounter, account := some account,
           boundRas := ras, closeCause := none }

/-- The whole act of an OPEN PARCEL that is taken (R53). -/
def State.openParcel (s : State) (l : LaneId) (account : Nat) (pairs : List (Nat × Nat)) : State :=
  (pairs.foldl (fun s p => s.bindPair l account p) s).modLane l fun x => x.opening account (pairs.map (·.1))

def openParcel (lane account : Nat) (pairs : List (Nat × Nat)) (s : State) : Answer :=
  match laneOf lane with
  | none => s.refuse .outOfRange
  | some l =>
    if pairs.isEmpty || decide (4 < pairs.length) || (pairs.any fun p => decide (p.1 = 0)) then s.refuse .outOfRange
    else if (s.lanes.at l).state ≠ .idle then s.refuse .inUse
    else if !s.usable l then s.refuse .laneIncomplete
    else if !s.line.mode.isRunning then s.refuse .lineState
    else if hasRepeat (pairs.map (·.1)) then s.refuse .contradiction
    else
      match s.firstPairFault account 0 pairs with
      | some (reason, ra) => s.refuseWith reason (.faultRa ra)
      | none =>
        (s.openParcel l account pairs).done
          (.parcelOpened (wrapNext 0 65535 (s.lanes.at l).parcelCounter)
            (pairs.map fun p => s.returns.records.has p.1))

/-! ### Induction (R55 to R57) -/

/-- The first condition of admission that fails, if one does (R55). -/
def State.entryRefusal (s : State) (l : LaneId) : Option EntryRefusal :=
  if (s.lanes.at l).state ≠ .opened then some .notOpen
  else if !s.line.mode.isRunning || s.suspended then some .line
  else if Config.laneQueue ≤ (s.lanes.at l).queue.length then some .queueFull
  else if !s.roomForEvent then some .eventsFull
  else if (s.slot ⟨l, .entry⟩).state ≠ .up then some .entryDown
  else if (s.slot ⟨l, .laneEnd⟩).state ≠ .up then some .endDown
  else none

/-- Create an admitted item, and test it for decision (R56, R115). A number and a ticket are always free (R2, R3). -/
def State.admission (s : State) (l : LaneId) : State :=
  match s.issueNumber, s.issueTicket l with
  | some number, some ticket => (s.createItem l number ticket).testItem number
  | _, _ => s

/-- The presentation is tested, and admitted or refused (R55, R56). -/
def State.presentAfresh (s : State) (l : LaneId) : State :=
  match s.entryRefusal l with
  | none => s.admission l
  | some reason => s.modLane l fun x => { x with verdict := .refuse reason }

/-- A PRESENTED report at a lane; while an accept is pending it is not a new presentation (R56). -/
def State.presented (s : State) (l : LaneId) : State :=
  match (s.lanes.at l).verdict with
  | .accept _ => s
  | .none => s.presentAfresh l
  | .refuse _ => s.presentAfresh l

/-! ### Lane end (R58 to R61) -/

/-- The decision-wait timer of an item that enters WAITING (R61). -/
def State.startTimer (s : State) (l : LaneId) (n : Nat) : State :=
  s.modLane l fun x => { x with timer := some ⟨1000 * s.line.decisionWait, n⟩ }

/-- The head item arrives at lane end (R58). -/
def State.arrive (s : State) (l : LaneId) (n : Nat) : State :=
  match s.item n with
  | none => s
  | some it =>
    match it.state with
    | .measuring => (s.modItem n fun x => { x with state := .waiting }).startTimer l n
    | .decided => s.modItem n fun x => { x with state := .ready }
    | .waiting => s
    | .ready => s
    | .sorting => s

/-- The queued item carries the ticket. -/
def State.hasTicket (s : State) (ticket n : Nat) : Bool :=
  match s.item n with
  | none => false
  | some it => decide (it.ticket = ticket)

/-- An AT END report at a lane: the items ahead are skipped and the item arrives, or it is an orphan (R58 to R60). -/
def State.atEnd (s : State) (l : LaneId) (ticket : Nat) : State :=
  let queue := (s.lanes.at l).queue
  match queue.find? (s.hasTicket ticket) with
  | none => s.offer 0 (.stationOrphan ⟨l, .laneEnd⟩ ticket .atEnd)
  | some n =>
    let ahead := queue.takeWhile fun m => !s.hasTicket ticket m
    (ahead.foldl (fun s m => s.withdraw m .skipped true) s).arrive l n

/-! ### Decision-wait expiry (R62, R116) -/

/-- Each status still AWAITED becomes MISSING (R116). -/
def RoleStatus.giveUp : RoleStatus → RoleStatus
  | .awaited => .missing
  | .taken => .taken
  | .missing => .missing

def Item.giveUp (it : Item) : Item :=
  { it with tagStatus := it.tagStatus.giveUp, scaleStatus := it.scaleStatus.giveUp,
            visionStatus := it.visionStatus.giveUp }

/-- The timer's item is decided at once; a decided item is left as it is (R62, R116). -/
def State.decideAtOnce (s : State) (n : Nat) : State :=
  match s.item n with
  | none => s
  | some it => if it.decided then s else (s.modItem n Item.giveUp).decideItem n

def State.decisionExpiry (s : State) (l : LaneId) : State :=
  match (s.lanes.at l).timer with
  | none => s
  | some t =>
    if s.timerCanExpire t.remaining then
      (s.modLane l fun x => { x with timer := none }).decideAtOnce t.item
    else s

/-! ### CLOSE PARCEL and the parcel-done key (R63) -/

/-- An OPEN lane becomes CLOSING, and the settlement test is made (R63). -/
def State.close (s : State) (l : LaneId) (cause : CloseCause) : State :=
  (s.modLane l fun x => { x with state := .closing, closeCause := some cause }).settlementTest l

def closeParcel (lane : Nat) (s : State) : Answer :=
  match laneOf lane with
  | none => s.refuse .outOfRange
  | some l =>
    match (s.lanes.at l).state with
    | .idle => s.refuse .notFound
    | .opened =>
      let s := s.close l .host
      s.done (.laneState (s.lanes.at l).state)
    | .closing => s.done (.laneState .closing)

/-- The parcel-done key: ignored in IDLE and in CLOSING (R63). -/
def State.parcelDone (s : State) (l : LaneId) : State :=
  match (s.lanes.at l).state with
  | .idle => s
  | .opened => s.close l .key
  | .closing => s

/-! ### ABORT LANE (R66) -/

def abortLane (lane : Nat) (s : State) : Answer :=
  match laneOf lane with
  | none => s.refuse .outOfRange
  | some l =>
    (s.abort l .aborted .aborted).done
      (.aborted (s.lanes.at l).queue.length (decide ((s.lanes.at l).state ≠ .idle)))

/-! ### The commands -/

def execOpenParcel (tag lane account : Nat) (pairs : List (Nat × Nat)) (s : State) : Host.Outcome State Fault Refusal :=
  .next (s.serve tag 48 (openParcel lane account pairs))

def execCloseParcel (tag lane : Nat) (s : State) : Host.Outcome State Fault Refusal :=
  .next (s.serve tag 49 (closeParcel lane))

def execAbortLane (tag lane : Nat) (s : State) : Host.Outcome State Fault Refusal :=
  .next (s.serve tag 50 (abortLane lane))

def execPresented (a : AnswerHead) (s : State) : Host.Outcome State Fault Refusal :=
  .next (s.takeAnswer a (fun r => decide (r = .entry)) true fun x s => s.presented x.lane)

def execParcelDone (a : AnswerHead) (s : State) : Host.Outcome State Fault Refusal :=
  .next (s.takeAnswer a (fun r => decide (r = .entry)) true fun x s => s.parcelDone x.lane)

def execAtEnd (a : AnswerHead) (s : State) : Host.Outcome State Fault Refusal :=
  .next (s.takeAnswer a (fun r => decide (r = .laneEnd)) true fun x s => s.atEnd x.lane a.ticket)

def execDecisionWaitExpiry (lane : LaneId) (s : State) : Host.Outcome State Fault Refusal :=
  .next (s.decisionExpiry lane)

end Sys2Proof.Machine
end

