-- ==== Sys2Proof/Machine/Plans.lean ====
section
/-! DEFINITION. The Plan Store: the six writes (R99 to R103), validation (R104), the switch (R105) and the shadow setting
(R108). -/

namespace Sys2Proof.Machine

/-- The report carried in the reply to every Plan Store request, and in READ STATUS (R97). -/
def State.planReport (s : State) : PlanReport :=
  { states := s.plan.banks.map Bank.state, valid := s.plan.banks.map Bank.valid, bound := s.plan.banks.map Bank.bound,
    edit := s.editBank, shadow := s.plan.shadow }

def State.edit (s : State) : Bank := s.plan.banks.at s.editBank

def State.planDone (s : State) : Answer := s.done (.plan s.planReport)

def State.planRefuse (s : State) (reason : RefusalReason) : Answer := s.refuseWith reason (.plan s.planReport)

/-! ### Writes (R99 to R103) -/

/-- A bank as a write other than CLEAR BANK leaves it: VALID clear, and not EMPTY (R99). -/
def Bank.written (b : Bank) : Bank :=
  { b with valid := false, state := if b.state = .empty then .standby else b.state }

/-- A write to the edit bank: BANK BUSY first, then its ranges, then its effect (R99). -/
def State.writeBank (s : State) (inRange : Bool) (f : Bank → Bank) : Answer :=
  if s.edit.state = .draining then s.planRefuse .bankBusy
  else if !inRange then s.planRefuse .outOfRange
  else (s.modBank s.editBank fun b => (f b).written).planDone

def writeCheck (number : Nat) (fields : CheckFields) (s : State) : Answer :=
  match checkOf fields with
  | none => s.writeBank false id
  | some check => s.writeBank (decide (number ≤ 127)) fun b => { b with checks := b.checks.put number check }

def writeList (number : Nat) (entries : List Nat) (s : State) : Answer :=
  s.writeBank (listInRange number entries) fun b => { b with lists := b.lists.put number entries }

def writeProgram (category list group nominal pieces : Nat) (s : State) : Answer :=
  s.writeBank (programInRange category list group nominal pieces) fun b =>
    { b with programs := b.programs.put category ⟨list, group, nominal, pieces⟩ }

def writeThresholds (t1 t2 t3 : Nat) (s : State) : Answer :=
  s.writeBank (decide (t1 ≤ 65535) && decide (t2 ≤ 65535) && decide (t3 ≤ 65535)) fun b =>
    { b with thresholds := some ⟨t1, t2, t3⟩ }

/-- Write one cell of the map; the destination byte is in range when the write is taken (R102). -/
def writeCell (map : Table Dest) (cell : Nat × Nat) : Table Dest :=
  match destOf cell.2 with
  | none => map
  | some d => map.put cell.1 d

def writeMap (cells : List (Nat × Nat)) (s : State) : Answer :=
  s.writeBank (cellsInRange cells) fun b => { b with map := cells.foldl writeCell b.map }

/-- A bank as CLEAR BANK leaves it; its bound-item count is not the bank's contents (R103). -/
def Bank.cleared (b : Bank) : Bank := { Bank.cold with bound := b.bound }

def clearBank (s : State) : Answer :=
  if s.edit.state = .draining then s.planRefuse .bankBusy
  else (s.modBank s.editBank Bank.cleared).planDone

/-! ### Validation (R104) -/

/-- The scopes R94 allows a source. -/
def scopeAllowed (source : Source) (scope : Scope) : Bool :=
  match scope with
  | .item => true
  | .piece => (visionScore source).isSome

/-- The program and the list of one category. -/
def Bank.categoryFault (b : Bank) (category : Nat) : Option (FaultKind × Nat) :=
  match b.programs.lookup category with
  | none => some (.noProgram, category)
  | some p => if b.lists.has p.list then none else some (.noList, category)

/-- The checks one list names. -/
def Bank.listFault (b : Bank) (list : Nat × List Nat) : Option (FaultKind × Nat) :=
  if list.2.all fun c => b.checks.has c then none else some (.noCheck, list.1)

def checkFault (check : Nat × Check) : Option (FaultKind × Nat) :=
  if scopeAllowed check.2.source check.2.scope then none else some (.badScope, check.1)

/-- The thresholds are defined and ascend. -/
def Bank.thresholdsOk (b : Bank) : Bool :=
  match b.thresholds with
  | none => false
  | some t => decide (t.t1 ≤ t.t2) && decide (t.t2 ≤ t.t3)

def Bank.thresholdsFault (b : Bank) : Option (FaultKind × Nat) :=
  if b.thresholdsOk then none else some (.thresholds, 0)

def Bank.cellFault (b : Bank) (cell : Nat) : Option (FaultKind × Nat) :=
  if b.map.has cell then none else some (.noMapCell, cell)

/-- The first fault of a bank, in the order of R104. -/
def Bank.firstFault (b : Bank) : Option (FaultKind × Nat) :=
  ((List.range 32).findSome? b.categoryFault).or
    ((b.lists.entries.findSome? b.listFault).or
      ((b.checks.entries.findSome? checkFault).or
        (b.thresholdsFault.or ((List.range 20).findSome? b.cellFault))))

def validatePlan (s : State) : Answer :=
  if s.edit.state = .draining then s.planRefuse .bankBusy
  else
    match s.edit.firstFault with
    | none =>
      let s := s.modBank s.editBank fun b => { b with valid := true }
      s.done (.validated none s.planReport)
    | some fault =>
      let s := s.modBank s.editBank fun b => { b with valid := false }
      s.done (.validated (some fault) s.planReport)

/-! ### SWITCH PLAN (R105) -/

/-- The bank that leaves ACTIVE (R105). -/
def Bank.leaveActive (b : Bank) : Bank := { b with state := if 0 < b.bound then .draining else .standby }

/-- The whole act of a SWITCH PLAN that is taken (R105). -/
def State.switchBanks (s : State) : State :=
  let new := s.editBank
  let s := (s.activeBank.map fun b => s.modBank b Bank.leaveActive).getD s
  let s := s.modBank new fun b => { b with state := .active }
  let other := otherBank new
  s.offer 0 (.planSwitched new other (s.plan.banks.at other).state (s.plan.banks.at other).bound)

def switchPlan (s : State) : Answer :=
  if s.edit.state = .draining then s.planRefuse .bankBusy
  else if !s.edit.valid then s.planRefuse .notValid
  else s.switchBanks.planDone

/-! ### SET SHADOW (R108) -/

def setShadow (value : Coded OnOff) (s : State) : Answer :=
  match coded value with
  | none => s.planRefuse .outOfRange
  | some v =>
    let s := { s with plan := { s.plan with shadow := v } }
    s.done (.shadow v s.shadowComputed s.planReport)

/-! ### The commands -/

def execWriteCheck (tag number : Nat) (fields : CheckFields) (s : State) : Host.Outcome State Fault Refusal :=
  .next (s.serve tag 80 (writeCheck number fields))

def execWriteList (tag number : Nat) (entries : List Nat) (s : State) : Host.Outcome State Fault Refusal :=
  .next (s.serve tag 81 (writeList number entries))

def execWriteProgram (tag category list group nominal pieces : Nat) (s : State) : Host.Outcome State Fault Refusal :=
  .next (s.serve tag 82 (writeProgram category list group nominal pieces))

def execWriteThresholds (tag t1 t2 t3 : Nat) (s : State) : Host.Outcome State Fault Refusal :=
  .next (s.serve tag 83 (writeThresholds t1 t2 t3))

def execWriteMap (tag : Nat) (cells : List (Nat × Nat)) (s : State) : Host.Outcome State Fault Refusal :=
  .next (s.serve tag 84 (writeMap cells))

def execClearBank (tag : Nat) (s : State) : Host.Outcome State Fault Refusal := .next (s.serve tag 85 clearBank)

def execValidatePlan (tag : Nat) (s : State) : Host.Outcome State Fault Refusal := .next (s.serve tag 86 validatePlan)

def execSwitchPlan (tag : Nat) (s : State) : Host.Outcome State Fault Refusal := .next (s.serve tag 87 switchPlan)

def execSetShadow (tag : Nat) (value : Coded OnOff) (s : State) : Host.Outcome State Fault Refusal :=
  .next (s.serve tag 88 (setShadow value))

end Sys2Proof.Machine
end

