-- ==== Sys2Proof/Machine/Totes.lean ====
section
/-! DEFINITION. The Destination Controller: completion and what follows it (R157 to R159), the weight a claim charges (R155),
and the six tote requests (R160 to R166). -/

namespace Sys2Proof.Machine

/-! ### What follows a completion (R159) -/

/-- LOT OPEN AT STOP, offered when a destination enters STALLED or STARVED with its lot tracker open (R159). -/
def State.offerLotOpen (s : State) (d : Nat) : State :=
  match (s.dest d).lot with
  | none => s
  | some lot => s.offer 0 (.lotOpenAtStop d lot.first lot.totes lot.items)

/-- The destination advances: the first QUEUED descriptor becomes CURRENT, or the destination becomes STARVED (R159). -/
def State.advance (s : State) (d : Nat) : State :=
  match (s.dest d).queued with
  | t :: rest => s.modDest d fun x => { x with state := .active t, queued := rest }
  | [] => ((s.modDest d fun x => { x with state := .starved }).offer 0 (.destinationStarved d)).offerLotOpen d

/-- The destination stalls on a completed tote (R159). -/
def State.stall (s : State) (d : Nat) (cause : ChainMode) (tote : Nat) : State :=
  ((s.modDest d fun x => { x with state := .stalled cause tote }).offer 0
    (.destinationStalled d cause tote (s.dest d).queued.length)).offerLotOpen d

/-- Whether a completed tote stalls the destination, by its chain mode (R154, R159). -/
def Destination.stallsOn (x : Destination) (t : Tote) : Bool :=
  match x.mode with
  | .flag => t.pause
  | .limit => decide (x.limit = some t.id)

/-- The next step after a completion (R159). -/
def State.nextStep (s : State) (d : Nat) (t : Tote) : State :=
  if (s.dest d).stallsOn t then s.stall d (s.dest d).mode t.id else s.advance d

/-! ### Completion (R157, R158) -/

/-- The lot tracker with one more completed tote (R158). -/
def growLot (lot : Option Lot) (t : Tote) : Lot :=
  let open' := lot.getD ⟨t.id, 0, 0⟩
  { open' with totes := min 65535 (open'.totes + 1), items := min 4294967295 (open'.items + t.count) }

/-- The lot tracker takes a completed tote, and closes on a LOT END tote (R158). -/
def State.takeIntoLot (s : State) (d : Nat) (t : Tote) : State :=
  let lot := growLot (s.dest d).lot t
  if t.lotEnd then
    (s.modDest d fun x => { x with lot := none }).offer 0 (.lotComplete d lot.first t.id lot.totes lot.items)
  else s.modDest d fun x => { x with lot := some lot }

/-- A tote completes: its event, its lot, its descriptor freed, the destination's next step (R157). The item is that of the
drop or the claim, and 0 for FORCED. -/
def State.complete (s : State) (d : Nat) (t : Tote) (reason : CompletionReason) (item : Nat) : State :=
  let s := s.offer item (.toteComplete t.id d t.count t.weight reason t.firstDrop)
  (s.takeIntoLot d t).nextStep d t

/-! ### Drops (R155, R156) -/

/-- The weight a claim charges: the item's, or the nominal weight of its program in its bound bank (R155). -/
def State.chargeFor (s : State) (it : Item) : Nat :=
  it.weight.getD ((s.plan.banks.at it.bank).program (it.category.getD 31)).nominal

/-- The current tote with an accepted drop counted in (R156). -/
def Tote.countDrop (t : Tote) (w clock : Nat) : Tote :=
  { t with count := t.count + 1, weight := t.weight + w, firstDrop := some (t.firstDrop.getD clock) }

/-- What an accepted drop brings about at its tote, after ITEM PLACED (R156). -/
def State.afterDrop (s : State) (d : Nat) (t : Tote) (item : Nat) : State :=
  if t.count = t.capacity then s.complete d t .full item
  else if t.count = t.warnAt then s.offer item (.toteNearFull t.id d t.count t.capacity t.weight)
  else s

/-! ### Requests (R160 to R166) -/

def DestState.report : DestState → DestStatus
  | .starved => .starved
  | .active t => .active t.id
  | .stalled cause tote => .stalled cause tote

def State.destReport (s : State) (d : Nat) : DestReport := ⟨(s.dest d).state.report, (s.dest d).queued.length⟩

def State.destDone (s : State) (d : Nat) : Answer := s.done (.destination (s.destReport d))

/-- A descriptor as ADD TOTE makes it (R161). -/
def newTote (tote capacity weightLimit warnAt : Nat) (pause lotEnd : Bool) : Tote :=
  { id := tote, capacity := capacity, weightLimit := weightLimit, warnAt := warnAt, pause := pause, lotEnd := lotEnd,
    count := 0, weight := 0, firstDrop := none }

/-- The descriptor joins the tail of the chain; at a STARVED destination it becomes CURRENT (R161). -/
def Destination.addTote (x : Destination) (t : Tote) : Destination :=
  match x.state with
  | .starved => { x with state := .active t }
  | .active _ => { x with queued := x.queued ++ [t] }
  | .stalled _ _ => { x with queued := x.queued ++ [t] }

def addTote (d tote capacity weightLimit warnAt : Nat) (pause lotEnd : Coded Mark) (s : State) : Answer :=
  if !toteInRange d tote capacity weightLimit warnAt pause lotEnd then s.refuse .outOfRange
  else if s.allTotes.any fun t => decide (t.id = tote) then s.refuse .duplicate
  else if s.freeTotes = 0 then s.refuse .full
  else
    let s := s.modDest d fun x => x.addTote (newTote tote capacity weightLimit warnAt (markSet pause) (markSet lotEnd))
    s.done (.toteAdded (s.destReport d) s.freeTotes)

def confirmSwap (d : Nat) (s : State) : Answer :=
  if 15 < d then s.refuse .outOfRange
  else
    match (s.dest d).state with
    | .stalled .flag _ => (s.advance d).destDone d
    | .stalled .limit _ => s.refuse .notStalled
    | .starved => s.refuse .notStalled
    | .active _ => s.refuse .notStalled

/-- A LIMIT stall is released when its tote differs from the limit now held (R163). -/
def State.releaseLimit (s : State) (d : Nat) : State :=
  match (s.dest d).state with
  | .stalled .limit tote => if (s.dest d).limit = some tote then s else s.advance d
  | .stalled .flag _ => s
  | .starved => s
  | .active _ => s

def setLimit (d : Nat) (limit : Option Nat) (s : State) : Answer :=
  if 15 < d ∨ limit = some 0 then s.refuse .outOfRange
  else ((s.modDest d fun x => { x with limit := limit }).releaseLimit d).destDone d

def closeTote (d tote : Nat) (s : State) : Answer :=
  if 15 < d ∨ tote = 0 then s.refuse .outOfRange
  else
    match (s.dest d).state with
    | .active t =>
      if t.id ≠ tote then s.refuse .notFound
      else if t.count = 0 ∧ t.lotEnd = false then s.refuse .empty
      else (s.complete d t .forced 0).destDone d
    | .starved => s.refuse .notFound
    | .stalled _ _ => s.refuse .notFound

def dropChain (d : Nat) (s : State) : Answer :=
  if 15 < d then s.refuse .outOfRange
  else
    let freed := (s.dest d).queued.length
    let s := s.modDest d fun x => { x with queued := [] }
    s.done (.chainDropped (s.destReport d) freed)

def DestState.name : DestState → DestName
  | .starved => .starved
  | .active _ => .active
  | .stalled _ _ => .stalled

def DestState.currentId : DestState → Option Nat
  | .starved => none
  | .active t => some t.id
  | .stalled _ _ => none

/-- READ DESTINATION: one destination, or 255 for ALL (R166). -/
def readDestination (d : Nat) (s : State) : Answer :=
  if d = 255 then
    s.done (.allDestinations s.freeTotes ((List.range 16).map fun d =>
      ((s.dest d).state.name, (s.dest d).state.currentId, (s.dest d).queued.length)))
  else if 15 < d then s.refuse .outOfRange
  else s.done (.destinationRead d (s.dest d))

/-! ### The commands -/

def execAddTote (tag dest tote capacity weightLimit warnAt : Nat) (pause lotEnd : Coded Mark) (s : State) :
    Host.Outcome State Fault Refusal :=
  .next (s.serve tag 128 (addTote dest tote capacity weightLimit warnAt pause lotEnd))

def execConfirmSwap (tag dest : Nat) (s : State) : Host.Outcome State Fault Refusal :=
  .next (s.serve tag 129 (confirmSwap dest))

def execSetLimit (tag dest : Nat) (limit : Option Nat) (s : State) : Host.Outcome State Fault Refusal :=
  .next (s.serve tag 130 (setLimit dest limit))

def execCloseTote (tag dest tote : Nat) (s : State) : Host.Outcome State Fault Refusal :=
  .next (s.serve tag 131 (closeTote dest tote))

def execDropChain (tag dest : Nat) (s : State) : Host.Outcome State Fault Refusal :=
  .next (s.serve tag 132 (dropChain dest))

def execReadDestination (tag dest : Nat) (s : State) : Host.Outcome State Fault Refusal :=
  .next (s.serve tag 133 (readDestination dest))

end Sys2Proof.Machine
end

