-- ==== Sys2Proof/Machine/Sorter.lean ====
section
/-! DEFINITION. The Sorter Tracker: pitch and index edges (R133 to R146), the merge, drop claims and gates. -/

namespace Sys2Proof.Machine

/-- The carrier that stands at a position (R134). -/
def carrierAt (origin position : Nat) : Nat := (position + Config.loopSize - origin) % Config.loopSize

/-- Assert a gate output; the list of asserted outputs keeps its order (R143). -/
def insertGate (g : Nat) : List Nat → List Nat
  | [] => [g]
  | h :: rest => if g < h then g :: h :: rest else if g = h then h :: rest else h :: insertGate g rest

def State.fireGate (s : State) (g : Nat) : State :=
  { s with sorter := { s.sorter with gates := insertGate g s.sorter.gates } }

/-! ### Laps (R136, R137) -/

/-- One lap: a count of 7 stays, and an item at or above the limit is sent to gate E. -/
def Item.lap (it : Item) (limit : Nat) : Item :=
  let laps := min 7 (it.laps + 1)
  let it := { it with laps := laps }
  if limit ≤ laps then it.sendToE .laps else it

/-! ### The merge (R138, R139) -/

/-- The lane's head item, if it is READY and the lane's END slot is UP (R138). -/
def State.eligible (s : State) (l : LaneId) : Option Nat :=
  match (s.lanes.at l).queue with
  | [] => none
  | n :: _ =>
    match s.item n with
    | none => none
    | some it => if it.state = .ready ∧ (s.slot ⟨l, .laneEnd⟩).state = .up then some n else none

/-- The first eligible lane from the pointer on, with its head item (R138). -/
def State.firstEligible (s : State) : Option (LaneId × Nat) :=
  (lanesFrom s.sorter.pointer).findSome? fun l => (s.eligible l).map fun n => (l, n)

/-- The item as a grant leaves it (R139). -/
def Item.load (it : Item) (carrier clock : Nat) : Item :=
  { it with state := .sorting, carrier := some carrier, loadedTime := some clock }

/-- A grant to lane `l` of the carrier at the merge (R139). -/
def State.grant (s : State) (l : LaneId) (n carrier : Nat) : State :=
  let s := s.modLane l fun x => { x with queue := x.queue.tail }
  let s := s.modItem n fun it => it.load carrier s.line.clock
  { s with sorter := { s.sorter with
      xfer := s.sorter.xfer.modify l fun _ => true
      carriers := s.sorter.carriers.put carrier n
      pointer := nextLane l } }

/-- The merge work of a pitch with the line not suspended: a lap, or a grant (R136, R138). -/
def State.mergeWork (s : State) : State :=
  let carrier := carrierAt s.sorter.origin 0
  match s.sorter.carriers.lookup carrier with
  | some n => s.modItem n fun it => it.lap s.line.lapLimit
  | none =>
    if s.sorter.aligned then
      match s.firstEligible with
      | some (l, n) => s.grant l n carrier
      | none => s
    else s

/-! ### The gates (R140 to R142) -/

/-- An accepted drop, as one act (R141, R156). -/
def State.acceptDrop (s : State) (n : Nat) (it : Item) (d : Nat) (t : Tote) (w : Nat) : State :=
  let t' := t.countDrop w s.line.clock
  let s := (s.modDest d fun x => { x with state := .active t' }).fireGate d
  let s := s.closeRecord n it (.itemPlaced t.id w it.finalFields)
  (s.afterDrop d t' n).afterRetirement it true

/-- A drop claim and its answer (R141, R155). -/
def State.claim (s : State) (n : Nat) (it : Item) (d : Nat) : State :=
  let w := s.chargeFor it
  match (s.dest d).state with
  | .starved => s
  | .stalled _ _ => s
  | .active t =>
    if t.count = 0 ∧ t.weightLimit < w then s.modItem n fun x => x.sendToE .tooHeavy
    else if t.weightLimit < t.weight + w then s.complete d t .weight n
    else s.acceptDrop n it d t w

/-- A drop at gate E, with the item's exception reason (R142). -/
def State.exceptionDrop (s : State) (n : Nat) (it : Item) (reason : ExcReason) : State :=
  let s := s.fireGate 16
  (s.closeRecord n it (.itemException reason it.finalFields)).afterRetirement it true

/-- The item on the carrier at a gate's position, if the gate has one (R135). -/
def State.atGate (s : State) (g : Nat) : Option (Nat × Item) :=
  match s.line.gatePositions.lookup g with
  | none => none
  | some p =>
    match s.sorter.carriers.lookup (carrierAt s.sorter.origin p) with
    | none => none
    | some n => (s.item n).map fun it => (n, it)

/-- The gate of an item's route: its destination's, or 16 for gate E. -/
def Route.gate : Route → Nat
  | .tote d => d
  | .exception _ => 16

/-- The item at a gate is destined for that gate (R135). -/
def State.gateDue (s : State) (g : Nat) : Bool :=
  match s.atGate g with
  | none => false
  | some (_, it) => decide (it.route.map Route.gate = some g)

/-- The work of one gate (R140, R142). -/
def State.gateWork (s : State) (g : Nat) : State :=
  match s.atGate g with
  | none => s
  | some (n, it) =>
    match it.route with
    | none => s
    | some (.tote d) => if d = g then s.claim n it d else s
    | some (.exception reason) => if g = 16 then s.exceptionDrop n it reason else s

/-! ### A pitch edge (R134, R143 to R145) -/

/-- The acts of one pitch, which no rule orders with each other (R134, R145). -/
inductive PitchAct where
  | indexMissing
  | merge
  | gate (g : Nat)
  deriving DecidableEq, Repr

/-- INDEX MISSING, and the pause mark with cause INDEX (R145). -/
def State.indexMissing (s : State) : State :=
  (s.offer 0 (.indexMissing s.sorter.origin s.occupied)).setPause .index .index

def State.pitchAct (s : State) : PitchAct → State
  | .indexMissing => s.indexMissing
  | .merge => s.mergeWork
  | .gate g => s.gateWork g

/-- The pitch counts a passage of carrier 0 without an index, once the tracker is aligned (R145). -/
def Sorter.passes (x : Sorter) : Bool := x.aligned && decide (x.origin = Config.loopSize - 1)

/-- The tracker after the edge alone: outputs deasserted, every carrier one position on, the passage counted (R134, R143,
R145). -/
def Sorter.advance (x : Sorter) : Sorter :=
  { x with
    xfer := Quad.all false
    gates := []
    origin := wrapNext 0 (Config.loopSize - 1) x.origin
    revolution := if x.passes then (if x.revolution + 1 < 2 then x.revolution + 1 else 0) else x.revolution }

/-- The passage just counted raised the revolution count to 2 (R145). -/
def Sorter.misses (x : Sorter) : Bool := x.passes && decide (2 ≤ x.revolution + 1)

/-- The acts the pitch brings: INDEX MISSING if it is due, and, while the line is not suspended, the merge and the gates that
have work. -/
def State.pitchActs (s : State) (missing suspended : Bool) : List PitchAct :=
  (if missing then [PitchAct.indexMissing] else []) ++
    (if suspended then [] else PitchAct.merge :: ((List.range 17).filter s.gateDue).map PitchAct.gate)

/-- A pitch edge. The line's suspension is read once, as the pitch is taken (R144; log entry 7), and the acts are taken in a
free order (log entry 3): a grant of this pitch may come before or after the count of carriers in INDEX MISSING (R145). -/
def State.pitch (s : State) : State :=
  let suspended := s.suspended
  let missing := s.sorter.misses
  let s := { s with sorter := s.sorter.advance }
  let acts := s.pitchActs missing suspended
  ((s.freeOrder acts).foldl State.pitchAct s).countDraw acts.length

/-! ### An index edge (R145, R146) -/

/-- A slip: SORTER SLIP, the origin count to 0, and the pause mark with cause SLIP (R146). -/
def State.slip (s : State) : State :=
  let s := s.offer 0 (.sorterSlip s.sorter.origin s.occupied)
  State.setPause { s with sorter := { s.sorter with origin := 0, revolution := 0 } } .slip .slip

def State.indexEdge (s : State) : State :=
  if s.sorter.aligned then
    if s.sorter.origin = 0 then { s with sorter := { s.sorter with revolution := 0 } } else s.slip
  else { s with sorter := { s.sorter with origin := 0, aligned := true, revolution := 0 } }

/-! ### STOP LINE CUT (R147) -/

/-- Every SORTING item is sent to gate E with reason CUT; a holding reason it holds is kept (R147, R8). -/
def State.cutSorter (s : State) : State :=
  { s with items := { s.items with
      records := s.items.records.mapValues fun it => if it.state = .sorting then it.sendToE .cut else it } }

/-! ### The commands -/

def execPitch (s : State) : Host.Outcome State Fault Refusal := .next s.pitch

def execIndex (s : State) : Host.Outcome State Fault Refusal := .next s.indexEdge

end Sys2Proof.Machine
end

