-- ==== Sys2Proof/Machine/LineControl.lean ====
section
/-! DEFINITION. The Line Controller: HOLD (R172), starting, pausing, resuming and stopping the line (R173 to R177), settings
(R178, R179), READ STATUS (R180), and the two resets (R182, R183 and the reset rules of every block). -/

namespace Sys2Proof.Machine

/-! ### HOLD (R172) -/

/-- A level change of HOLD; a level the input already has is no change. -/
def State.holdLevel (s : State) (high : Bool) : State :=
  if high = s.line.holdPin then s
  else State.offerLineState { s with line := { s.line with holdPin := high, hold := high } } .hold

/-! ### START LINE (R175) -/

/-- The first unset gate, taking gates 0 to 15 and then E (R175, test 2). -/
def LineControl.firstUnset (l : LineControl) : Option Nat :=
  (List.range 17).find? fun g => !l.gatePositions.has g

/-- The lowest-numbered gate that shares a position, and the next gate that shares it (R175, test 3). -/
def LineControl.sharedGates (l : LineControl) : Option (Nat × Nat) :=
  (List.range 17).findSome? fun g =>
    ((List.range 17).find? fun h =>
      decide (g < h) && decide (l.gatePositions.lookup g = l.gatePositions.lookup h)).map fun h => (g, h)

def State.usableLanes (s : State) : List LaneId := allLanes.filter fun l => s.usable l

/-- The whole act of a START LINE that is taken (R175). -/
def State.start (s : State) : State :=
  State.offerLineState { s with line := { s.line with mode := .running } } .start

def startLine (s : State) : Answer :=
  if !s.line.mode.isSetup then s.refuse .lineState
  else
    match s.line.firstUnset with
    | some g => s.refuseWith .notValid (.faultGate g)
    | none =>
      match s.line.sharedGates with
      | some (g, h) => s.refuseWith .contradiction (.faultGates g h)
      | none =>
        if s.activeBank = none then s.refuseWith .notValid .faultPlan
        else if s.usableLanes.isEmpty then s.refuse .laneIncomplete
        else s.start.done (.started s.usableLanes)

/-! ### PAUSE LINE and RESUME LINE (R173, R174) -/

def pauseLine (s : State) : Answer :=
  let s := s.setPause .host .pause
  s.done (.paused s.line.pause s.line.hold)

/-- The pause mark is cleared, whatever its cause (R174). -/
def State.clearPause (s : State) : State :=
  if s.line.pause.isSome then State.offerLineState { s with line := { s.line with pause := none } } .resume else s

def resumeLine (s : State) : Answer :=
  let s := s.clearPause
  s.done (.resumed s.line.pause s.line.hold s.suspended)

/-! ### STOP LINE (R176, R67, R147) -/

/-- A lane a cut has work at. -/
def State.cutTouches (s : State) (l : LaneId) : Bool :=
  decide ((s.lanes.at l).state ≠ .idle) || !(s.lanes.at l).queue.isEmpty

/-- The four lanes abort; the order of those that have work is free (R67; log entry 3). -/
def State.cutLanes (s : State) : State :=
  let busy := allLanes.filter s.cutTouches
  let idle := allLanes.filter fun l => !s.cutTouches l
  let abort := fun (s : State) (l : LaneId) => s.abort l .cut .cut
  ((s.freeOrder busy).foldl abort (idle.foldl abort s)).countDraw busy.length

/-- The mode or the stop kind changes: LINE STATE, the end test, and the cut if it is one (R176). -/
def State.stopAs (s : State) (kind : StopKind) : State :=
  let s := (State.offerLineState { s with line := { s.line with mode := .draining kind } } .stop).endTest
  match kind with
  | .drain => s
  | .cut => s.cutLanes.cutSorter

/-- The table of R176. -/
def State.stop (s : State) (kind : StopKind) : State :=
  match s.line.mode, kind with
  | .setup, _ => s
  | .running, kind => s.stopAs kind
  | .draining .drain, .cut => s.stopAs .cut
  | .draining .drain, .drain => s
  | .draining .cut, _ => s

def stopLine (kind : Coded StopKind) (s : State) : Answer :=
  match coded kind with
  | none => s.refuse .outOfRange
  | some kind =>
    if s.line.mode.isSetup then s.refuse .lineState
    else
      let s := s.stop kind
      s.done (.stopped s.line.mode s.live s.lanesNotIdle)

/-! ### Settings (R178, R179) -/

def onOff (b : Bool) : OnOff := if b then .on else .off

/-- The value a setting holds. -/
def State.setting (s : State) : SettingName → SettingValue
  | .manifestWait => .num s.line.manifestWait
  | .decisionWait => .num s.line.decisionWait
  | .sweepPeriod => .num s.line.sweepPeriod
  | .downThreshold => .num s.line.downThreshold
  | .lapLimit => .num s.line.lapLimit
  | .gatePosition g =>
    match s.line.gatePositions.lookup g with
    | none => .unset
    | some p => .num p
  | .chainMode d => .mode (.known (s.dest d).mode)
  | .eventEnable k => .enable (.known (onOff ((s.line.enables.lookup k).getD true)))
  | .beyond _ => .unset

/-- Write a value a setting admits (R179). -/
def State.writeSetting (s : State) : SettingName → SettingValue → State
  | .manifestWait, .num n => { s with line := { s.line with manifestWait := n } }
  | .decisionWait, .num n => { s with line := { s.line with decisionWait := n } }
  | .sweepPeriod, .num n => { s with line := { s.line with sweepPeriod := n } }
  | .downThreshold, .num n => { s with line := { s.line with downThreshold := n } }
  | .lapLimit, .num n => { s with line := { s.line with lapLimit := n } }
  | .gatePosition g, .num n => { s with line := { s.line with gatePositions := s.line.gatePositions.put g n } }
  | .gatePosition g, .unset => { s with line := { s.line with gatePositions := s.line.gatePositions.remove g } }
  | .chainMode d, .mode (.known m) => s.modDest d fun x => { x with mode := m }
  | .eventEnable k, .enable (.known .on) => { s with line := { s.line with enables := s.line.enables.put k true } }
  | .eventEnable k, .enable (.known .off) => { s with line := { s.line with enables := s.line.enables.put k false } }
  | _, _ => s

def configure (name : SettingName) (value : SettingValue) (s : State) : Answer :=
  if !settingExists name then s.refuse .outOfRange
  else if setupOnly name && !s.line.mode.isSetup then s.refuse .lineState
  else if !settingAdmits name value then s.refuse .outOfRange
  else
    let s := s.writeSetting name value
    s.done (.setting name (s.setting name))

def readSetting (name : SettingName) (s : State) : Answer :=
  if !settingExists name then s.refuse .outOfRange else s.done (.setting name (s.setting name))

/-! ### READ STATUS (R180) -/

def State.laneReport (s : State) (l : LaneId) : LaneReport :=
  let lane := s.lanes.at l
  { state := lane.state, usable := s.usable l,
    parcel := if lane.state = .idle then none else some lane.parcelCounter,
    account := lane.account, boundRas := lane.boundRas, closeCause := lane.closeCause, queue := lane.queue,
    timerRunning := lane.timer.isSome }

def State.statusReport (s : State) : StatusReport :=
  { mode := s.line.mode, pause := s.line.pause, hold := s.line.hold, suspended := s.suspended, clock := s.line.clock,
    lanes := ⟨s.laneReport .l1, s.laneReport .l2, s.laneReport .l3, s.laneReport .l4⟩,
    slots := s.bus.roster.map fun lane => lane.map fun slot => (slot.state, slot.score),
    sweep := s.bus.number, live := s.live, used := s.used, overrun := s.queue.overrun, plan := s.planReport,
    origin := s.sorter.origin, aligned := s.sorter.aligned, pointer := s.sorter.pointer, occupied := s.occupied,
    dests := (List.range 16).map fun d => (s.dest d).state.name, freeTotes := s.freeTotes }

def readStatus (s : State) : Answer := s.done (.status s.statusReport)

/-! ### Warm reset (R183 and the warm-reset rule of every block) -/

/-- A BOUND record as a warm reset places it; other records are unchanged (R48). -/
def Ra.warm (r : Ra) : Ra :=
  if r.state = .bound then
    { r with
      state := if r.fullyReceived then .complete else if r.closed then .short else .loaded
      closed := r.closed || r.fullyReceived, boundLane := none, mismatch := false }
  else r

/-- Placeholders are freed, BOUND records placed (R48). -/
def ReturnTable.warm (t : ReturnTable) : ReturnTable :=
  { records := Table.mapValues ⟨t.records.entries.filter fun e => !e.2.placeholder⟩ Ra.warm }

/-- R21. -/
def ItemTable.warm (t : ItemTable) : ItemTable := { records := Table.empty, nextNumber := t.nextNumber }

/-- R69. -/
def Lane.warm (x : Lane) : Lane := { Lane.cold with parcelCounter := x.parcelCounter, nextTicket := x.nextTicket }

/-- R91. -/
def Slot.warm (x : Slot) : Slot :=
  { x with state := if x.enrolled then .up else .vacant, score := 0, maxScore := 0, outcome := none }

/-- R91: the sweep timer restarts at the current period. -/
def StationBus.warm (b : StationBus) (period : Nat) : StationBus :=
  { roster := b.roster.map fun lane => lane.map Slot.warm, number := b.number, timer := period, sweep := none }

/-- R111. -/
def Bank.warm (b : Bank) : Bank :=
  if b.state = .draining then { b with state := .standby, valid := true, bound := 0 } else { b with bound := 0 }

def PlanStore.warm (p : PlanStore) : PlanStore := { p with banks := p.banks.map Bank.warm }

/-- R150. -/
def Sorter.warm (x : Sorter) : Sorter :=
  { x with carriers := Table.empty, xfer := Quad.all false, gates := [], revolution := 0 }

/-- R183. -/
def LineControl.warm (l : LineControl) : LineControl := { l with mode := .setup, pause := none, hold := l.holdPin }

/-- Every block takes its warm reset, and the WARM RESET leaves service; the link goes on (R183, R194). The Destination
Controller keeps everything (R169). -/
def State.warm (s : State) : State :=
  { s with
    port := { s.port with service := none }
    queue := EventQueue.cold
    line := s.line.warm
    returns := s.returns.warm
    lanes := s.lanes.map Lane.warm
    items := s.items.warm
    bus := s.bus.warm s.line.sweepPeriod
    plan := s.plan.warm
    sorter := s.sorter.warm }

/-- A WARM RESET whose reply has been sent is in service, and its reset has not yet acted (R183, R186). -/
def Port.awaitsReset (p : Port) : Bool :=
  match p.service with
  | some ⟨_, _, .sent⟩ => true
  | _ => false

/-! ### The commands -/

/-- R182: the commands still waiting and the free choices made are the model's own and are kept. -/
def execColdReset (holdHigh : Bool) (strap : LinkRate) (s : State) : Host.Outcome State Fault Refusal :=
  .next (State.cold holdHigh strap s.pending s.draws)

/-- R183: DONE is formed before the reset acts. -/
def execWarmReset (tag : Nat) (s : State) : Host.Outcome State Fault Refusal :=
  .next (s.serve tag 151 fun s => s.done .headOnly)

def execWarmResetActs (s : State) : Host.Outcome State Fault Refusal :=
  .next (if s.port.awaitsReset then s.warm else s)

def execHold (high : Bool) (s : State) : Host.Outcome State Fault Refusal := .next (s.holdLevel high)

def execStartLine (tag : Nat) (s : State) : Host.Outcome State Fault Refusal := .next (s.serve tag 144 startLine)

def execPauseLine (tag : Nat) (s : State) : Host.Outcome State Fault Refusal := .next (s.serve tag 145 pauseLine)

def execResumeLine (tag : Nat) (s : State) : Host.Outcome State Fault Refusal := .next (s.serve tag 146 resumeLine)

def execStopLine (tag : Nat) (kind : Coded StopKind) (s : State) : Host.Outcome State Fault Refusal :=
  .next (s.serve tag 147 (stopLine kind))

def execConfigure (tag : Nat) (name : SettingName) (value : SettingValue) (s : State) :
    Host.Outcome State Fault Refusal :=
  .next (s.serve tag 148 (configure name value))

def execReadSetting (tag : Nat) (name : SettingName) (s : State) : Host.Outcome State Fault Refusal :=
  .next (s.serve tag 149 (readSetting name))

def execReadStatus (tag : Nat) (s : State) : Host.Outcome State Fault Refusal := .next (s.serve tag 150 readStatus)

end Sys2Proof.Machine
end

