-- ==== Sys2Proof/Machine/Clock.lean ====
section
/-! DEFINITION. One millisecond of the line clock (R171, R29, R61, R74), which is what a step does when no command waits (log
entry 1). -/

namespace Sys2Proof.Machine

/-- A timer one millisecond on. -/
def countDown (t : Option Nat) : Option Nat := t.map fun n => n - 1

/-- The manifest-wait timers one millisecond on (R29). -/
def ReturnTable.countDown (t : ReturnTable) : ReturnTable :=
  { records := t.records.mapValues fun r => { r with timer := Machine.countDown r.timer } }

/-- A decision-wait timer one millisecond on (R61). -/
def Lane.countDown (x : Lane) : Lane :=
  { x with timer := x.timer.map fun t => { t with remaining := t.remaining - 1 } }

/-- The placeholders whose timer stands at 0 (R30). -/
def ReturnTable.expired (t : ReturnTable) : List Instr :=
  (t.records.entries.filter fun e => decide (e.2.state = .expected) && decide (e.2.timer = some 0)).map fun e =>
    .manifestWaitExpiry e.1

/-- The lanes whose decision-wait timer stands at 0 (R62). -/
def State.expiredLanes (s : State) : List Instr :=
  (allLanes.filter fun l => decide ((s.lanes.at l).timer.map WaitTimer.remaining = some 0)).map Instr.decisionWaitExpiry

/-- The timers that run only while the line is not suspended, one millisecond on (R29, R61). -/
def State.countWaits (s : State) : State :=
  if s.suspended then s else { s with returns := s.returns.countDown, lanes := s.lanes.map Lane.countDown }

/-- The expiries a millisecond brings (R30, R62, R74). -/
def State.expiries (s : State) : List Instr :=
  (if s.suspended then [] else s.returns.expired ++ s.expiredLanes) ++ (if s.bus.timer = 0 then [Instr.sweepTimer] else [])

/-- One millisecond: the line clock and the timers move, and the expiries that fall due wait as commands, in a free order. -/
def State.tick (s : State) : State :=
  let s := s.countWaits
  let s := { s with line := { s.line with clock := wrapNext 0 4294967295 s.line.clock }
                    bus := { s.bus with timer := s.bus.timer - 1 } }
  let due := s.expiries
  State.countDraw { s with pending := s.freeOrder due } due.length

end Sys2Proof.Machine
end

