-- ==== Sys2Proof/Machine/Link.lean ====
section
/-! DEFINITION. The Message Port's own commands (R184 to R186) and FETCH EVENTS (R191). -/

namespace Sys2Proof.Machine

/-! ### The receiver (R184) -/

/-- The start byte of a host frame. -/
def startByte : Byte := 0xA5

/-- The bytes held from the next start byte on: hunting resumes at the byte after the discarded frame's start byte (R184). -/
def rehunt (held : List Byte) : List Byte := held.tail.dropWhile fun b => b ≠ startByte

/-! ### Replies (R186) -/

/-- The last byte of the reply of the request in service was sent: a WARM RESET that was taken stays in service, any other
request leaves it (R183, R186). -/
def Port.serviceSent (p : Port) (r : Reply) : Port :=
  if r.kind = 151 ∧ r.status = .done then { p with service := p.service.map fun x => { x with stage := .sent } }
  else { p with service := none }

/-- The last byte of a reply was sent, and the transmitter takes the next (R186). -/
def Port.replySent (p : Port) : Port :=
  match p.sending with
  | none => p
  | some (.service r) => (p.serviceSent r).sendNext
  | some (.busy _) => p.sendNext

/-! ### FETCH EVENTS (R191) -/

def fetchEvents (count : Nat) (s : State) : Answer :=
  if count = 0 ∨ Config.maxFetch < count then s.refuse .outOfRange
  else
    let left := s.queue.events.drop count
    Answer.mk { s with queue := { events := left, overrun := false } } .done
      (.events s.queue.overrun (s.queue.events.take count) left.length)

/-! ### The commands -/

/-- R184: the part-received frame is discarded. -/
def execInterbyteTimeout (s : State) : Host.Outcome State Fault Refusal := .next s.frameTaken

/-- R184: no reply, and hunting resumes at the byte after the frame's start byte. -/
def execFrameDiscarded (held : List Byte) (s : State) : Host.Outcome State Fault Refusal :=
  .next { s with port := { s.port with receiving := rehunt held } }

/-- R185: the request reaches no block. -/
def execUnknownRequest (tag kind : Nat) (s : State) : Host.Outcome State Fault Refusal :=
  .next (s.serve tag kind fun s => ⟨s, .unknownRequest, .headOnly⟩)

/-- R185: the request reaches no block. -/
def execMalformedRequest (tag kind : Nat) (s : State) : Host.Outcome State Fault Refusal :=
  .next (s.serve tag kind fun s => ⟨s, .malformed, .headOnly⟩)

/-- R186: a frame received while a request is in service; with none in service there is nothing to be busy with. -/
def execBusy (tag kind : Nat) (s : State) : Host.Outcome State Fault Refusal :=
  .next (if s.port.service.isSome then s.frameTaken.answerBusy tag kind else s)

def execReplySent (s : State) : Host.Outcome State Fault Refusal := .next { s with port := s.port.replySent }

def execFetchEvents (tag count : Nat) (s : State) : Host.Outcome State Fault Refusal :=
  .next (s.serve tag 160 (fetchEvents count))

end Sys2Proof.Machine
end

