-- ==== Sys2Proof/Machine/Dispatch.lean ====
section
/-! DEFINITION. The meaning of every command. -/

namespace Sys2Proof.Machine

def exec (i : Instr) (s : State) : Host.Outcome State Fault Refusal :=
  match i with
  | .coldReset holdHigh strap => Sys2Proof.Machine.execColdReset holdHigh strap s
  | .warmReset tag => Sys2Proof.Machine.execWarmReset tag s
  | .warmResetActs => Sys2Proof.Machine.execWarmResetActs s
  | .hold high => Sys2Proof.Machine.execHold high s
  | .pitch => Sys2Proof.Machine.execPitch s
  | .index => Sys2Proof.Machine.execIndex s
  | .sweepTimer => Sys2Proof.Machine.execSweepTimer s
  | .turnTimeout partialAnswer => Sys2Proof.Machine.execTurnTimeout partialAnswer s
  | .manifestWaitExpiry ra => Sys2Proof.Machine.execManifestWaitExpiry ra s
  | .decisionWaitExpiry lane => Sys2Proof.Machine.execDecisionWaitExpiry lane s
  | .interbyteTimeout => Sys2Proof.Machine.execInterbyteTimeout s
  | .frameDiscarded held => Sys2Proof.Machine.execFrameDiscarded held s
  | .unknownRequest tag kind => Sys2Proof.Machine.execUnknownRequest tag kind s
  | .busy tag kind => Sys2Proof.Machine.execBusy tag kind s
  | .replySent => Sys2Proof.Machine.execReplySent s
  | .readItem tag item => Sys2Proof.Machine.execReadItem tag item s
  | .withdrawItem tag item => Sys2Proof.Machine.execWithdrawItem tag item s
  | .forceGrade tag item grade => Sys2Proof.Machine.execForceGrade tag item grade s
  | .loadReturn tag load => Sys2Proof.Machine.execLoadReturn tag load s
  | .addTags tag ra line codes => Sys2Proof.Machine.execAddTags tag ra line codes s
  | .amendReturn tag ra label reason quantity => Sys2Proof.Machine.execAmendReturn tag ra label reason quantity s
  | .removeReturn tag ra => Sys2Proof.Machine.execRemoveReturn tag ra s
  | .readReturn tag ra line => Sys2Proof.Machine.execReadReturn tag ra line s
  | .openParcel tag lane account pairs => Sys2Proof.Machine.execOpenParcel tag lane account pairs s
  | .closeParcel tag lane => Sys2Proof.Machine.execCloseParcel tag lane s
  | .abortLane tag lane => Sys2Proof.Machine.execAbortLane tag lane s
  | .enrolStation tag lane role address => Sys2Proof.Machine.execEnrolStation tag lane role address s
  | .retireStation tag lane role => Sys2Proof.Machine.execRetireStation tag lane role s
  | .readStation tag lane role => Sys2Proof.Machine.execReadStation tag lane role s
  | .writeCheck tag number fields => Sys2Proof.Machine.execWriteCheck tag number fields s
  | .writeList tag number entries => Sys2Proof.Machine.execWriteList tag number entries s
  | .writeProgram tag category list group nominal pieces => Sys2Proof.Machine.execWriteProgram tag category list group nominal pieces s
  | .writeThresholds tag t1 t2 t3 => Sys2Proof.Machine.execWriteThresholds tag t1 t2 t3 s
  | .writeMap tag cells => Sys2Proof.Machine.execWriteMap tag cells s
  | .clearBank tag => Sys2Proof.Machine.execClearBank tag s
  | .validatePlan tag => Sys2Proof.Machine.execValidatePlan tag s
  | .switchPlan tag => Sys2Proof.Machine.execSwitchPlan tag s
  | .setShadow tag value => Sys2Proof.Machine.execSetShadow tag value s
  | .addTote tag dest tote capacity weightLimit warnAt pause lotEnd => Sys2Proof.Machine.execAddTote tag dest tote capacity weightLimit warnAt pause lotEnd s
  | .confirmSwap tag dest => Sys2Proof.Machine.execConfirmSwap tag dest s
  | .setLimit tag dest limit => Sys2Proof.Machine.execSetLimit tag dest limit s
  | .closeTote tag dest tote => Sys2Proof.Machine.execCloseTote tag dest tote s
  | .dropChain tag dest => Sys2Proof.Machine.execDropChain tag dest s
  | .readDestination tag dest => Sys2Proof.Machine.execReadDestination tag dest s
  | .startLine tag => Sys2Proof.Machine.execStartLine tag s
  | .pauseLine tag => Sys2Proof.Machine.execPauseLine tag s
  | .resumeLine tag => Sys2Proof.Machine.execResumeLine tag s
  | .stopLine tag kind => Sys2Proof.Machine.execStopLine tag kind s
  | .configure tag name value => Sys2Proof.Machine.execConfigure tag name value s
  | .readSetting tag name => Sys2Proof.Machine.execReadSetting tag name s
  | .readStatus tag => Sys2Proof.Machine.execReadStatus tag s
  | .fetchEvents tag count => Sys2Proof.Machine.execFetchEvents tag count s
  | .nothing a => Sys2Proof.Machine.execNothing a s
  | .presented a => Sys2Proof.Machine.execPresented a s
  | .parcelDone a => Sys2Proof.Machine.execParcelDone a s
  | .atEnd a => Sys2Proof.Machine.execAtEnd a s
  | .tagReading a codes => Sys2Proof.Machine.execTagReading a codes s
  | .weight a grams => Sys2Proof.Machine.execWeight a grams s
  | .vision a pieces => Sys2Proof.Machine.execVision a pieces s
  | .garbledAnswer => Sys2Proof.Machine.execGarbledAnswer s
  | .malformedRequest tag kind => Sys2Proof.Machine.execMalformedRequest tag kind s
  | .sweepFrameSent => Sys2Proof.Machine.execSweepFrameSent s
  | .answerOutsideTurn => Sys2Proof.Machine.execAnswerOutsideTurn s

end Sys2Proof.Machine
end

