-- ==== Sys2Proof/Machine/Layout.lean ====
section
/-! DEFINITION. The encodings of R196 and the layouts of section 10.6 that the part sends: numbers, enumerations, the event
record, the reply frame, the sweep frame, and the CRC-16. What the spec leaves open of them is in log entry 9. -/

namespace Sys2Proof.Machine

/-! ### Numbers, optional fields and lists (R196) -/

def byte (n : Nat) : Byte := BitVec.ofNat 8 n

/-- A number in `k` bytes, most significant byte first. -/
def bytesOf : Nat → Nat → List Byte
  | 0, _ => []
  | k + 1, n => bytesOf k (n / 256) ++ [byte n]

def num1 (n : Nat) : List Byte := bytesOf 1 n
def num2 (n : Nat) : List Byte := bytesOf 2 n
def num4 (n : Nat) : List Byte := bytesOf 4 n

/-- An optional field: a presence byte, and the field when it is present. -/
def optional {α : Type} (enc : α → List Byte) : Option α → List Byte
  | none => [byte 0]
  | some a => byte 1 :: enc a

/-- A field the layout always carries. -/
def always {α : Type} (enc : α → List Byte) : Option α → List Byte
  | none => []
  | some a => enc a

/-- A list: a count byte, and the entries. -/
def counted {α : Type} (enc : α → List Byte) (l : List α) : List Byte := byte l.length :: l.flatMap enc

/-- Whether something holds: yes 1, no 0. -/
def yesNo (b : Bool) : List Byte := num1 (if b then 1 else 0)

/-- A mark, coded in the order "set or clear". -/
def markByte (b : Bool) : List Byte := num1 (if b then 0 else 1)

/-! ### The CRC-16 -/

/-- One bit of the division by x¹⁶ + x¹² + x⁵ + 1. -/
def crcBit (c : BitVec 16) : BitVec 16 := if c.msb then (c <<< 1) ^^^ 0x1021 else c <<< 1

def crcByte (c : BitVec 16) (b : Byte) : BitVec 16 :=
  crcBit (crcBit (crcBit (crcBit (crcBit (crcBit (crcBit (crcBit (c ^^^ (b.zeroExtend 16 <<< 8)))))))))

/-- Most significant bit first, from FFFFh, not reflected, no final inversion. -/
def crc16 (bytes : List Byte) : BitVec 16 := bytes.foldl crcByte 0xFFFF

/-- The bytes with their check, most significant byte first. -/
def withCrc (bytes : List Byte) : List Byte := bytes ++ num2 (crc16 bytes).toNat

/-! ### Enumerations (R196): from 0 in the order of the rule that lists the values -/

/-- The place of a value in a list. -/
def codeIn {α : Type} [DecidableEq α] (values : List α) (a : α) : Nat := values.idxOf a

def grades : List Grade := [.a, .b, .c, .d, .q]
/-- R5. -/
def itemStates : List ItemState := [.measuring, .decided, .waiting, .ready, .sorting]
/-- R6. -/
def roleStatuses : List RoleStatus := [.awaited, .taken, .missing]
/-- R7. -/
def matchResults : List MatchResult :=
  [.exact, .skuOnly, .unlisted, .repeated, .over, .stray, .noReturn, .staleLabel, .unread, .forced]
/-- R7. -/
def caps : List Cap := [.noCap, .b, .c, .d]
/-- R8. -/
def excReasons : List ExcReason := [.mapped, .laps, .tooHeavy, .withdrawn, .cut]
/-- R14. -/
def withdrawReasons : List WithdrawReason := [.host, .skipped, .aborted, .cut]
/-- R24. -/
def raStates : List RaState := [.loaded, .bound, .expected, .overdue, .complete, .short]
/-- R49. -/
def laneStates : List LaneState := [.idle, .opened, .closing]
/-- R49. -/
def closeCauses : List CloseCause := [.host, .key]
/-- Section 10.6, sweep frame. -/
def entryRefusals : List EntryRefusal := [.notOpen, .line, .queueFull, .eventsFull, .entryDown, .endDown]
/-- R65. -/
def endCauses : List EndCause := [.host, .key, .aborted, .cut]
/-- R196. -/
def raOutcomes : List RaOutcome := [.complete, .short, .noManifest]
/-- R70. -/
def slotStates : List SlotState := [.vacant, .up, .down]
/-- Section 10.6. -/
def roles : List Role := [.entry, .tag, .scale, .vision, .laneEnd]
/-- Section 10.6, answer frame. -/
def reportKinds : List ReportKind := [.nothing, .presented, .parcelDone, .tagReading, .weight, .vision, .atEnd]
/-- R87. -/
def lateCauses : List LateCause := [.decided, .missing, .taken]
/-- R93. -/
def checkSources : List Source :=
  [.tagState, .matchResult, .weightDeviation, .stain, .tear, .wear, .crease, .swingTag, .colour, .piecesShort, .reason]
/-- R93. -/
def scopes : List Scope := [.item, .piece]
/-- R93. -/
def testKinds : List TestKind := [.atMost, .atLeast, .within, .equals, .notEquals]
/-- R93. -/
def missingPolicies : List MissingPolicy := [.pass, .fail, .quarantine]
/-- R97. -/
def bankStates : List BankState := [.empty, .standby, .active, .draining]
/-- R104. -/
def faultKinds : List FaultKind := [.noProgram, .noList, .noCheck, .badScope, .thresholds, .noMapCell]
/-- R108. -/
def onOffs : List OnOff := [.on, .off]
/-- R131. -/
def failCauses : List FailCause := [.value, .missing]
/-- R151. -/
def chainModes : List ChainMode := [.flag, .limit]
/-- R151. -/
def destNames : List DestName := [.starved, .active, .stalled]
/-- R157. -/
def completionReasons : List CompletionReason := [.full, .weight, .forced]
/-- R170. -/
def stopKinds : List StopKind := [.drain, .cut]
/-- R170. -/
def pauseCauses : List PauseCause := [.host, .slip, .index]
/-- R170. -/
def lineCauses : List LineCause := [.start, .stop, .stopEnd, .pause, .resume, .slip, .index, .hold]
/-- R187. -/
def refusalReasons : List RefusalReason :=
  [.full, .duplicate, .duplicateTag, .notFound, .inUse, .outOfRange, .contradiction, .staleLabel, .notOneAccount,
    .alreadyComplete, .laneIncomplete, .lineState, .bankBusy, .notValid, .notStalled, .empty]

def enum {α : Type} [DecidableEq α] (values : List α) (a : α) : List Byte := num1 (codeIn values a)

def LineMode.code : LineMode → Nat
  | .setup => 0
  | .running => 1
  | .draining _ => 2

def LineMode.kind : LineMode → Option StopKind
  | .setup => none
  | .running => none
  | .draining k => some k

/-- The mode, and the stop kind or absent (R170). -/
def modeBytes (m : LineMode) : List Byte := num1 m.code ++ optional (enum stopKinds) m.kind

def laneByte (l : LaneId) : List Byte := num1 (laneNumber l)

def bankByte : BankId → List Byte
  | .b0 => num1 0
  | .b1 => num1 1

/-- Five times the lane minus one, plus the role (section 10.6). -/
def slotNumber (x : SlotId) : Nat := 5 * (laneNumber x.lane - 1) + codeIn roles x.role

def destByte : Dest → List Byte
  | .gate d => num1 d
  | .gateE => num1 16

/-- R93: PENALTY with its amount, CAP B, CAP C, CAP D, QUARANTINE. -/
def actionBytes : FailAction → List Byte
  | .penalty n => num1 0 ++ num1 n
  | .capB => num1 1
  | .capC => num1 2
  | .capD => num1 3
  | .quarantine => num1 4

/-- A tag code: 24 bits of SKU and 40 of serial. -/
def tagCodeBytes (c : TagCode) : List Byte := bytesOf 3 c.sku ++ bytesOf 5 c.serial

/-! ### The event record -/

/-- A match result, matched RA number and line index, each of which may be absent (R14). RA number and line index are present
together (R7); that each has a presence byte of its own is the model's choice (log entry 9). -/
def matchBytes (result : Option MatchResult) (matched : Option (Nat × Nat)) : List Byte :=
  optional (enum matchResults) result ++ optional num4 (matched.map (·.1)) ++ optional num1 (matched.map (·.2))

/-- The detail of a final event: `field` carries the grade and the destination, which only ITEM WITHDRAWN may lack (R14). -/
def finalBytes (first : List Byte) (gradeBytes : Option Grade → List Byte) (routeBytes : Option Dest → List Byte)
    (weight : List Byte) (f : FinalFields) : List Byte :=
  first ++ laneByte f.lane ++ num1 f.ticket ++ num2 f.parcel ++ enum itemStates f.state ++ gradeBytes f.grade ++
    matchBytes f.result f.matched ++ routeBytes f.dest ++ weight ++ num1 f.laps ++ markByte f.forced

def Route.dest : Route → Dest
  | .tote d => .gate d
  | .exception _ => .gateE

def Route.reason : Route → Option ExcReason
  | .tote _ => none
  | .exception r => some r

/-- R130. Result, line index, shadow grade and reason have a presence byte; category, grade and destination, which an item has
once it is graded, have none (the model's choice, log entry 9). -/
def gradedBytes (f : GradedFields) : List Byte :=
  laneByte f.lane ++ num1 f.ticket ++ num2 f.parcel ++ bankByte f.bank ++ optional (enum matchResults) f.result ++
    optional num1 f.line ++ always num1 f.category ++ num2 f.penalty ++ enum caps f.cap ++ markByte f.quarantine ++
    counted num1 f.failed ++ always (enum grades) f.grade ++ optional (enum grades) f.shadow ++
    always destByte (f.route.map Route.dest) ++ optional (enum excReasons) (f.route.bind Route.reason) ++
    enum itemStates f.state ++ markByte f.forced

/-- The subject of an event (R195). -/
def EventBody.subject : EventBody → Nat
  | .itemPlaced tote _ _ => tote
  | .itemException _ f => laneNumber f.lane
  | .itemWithdrawn _ f => laneNumber f.lane
  | .itemGraded f => f.ra
  | .checkFailed f => match f.bank with | .b0 => 0 | .b1 => 1
  | .manifestOverdue ra .. => ra
  | .parcelClosed lane .. => laneNumber lane
  | .stationDown slot .. => slotNumber slot
  | .stationUp slot .. => slotNumber slot
  | .stationOrphan slot .. => slotNumber slot
  | .lateMeasurement slot .. => slotNumber slot
  | .planSwitched active .. => match active with | .b0 => 0 | .b1 => 1
  | .planDrained bank _ => match bank with | .b0 => 0 | .b1 => 1
  | .sorterSlip .. => 0
  | .indexMissing .. => 0
  | .toteNearFull tote .. => tote
  | .toteComplete tote .. => tote
  | .lotComplete dest .. => dest
  | .destinationStalled dest .. => dest
  | .destinationStarved dest => dest
  | .lotOpenAtStop dest .. => dest
  | .lineState .. => 0

/-- The detail fields of an event, in the order its rule lists them (R190, R195). That DESTINATION STALLED's number of QUEUED
descriptors takes two bytes is the model's choice (log entry 9). -/
def EventBody.detail : EventBody → List Byte
  | .itemPlaced _ w f => finalBytes [] (always (enum grades)) (always destByte) (num2 w) f
  | .itemException r f => finalBytes (enum excReasons r) (always (enum grades)) (always destByte) [] f
  | .itemWithdrawn r f => finalBytes (enum withdrawReasons r) (optional (enum grades)) (optional destByte) [] f
  | .itemGraded f => gradedBytes f
  | .checkFailed f =>
    num1 f.check ++ num1 f.place ++ num1 f.piece ++ enum failCauses f.cause ++ optional num2 f.value ++
      actionBytes f.action
  | .manifestOverdue _ lane parcel account label => laneByte lane ++ num2 parcel ++ num4 account ++ num1 label
  | .parcelClosed _ parcel account cause retired outcomes =>
    num2 parcel ++ optional num4 account ++ enum endCauses cause ++ num1 retired ++
      counted (fun o => num4 o.1 ++ enum raOutcomes o.2.1 ++ num1 o.2.2) outcomes
  | .stationDown _ address score sweep => num1 address ++ num1 score ++ num1 sweep
  | .stationUp _ address maxScore sweep => num1 address ++ num1 maxScore ++ num1 sweep
  | .stationOrphan _ ticket kind => num1 ticket ++ enum reportKinds kind
  | .lateMeasurement _ ticket kind cause => num1 ticket ++ enum reportKinds kind ++ enum lateCauses cause
  | .planSwitched _ other state bound => bankByte other ++ enum bankStates state ++ num1 bound
  | .planDrained _ active => bankByte active
  | .sorterSlip origin occupied => num1 origin ++ num1 occupied
  | .indexMissing origin occupied => num1 origin ++ num1 occupied
  | .toteNearFull _ dest count capacity weight => num1 dest ++ num1 count ++ num1 capacity ++ num2 weight
  | .toteComplete _ dest count weight reason firstDrop =>
    num1 dest ++ num1 count ++ num2 weight ++ enum completionReasons reason ++ optional num4 firstDrop
  | .lotComplete _ first last totes items => num4 first ++ num4 last ++ num2 totes ++ num4 items
  | .destinationStalled _ cause tote queued => enum chainModes cause ++ num4 tote ++ num2 queued
  | .destinationStarved _ => []
  | .lotOpenAtStop _ first totes items => num4 first ++ num2 totes ++ num4 items
  | .lineState mode pause hold cause =>
    modeBytes mode ++ markByte pause.isSome ++ optional (enum pauseCauses) pause ++ markByte hold ++
      enum lineCauses cause

/-- An event record, 48 bytes (section 10.6). -/
def eventRecord (e : Event) : List Byte :=
  let detail := e.body.detail
  num1 e.body.kind.code ++ num1 detail.length ++ num4 e.time ++ num2 e.item ++ num4 e.body.subject ++ detail ++
    List.replicate (36 - detail.length) (byte 0)

/-! ### Reply data -/

/-- A tag state and its tag code (R6). -/
def tagStateBytes : TagState → List Byte
  | .read c => num1 0 ++ byte 1 :: tagCodeBytes c
  | .noTag => num1 1 ++ [byte 0]
  | .corrupt => num1 2 ++ [byte 0]
  | .conflict => num1 3 ++ [byte 0]

def pieceBytes (p : PieceScores) : List Byte :=
  num1 p.stain ++ num1 p.tear ++ num1 p.wear ++ num1 p.crease ++ num1 p.swingTag ++ num1 p.colour

/-- Every field of R5 to R8, in their order, with a presence byte for each optional one (log entry 9). -/
def itemBytes (n : Nat) (it : Item) : List Byte :=
  num2 n ++ laneByte it.lane ++ num1 it.ticket ++ num2 it.parcel ++ bankByte it.bank ++ enum itemStates it.state ++
    num4 it.created ++ optional num4 it.decidedTime ++ optional num4 it.loadedTime ++
    enum roleStatuses it.tagStatus ++ enum roleStatuses it.scaleStatus ++ enum roleStatuses it.visionStatus ++
    tagStateBytes it.tagState ++ optional num2 it.weight ++ counted pieceBytes it.pieces ++
    matchBytes it.result it.matched ++ optional num1 it.category ++ num1 it.expectedPieces ++ num2 it.penalty ++
    enum caps it.cap ++ markByte it.quarantine ++ counted num1 it.failed ++ optional (enum grades) it.grade ++
    optional (enum grades) it.shadow ++ markByte it.forced ++ optional destByte it.dest ++
    optional (enum excReasons) (it.route.bind Route.reason) ++ optional num1 it.carrier ++ num1 it.laps

def summaryBytes (x : ItemSummary) : List Byte :=
  num1 x.live ++ num1 x.measuring ++ num1 x.decided ++ num1 x.waiting ++ num1 x.ready ++ num1 x.sorting ++
    num1 x.bank0 ++ num1 x.bank1 ++ num2 x.nextNumber

/-- R37. -/
def raHeaderBytes (h : RaHeader) : List Byte :=
  num4 h.ra ++ num4 h.account ++ num1 h.label ++ num1 h.reason ++ enum raStates h.state ++ markByte h.mismatch ++
    markByte h.closed ++ optional laneByte h.boundLane ++ num1 h.matched ++ optional num4 h.timer ++ num1 h.lineCount

def lineSummaryBytes (l : LineSummary) : List Byte :=
  num4 l.sku ++ num1 l.category ++ num1 l.quantity ++ num1 l.received ++ num1 l.pieces ++ num2 l.refWeight ++
    num1 l.tags ++ num1 l.tagsReceived

def raLineBytes (l : Line) : List Byte :=
  num4 l.sku ++ num1 l.category ++ num1 l.quantity ++ num1 l.received ++ num1 l.pieces ++ num2 l.refWeight ++
    counted (fun t => tagCodeBytes t.code ++ markByte t.received) l.tags

/-- R38. -/
def returnSummaryBytes (x : ReturnSummary) : List Byte :=
  num2 x.records ++ num2 x.loaded ++ num2 x.bound ++ num2 x.expected ++ num2 x.overdue ++ num2 x.complete ++
    num2 x.short ++ num2 x.linesUsed ++ num2 x.linesFree ++ num2 x.tagsUsed ++ num2 x.tagsFree ++ num2 x.manifestWait

/-- R73. -/
def stationBytes (x : StationReport) : List Byte :=
  enum slotStates x.state ++ optional num1 x.address ++ num1 x.score ++ num1 x.maxScore ++ optional num4 x.lastValid ++
    num1 x.sweepNumber ++ num1 x.sweepPeriod ++ num1 x.downThreshold

/-- R97: the states, the marks and the counts of both banks, the edit bank and the shadow setting. -/
def planBytes (x : PlanReport) : List Byte :=
  enum bankStates x.states.b0 ++ enum bankStates x.states.b1 ++ markByte x.valid.b0 ++ markByte x.valid.b1 ++
    num1 x.bound.b0 ++ num1 x.bound.b1 ++ bankByte x.edit ++ enum onOffs x.shadow

/-- R180: each bank's state, mark and count; the edit bank; the shadow setting. -/
def statusPlanBytes (x : PlanReport) : List Byte :=
  enum bankStates x.states.b0 ++ markByte x.valid.b0 ++ num1 x.bound.b0 ++ enum bankStates x.states.b1 ++
    markByte x.valid.b1 ++ num1 x.bound.b1 ++ bankByte x.edit ++ enum onOffs x.shadow

/-- A destination's state, stall cause and tote ID if STALLED, and current tote ID if ACTIVE (R160). -/
def destStatusBytes : DestStatus → List Byte
  | .starved => num1 0 ++ [byte 0, byte 0, byte 0]
  | .active t => num1 1 ++ [byte 0, byte 0] ++ byte 1 :: num4 t
  | .stalled cause t => num1 2 ++ byte 1 :: enum chainModes cause ++ byte 1 :: num4 t ++ [byte 0]

def destReportBytes (x : DestReport) : List Byte := destStatusBytes x.status ++ num2 x.queued

/-- Every field of R152 of a current tote. -/
def currentToteBytes (d : Nat) (t : Tote) : List Byte :=
  num4 t.id ++ num1 d ++ num1 t.capacity ++ num2 t.weightLimit ++ num1 t.warnAt ++ markByte t.pause ++
    markByte t.lotEnd ++ num1 t.count ++ num2 t.weight ++ optional num4 t.firstDrop

def queuedToteBytes (t : Tote) : List Byte :=
  num4 t.id ++ num1 t.capacity ++ num2 t.weightLimit ++ num1 t.warnAt ++ markByte t.pause ++ markByte t.lotEnd

def lotBytes (x : Lot) : List Byte := num4 x.first ++ num2 x.totes ++ num4 x.items

def DestState.current : DestState → Option Tote
  | .starved => none
  | .active t => some t
  | .stalled _ _ => none

def DestState.stall : DestState → Option (ChainMode × Nat)
  | .starved => none
  | .active _ => none
  | .stalled cause t => some (cause, t)

/-- R166. The lot tracker is sent as an optional field: 0 while it is closed, 1 and its fields while it is open (the model's
choice, log entry 9). -/
def destinationBytes (d : Nat) (x : Destination) : List Byte :=
  enum destNames x.state.name ++ optional (enum chainModes) (x.state.stall.map (·.1)) ++
    optional num4 (x.state.stall.map (·.2)) ++ enum chainModes x.mode ++ optional num4 x.limit ++
    optional (currentToteBytes d) x.state.current ++ counted queuedToteBytes x.queued ++ optional lotBytes x.lot

/-- The value of a setting: MANIFEST WAIT in two bytes, an unset gate position as an absent one (R178, R196). -/
def settingBytes : SettingName → SettingValue → List Byte
  | .manifestWait, .num n => num2 n
  | .gatePosition _, .num n => byte 1 :: num1 n
  | .gatePosition _, .unset => [byte 0]
  | _, .num n => num1 n
  | _, .unset => []
  | _, .mode (.known m) => enum chainModes m
  | _, .mode (.beyond c) => num1 c
  | _, .enable (.known v) => enum onOffs v
  | _, .enable (.beyond c) => num1 c

def laneReportBytes (x : LaneReport) : List Byte :=
  enum laneStates x.state ++ yesNo x.usable ++ optional num2 x.parcel ++ optional num4 x.account ++
    counted num4 x.boundRas ++ optional (enum closeCauses) x.closeCause ++ counted num2 x.queue ++
    yesNo x.timerRunning

/-- R180. -/
def statusBytes (x : StatusReport) : List Byte :=
  modeBytes x.mode ++ markByte x.pause.isSome ++ optional (enum pauseCauses) x.pause ++ markByte x.hold ++
    yesNo x.suspended ++ num4 x.clock ++ x.lanes.toList.flatMap laneReportBytes ++
    (x.slots.toList.flatMap fun lane => lane.toList.flatMap fun slot => enum slotStates slot.1 ++ num1 slot.2) ++
    num1 x.sweep ++ num1 x.live ++ num2 x.used ++ markByte x.overrun ++ statusPlanBytes x.plan ++
    num1 x.origin ++ markByte x.aligned ++ laneByte x.pointer ++ num1 x.occupied ++
    (x.dests.flatMap fun d => enum destNames d) ++ num2 x.freeTotes

/-- The data after the reply head (R187). That FORCE GRADE's grade and destination, which a decided item has, have no presence
byte, and that ADD TOTE's number of FREE descriptors takes two bytes, is the model's choice (log entry 9). -/
def dataBytes : ReplyData → List Byte
  | .headOnly => []
  | .item n it => itemBytes n it
  | .itemSummary x => summaryBytes x
  | .withdrawn was redirected => enum itemStates was ++ yesNo redirected
  | .forced g d st => enum grades g ++ always destByte d ++ enum itemStates st
  | .loaded filled st mismatch lines tags =>
    yesNo filled ++ enum raStates st ++ num2 lines ++ num2 tags ++ (if filled then yesNo mismatch else [])
  | .listedTags n => num1 n
  | .raState st => enum raStates st
  | .entriesReturned lines tags => num1 lines ++ num1 tags
  | .raRecord h lines => raHeaderBytes h ++ lines.flatMap lineSummaryBytes
  | .raLine l => raLineBytes l
  | .returnSummary x => returnSummaryBytes x
  | .parcelOpened parcel bound => num2 parcel ++ counted (fun b => num1 (if b then 0 else 1)) bound
  | .laneState st => enum laneStates st
  | .aborted retired settled => num1 retired ++ yesNo settled
  | .enrolled slot usable => num1 (slotNumber slot) ++ yesNo usable
  | .station x => stationBytes x
  | .plan x => planBytes x
  | .validated none x => num1 0 ++ planBytes x
  | .validated (some (kind, index)) x => num1 1 ++ enum faultKinds kind ++ num1 index ++ planBytes x
  | .shadow v computed x => enum onOffs v ++ yesNo computed ++ planBytes x
  | .destination x => destReportBytes x
  | .toteAdded x free => destReportBytes x ++ num2 free
  | .chainDropped x freed => destReportBytes x ++ num2 freed
  | .destinationRead d x => destinationBytes d x
  | .allDestinations free dests =>
    num2 free ++ dests.flatMap fun x => enum destNames x.1 ++ optional num4 x.2.1 ++ num2 x.2.2
  | .started lanes => counted laneByte lanes
  | .paused pause hold => markByte pause.isSome ++ optional (enum pauseCauses) pause ++ markByte hold
  | .resumed pause hold suspended => markByte pause.isSome ++ markByte hold ++ yesNo suspended
  | .stopped mode live notIdle => modeBytes mode ++ num1 live ++ num1 notIdle
  | .setting name value => settingBytes name value
  | .status x => statusBytes x
  | .events overrun records left =>
    markByte overrun ++ num1 records.length ++ records.flatMap eventRecord ++ num2 left
  | .faultRa ra => num4 ra
  | .faultGate g => num1 g
  | .faultGates g h => num1 g ++ num1 h
  | .faultPlan => num1 17

/-! ### The reply frame -/

/-- The status and the reason of a reply (section 10.6, reply head). -/
def headBytes : Status → List Byte
  | .done => [byte 0, byte 0]
  | .busy => [byte 1, byte 0]
  | .unknownRequest => [byte 2, byte 0]
  | .malformed => [byte 3, byte 0]
  | .refused reason => [byte 4, byte (codeIn refusalReasons reason + 1)]

/-- A host or reply frame (section 10.6). -/
def frame (tag kind : Nat) (body : List Byte) : List Byte :=
  byte 0xA5 :: withCrc (num2 body.length ++ num1 tag ++ num1 kind ++ body)

/-- The frame of a reply (R187). -/
def replyFrame (r : Reply) : List Byte := frame r.tag r.kind (headBytes r.status ++ dataBytes r.data)

/-! ### The sweep frame (R75) -/

def verdictBytes : Verdict → List Byte
  | .none => [byte 0, byte 0]
  | .accept ticket => byte 1 :: num1 ticket
  | .refuse reason => byte 2 :: enum entryRefusals reason

/-- The lane state, plus 8 when the line is suspended. -/
def lampByte (x : Lamp) : List Byte := num1 (codeIn laneStates x.state + if x.suspended then 8 else 0)

def lanePart (v : Verdict) (x : Lamp) : List Byte := verdictBytes v ++ lampByte x

/-- The frame of a sweep with its number (section 10.6). -/
def sweepFrame (number : Nat) (w : Sweep) : List Byte :=
  byte 0x5A :: withCrc (num1 number ++ num1 w.addresses.length ++ w.addresses.flatMap num1 ++
    lanePart w.verdicts.l1 w.lamps.l1 ++ lanePart w.verdicts.l2 w.lamps.l2 ++ lanePart w.verdicts.l3 w.lamps.l3 ++
    lanePart w.verdicts.l4 w.lamps.l4)

/-- The frame of the sweep that is open, while it is being sent. -/
def StationBus.frameSending (b : StationBus) : Option (List Byte) :=
  match b.sweep with
  | none => none
  | some w =>
    match w.phase with
    | .sendingFrame => some (sweepFrame b.number w)
    | .turn _ => none
    | .turnsOver => none

def Sending.reply : Sending → Reply
  | .service r => r
  | .busy r => r

/-- The frame of the reply the transmitter is sending. -/
def Port.frameSending (p : Port) : Option (List Byte) := p.sending.map fun x => replyFrame x.reply

end Sys2Proof.Machine
end

