-- ==== Sys2Proof/Machine/Frames.lean ====
section
/-! DEFINITION. What the part accepts on its two links, byte by byte: the receiver's hunt (R184), the request a received
frame's kind and body stand for (R185, R196), and the report an answer frame stands for (R76, R77, section 10.6). These give
the operands of the commands of `Instr`. -/

namespace Sys2Proof.Machine

/-! ### Reading fields (R196) -/

/-- A reader of one field: the value, and the bytes that are left; none where the structure does not fit. -/
abbrev Reader (α : Type) := List Byte → Option (α × List Byte)

def Reader.give {α : Type} (a : α) : Reader α := fun l => some (a, l)

def Reader.fails {α : Type} : Reader α := fun _ => none

def Reader.andThen {α β : Type} (r : Reader α) (f : α → Reader β) : Reader β := fun l =>
  match r l with
  | none => none
  | some (a, rest) => f a rest

/-- A number in `k` bytes, most significant byte first. -/
def readNumber : Nat → Nat → Reader Nat
  | 0, acc => Reader.give acc
  | k + 1, acc => fun l =>
    match l with
    | [] => none
    | b :: rest => readNumber k (acc * 256 + b.toNat) rest

def read1 : Reader Nat := readNumber 1 0
def read2 : Reader Nat := readNumber 2 0
def read4 : Reader Nat := readNumber 4 0

/-- An optional field: a presence byte other than 0 or 1 is malformed (R185). -/
def readOptional {α : Type} (r : Reader α) : Reader (Option α) :=
  read1.andThen fun p =>
    if p = 0 then Reader.give none else if p = 1 then r.andThen fun a => Reader.give (some a) else Reader.fails

def readMany {α : Type} (r : Reader α) : Nat → Reader (List α)
  | 0 => Reader.give []
  | n + 1 => r.andThen fun a => (readMany r n).andThen fun rest => Reader.give (a :: rest)

/-- A list: a count byte, then its entries. -/
def readList {α : Type} (r : Reader α) : Reader (List α) := read1.andThen fun n => readMany r n

/-- An enumeration byte: a value of the list, or a code beyond it (R185). -/
def readCoded {α : Type} (values : List α) : Reader (Coded α) :=
  read1.andThen fun c =>
    match values[c]? with
    | some a => Reader.give (.known a)
    | none => Reader.give (.beyond c)

def readPair {α β : Type} (r : Reader α) (q : Reader β) : Reader (α × β) :=
  r.andThen fun a => q.andThen fun b => Reader.give (a, b)

def readTagCode : Reader TagCode :=
  (readNumber 3 0).andThen fun sku => (readNumber 5 0).andThen fun serial => Reader.give ⟨sku, serial⟩

/-! ### Request bodies -/

def readLine : Reader LineLoad :=
  read4.andThen fun sku => read1.andThen fun category => read1.andThen fun quantity => read1.andThen fun pieces =>
    read2.andThen fun refWeight => (readList readTagCode).andThen fun tags =>
      Reader.give ⟨sku, category, quantity, pieces, refWeight, tags⟩

def readLoad : Reader ReturnLoad :=
  read4.andThen fun ra => read4.andThen fun account => read1.andThen fun label => read1.andThen fun reason =>
    (readList readLine).andThen fun lines => Reader.give ⟨ra, account, label, reason, lines⟩

/-- A fail action: PENALTY is followed by its amount (R93). -/
def readAction : Reader (Coded FailAction) :=
  read1.andThen fun c =>
    if c = 0 then read1.andThen fun n => Reader.give (.known (.penalty n))
    else if c = 1 then Reader.give (.known .capB)
    else if c = 2 then Reader.give (.known .capC)
    else if c = 3 then Reader.give (.known .capD)
    else if c = 4 then Reader.give (.known .quarantine)
    else Reader.give (.beyond c)

def readCheck : Reader CheckFields :=
  (readCoded checkSources).andThen fun source => (readCoded scopes).andThen fun scope =>
    (readCoded testKinds).andThen fun test => read2.andThen fun lower => read2.andThen fun upper =>
      readAction.andThen fun action => (readCoded missingPolicies).andThen fun missing =>
        Reader.give ⟨source, scope, test, lower, upper, action, missing⟩

/-- The marks, coded in the order "set or clear". -/
def marks : List Mark := [.set, .clear]

/-- A setting name, coded in the order of R178, with its index. A code beyond the list has no index byte, so a READ SETTING
that sends one is MALFORMED, while a CONFIGURE takes any rest of its body (the model's choice, log entry 9). -/
def readName : Reader SettingName :=
  read1.andThen fun c =>
    match c with
    | 0 => Reader.give .manifestWait
    | 1 => Reader.give .decisionWait
    | 2 => Reader.give .sweepPeriod
    | 3 => Reader.give .downThreshold
    | 4 => Reader.give .lapLimit
    | 5 => read1.andThen fun g => Reader.give (.gatePosition g)
    | 6 => read1.andThen fun d => Reader.give (.chainMode d)
    | 7 => read1.andThen fun k => Reader.give (.eventEnable k)
    | c => Reader.give (.beyond c)

/-- The rest of the body, whatever it holds. -/
def readRest : Reader Unit := fun _ => some ((), [])

/-- The value of a setting (R178); a name that is no setting fixes no value, and is refused before one is looked at. -/
def readValue : SettingName → Reader SettingValue
  | .manifestWait => read2.andThen fun n => Reader.give (.num n)
  | .decisionWait => read1.andThen fun n => Reader.give (.num n)
  | .sweepPeriod => read1.andThen fun n => Reader.give (.num n)
  | .downThreshold => read1.andThen fun n => Reader.give (.num n)
  | .lapLimit => read1.andThen fun n => Reader.give (.num n)
  | .gatePosition _ => (readOptional read1).andThen fun p => Reader.give ((p.map SettingValue.num).getD .unset)
  | .chainMode _ => (readCoded chainModes).andThen fun m => Reader.give (.mode m)
  | .eventEnable _ => (readCoded onOffs).andThen fun v => Reader.give (.enable v)
  | .beyond _ => readRest.andThen fun _ => Reader.give .unset

/-- The reader of a request kind's body, with the request it makes (R196); none for a kind that names no request. That AMEND
RETURN's line index and new quantity, one amendment of R35, share one presence byte is the model's choice (log entry 9). -/
def bodyReader (tag kind : Nat) : Option (Reader Instr) :=
  match kind with
  | 16 => some (read2.andThen fun n => Reader.give (.readItem tag n))
  | 17 => some (read2.andThen fun n => Reader.give (.withdrawItem tag n))
  | 18 => some (read2.andThen fun n => (readCoded grades).andThen fun g => Reader.give (.forceGrade tag n g))
  | 32 => some (readLoad.andThen fun r => Reader.give (.loadReturn tag r))
  | 33 => some (read4.andThen fun ra => read1.andThen fun line => (readList readTagCode).andThen fun codes =>
      Reader.give (.addTags tag ra line codes))
  | 34 => some (read4.andThen fun ra => (readOptional read1).andThen fun label => (readOptional read1).andThen fun reason =>
      (readOptional (readPair read1 read1)).andThen fun quantity =>
        Reader.give (.amendReturn tag ra label reason quantity))
  | 35 => some (read4.andThen fun ra => Reader.give (.removeReturn tag ra))
  | 36 => some (read4.andThen fun ra => (readOptional read1).andThen fun line => Reader.give (.readReturn tag ra line))
  | 48 => some (read1.andThen fun lane => read4.andThen fun account => (readList (readPair read4 read1)).andThen fun pairs =>
      Reader.give (.openParcel tag lane account pairs))
  | 49 => some (read1.andThen fun lane => Reader.give (.closeParcel tag lane))
  | 50 => some (read1.andThen fun lane => Reader.give (.abortLane tag lane))
  | 64 => some (read1.andThen fun lane => (readCoded roles).andThen fun role => read1.andThen fun address =>
      Reader.give (.enrolStation tag lane role address))
  | 65 => some (read1.andThen fun lane => (readCoded roles).andThen fun role => Reader.give (.retireStation tag lane role))
  | 66 => some (read1.andThen fun lane => (readCoded roles).andThen fun role => Reader.give (.readStation tag lane role))
  | 80 => some (read1.andThen fun number => readCheck.andThen fun fields => Reader.give (.writeCheck tag number fields))
  | 81 => some (read1.andThen fun number => (readList read1).andThen fun entries =>
      Reader.give (.writeList tag number entries))
  | 82 => some (read1.andThen fun category => read1.andThen fun list => read1.andThen fun group =>
      read2.andThen fun nominal => read1.andThen fun pieces =>
        Reader.give (.writeProgram tag category list group nominal pieces))
  | 83 => some (read2.andThen fun t1 => read2.andThen fun t2 => read2.andThen fun t3 =>
      Reader.give (.writeThresholds tag t1 t2 t3))
  | 84 => some ((readList (readPair read1 read1)).andThen fun cells => Reader.give (.writeMap tag cells))
  | 85 => some (Reader.give (.clearBank tag))
  | 86 => some (Reader.give (.validatePlan tag))
  | 87 => some (Reader.give (.switchPlan tag))
  | 88 => some ((readCoded onOffs).andThen fun v => Reader.give (.setShadow tag v))
  | 128 => some (read1.andThen fun dest => read4.andThen fun tote => read1.andThen fun capacity =>
      read2.andThen fun weightLimit => read1.andThen fun warnAt => (readCoded marks).andThen fun pause =>
        (readCoded marks).andThen fun lotEnd =>
          Reader.give (.addTote tag dest tote capacity weightLimit warnAt pause lotEnd))
  | 129 => some (read1.andThen fun dest => Reader.give (.confirmSwap tag dest))
  | 130 => some (read1.andThen fun dest => (readOptional read4).andThen fun limit => Reader.give (.setLimit tag dest limit))
  | 131 => some (read1.andThen fun dest => read4.andThen fun tote => Reader.give (.closeTote tag dest tote))
  | 132 => some (read1.andThen fun dest => Reader.give (.dropChain tag dest))
  | 133 => some (read1.andThen fun dest => Reader.give (.readDestination tag dest))
  | 144 => some (Reader.give (.startLine tag))
  | 145 => some (Reader.give (.pauseLine tag))
  | 146 => some (Reader.give (.resumeLine tag))
  | 147 => some ((readCoded stopKinds).andThen fun k => Reader.give (.stopLine tag k))
  | 148 => some (readName.andThen fun name => (readValue name).andThen fun value =>
      Reader.give (.configure tag name value))
  | 149 => some (readName.andThen fun name => Reader.give (.readSetting tag name))
  | 150 => some (Reader.give (.readStatus tag))
  | 151 => some (Reader.give (.warmReset tag))
  | 160 => some (read1.andThen fun count => Reader.give (.fetchEvents tag count))
  | _ => none

/-- The kind names a request of the part (R185, R196). -/
def kindKnown (kind : Nat) : Bool := (bodyReader 0 kind).isSome

/-- The command a received frame stands for (R185): a kind that names no request is UNKNOWN REQUEST, a body that its request's
structure does not use up exactly is MALFORMED. -/
def requestOf (tag kind : Nat) (body : List Byte) : Instr :=
  match bodyReader tag kind with
  | none => .unknownRequest tag kind
  | some r =>
    match r body with
    | some (c, []) => c
    | some (_, _ :: _) => .malformedRequest tag kind
    | none => .malformedRequest tag kind

/-! ### The receiver (R184) -/

/-- What the bytes held from a start byte on amount to. -/
inductive Held where
  /-- more bytes are needed -/
  | incomplete
  /-- a body length above 1024, or a bad check: the frame is discarded -/
  | discarded
  /-- a frame with its tag, kind and body, and the bytes after it -/
  | received (tag kind : Nat) (body rest : List Byte)
  deriving DecidableEq, Repr

/-- Judge the bytes from a start byte on (R184). -/
def judge (held : List Byte) : Held :=
  match held with
  | _ :: l1 :: l0 :: more =>
    let n := l1.toNat * 256 + l0.toNat
    if 1024 < n then .discarded
    else if more.length < n + 4 then .incomplete
    else
      match more with
      | tag :: kind :: after =>
        if num2 (crc16 (l1 :: l0 :: tag :: kind :: after.take n)).toNat = (after.drop n).take 2 then
          .received tag.toNat kind.toNat (after.take n) (after.drop (n + 2))
        else .discarded
      | _ => .incomplete
  | _ => .incomplete

/-- The commands that a run of received bytes stands for, in order, with the bytes of the part-received frame that is left
(R184): each received frame is its request, each discarded one a FRAME DISCARDED, and hunting resumes as R184 states. -/
def commandsOf : Nat → List Byte → List Instr × List Byte
  | 0, bytes => ([], bytes)
  | fuel + 1, bytes =>
    match bytes.dropWhile fun b => b ≠ startByte with
    | [] => ([], [])
    | b :: rest =>
      match judge (b :: rest) with
      | .incomplete => ([], b :: rest)
      | .discarded =>
        let more := commandsOf fuel (rehunt (b :: rest))
        (.frameDiscarded (b :: rest) :: more.1, more.2)
      | .received tag kind body after =>
        let more := commandsOf fuel after
        (requestOf tag kind body :: more.1, more.2)

/-! ### Answer frames (R76, R77, section 10.6) -/

/-- The codes and check results of a TAG READING. -/
def readCodes : Reader (List (TagCode × Coded CheckResult)) := readList (readPair readTagCode (readCoded [.good, .bad]))

def readPiece : Reader PieceScores :=
  read1.andThen fun stain => read1.andThen fun tear => read1.andThen fun wear => read1.andThen fun crease =>
    read1.andThen fun swingTag => read1.andThen fun colour => Reader.give ⟨stain, tear, wear, crease, swingTag, colour⟩

/-- The reader of an answer's data by its report kind; none for a code beyond the list. -/
def answerReader (a : AnswerHead) (kind : Nat) : Option (Reader Instr) :=
  match kind with
  | 0 => some (Reader.give (.nothing a))
  | 1 => some (Reader.give (.presented a))
  | 2 => some (Reader.give (.parcelDone a))
  | 3 => some (readCodes.andThen fun codes => Reader.give (.tagReading a codes))
  | 4 => some (read2.andThen fun grams => Reader.give (.weight a grams))
  | 5 => some ((readList readPiece).andThen fun pieces => Reader.give (.vision a pieces))
  | 6 => some (Reader.give (.atEnd a))
  | _ => none

/-- The command an answer stands for, from its bytes: one whose check or data length fails is garbled (R76, section 10.6). That
bytes whose first is not the start byte 3Ch, or too few for a head, are a garbled answer and not none is the model's choice (log
entry 6). -/
def answerOf (bytes : List Byte) : Instr :=
  match bytes with
  | start :: address :: echo :: kind :: ticket :: m :: more =>
    if start ≠ byte 0x3C ∨ more.length ≠ m.toNat + 2 then .garbledAnswer
    else if num2 (crc16 (address :: echo :: kind :: ticket :: m :: more.take m.toNat)).toNat ≠ more.drop m.toNat then
      .garbledAnswer
    else
      match answerReader ⟨address.toNat, echo.toNat, ticket.toNat⟩ kind.toNat with
      | none => .garbledAnswer
      | some r =>
        match r (more.take m.toNat) with
        | some (c, []) => c
        | some (_, _ :: _) => .garbledAnswer
        | none => .garbledAnswer
  | _ => .garbledAnswer

end Sys2Proof.Machine
end

