-- ==== Sys2Proof/Safety.lean ====
section
/-! DEFINITION. What the spec says always holds of the block, as laws of a state; and how a reply that is formed leaves the
Message Port. The statements of Sys2Proof/Certificates are made of them. -/

namespace Sys2Proof.Machine

/-! ### Replies -/

/-- The Message Port after a request it took into service was answered with `r` (R185, R186): the reply is sent at once when
the transmitter is free, and waits for it otherwise. -/
def Port.answered (p : Port) (r : Reply) : Port :=
  match p.sending with
  | none => { p with receiving := [], service := some ⟨r.tag, r.kind, .sending⟩, sending := some (.service r) }
  | some _ => { p with receiving := [], service := some ⟨r.tag, r.kind, .waiting r⟩ }

/-- The state with the port's answer to a request that is taken, in the state the request's act leaves. -/
def State.answered (s : State) (tag kind : Nat) (data : ReplyData) : State :=
  { s with port := s.port.answered ⟨tag, kind, .done, data⟩ }

/-- The state with the port's answer to a request that is refused. -/
def State.answeredRefused (s : State) (tag kind : Nat) (reason : RefusalReason) (data : ReplyData) : State :=
  { s with port := s.port.answered ⟨tag, kind, .refused reason, data⟩ }

/-- No request is in service, so that a received request is taken into service (R185, R186). -/
def State.serving (s : State) : Bool := s.port.service.isSome

/-- The request a command is: its tag, its kind, and the act of its owning block (R185, R196). -/
def requestAct : Instr → Option (Nat × Nat × (State → Answer))
  | .warmReset tag => some (tag, 151, fun s => s.done .headOnly)
  | .readItem tag item => some (tag, 16, readItem item)
  | .withdrawItem tag item => some (tag, 17, withdrawItem item)
  | .forceGrade tag item grade => some (tag, 18, forceGrade item grade)
  | .loadReturn tag load => some (tag, 32, loadReturn load)
  | .addTags tag ra line codes => some (tag, 33, addTags ra line codes)
  | .amendReturn tag ra label reason quantity => some (tag, 34, amendReturn ra label reason quantity)
  | .removeReturn tag ra => some (tag, 35, removeReturn ra)
  | .readReturn tag ra line => some (tag, 36, readReturn ra line)
  | .openParcel tag lane account pairs => some (tag, 48, openParcel lane account pairs)
  | .closeParcel tag lane => some (tag, 49, closeParcel lane)
  | .abortLane tag lane => some (tag, 50, abortLane lane)
  | .enrolStation tag lane role address => some (tag, 64, enrolStation lane role address)
  | .retireStation tag lane role => some (tag, 65, retireStation lane role)
  | .readStation tag lane role => some (tag, 66, readStation lane role)
  | .writeCheck tag number fields => some (tag, 80, writeCheck number fields)
  | .writeList tag number entries => some (tag, 81, writeList number entries)
  | .writeProgram tag category list group nominal pieces =>
    some (tag, 82, writeProgram category list group nominal pieces)
  | .writeThresholds tag t1 t2 t3 => some (tag, 83, writeThresholds t1 t2 t3)
  | .writeMap tag cells => some (tag, 84, writeMap cells)
  | .clearBank tag => some (tag, 85, clearBank)
  | .validatePlan tag => some (tag, 86, validatePlan)
  | .switchPlan tag => some (tag, 87, switchPlan)
  | .setShadow tag value => some (tag, 88, setShadow value)
  | .addTote tag dest tote capacity weightLimit warnAt pause lotEnd =>
    some (tag, 128, addTote dest tote capacity weightLimit warnAt pause lotEnd)
  | .confirmSwap tag dest => some (tag, 129, confirmSwap dest)
  | .setLimit tag dest limit => some (tag, 130, setLimit dest limit)
  | .closeTote tag dest tote => some (tag, 131, closeTote dest tote)
  | .dropChain tag dest => some (tag, 132, dropChain dest)
  | .readDestination tag dest => some (tag, 133, readDestination dest)
  | .startLine tag => some (tag, 144, startLine)
  | .pauseLine tag => some (tag, 145, pauseLine)
  | .resumeLine tag => some (tag, 146, resumeLine)
  | .stopLine tag kind => some (tag, 147, stopLine kind)
  | .configure tag name value => some (tag, 148, configure name value)
  | .readSetting tag name => some (tag, 149, readSetting name)
  | .readStatus tag => some (tag, 150, readStatus)
  | .fetchEvents tag count => some (tag, 160, fetchEvents count)
  | .unknownRequest tag kind => some (tag, kind, fun s => ⟨s, .unknownRequest, .headOnly⟩)
  | .malformedRequest tag kind => some (tag, kind, fun s => ⟨s, .malformed, .headOnly⟩)
  | _ => none

/-- The answer head is valid in the turn of slot `x`, whose outcome is still to be settled (R76). -/
def State.turnFor (s : State) (x : SlotId) (a : AnswerHead) : Bool :=
  decide (s.currentTurn = some x) && (s.slot x).outcome.isSome && decide ((s.slot x).address = some a.address) &&
    decide (a.echo = s.bus.number)

/-- The Station Bus after a valid answer from slot `x`: the next turn begins, the outcome is VALID, and the slot's last valid
answer is the line clock (R76). -/
def State.heard (s : State) (x : SlotId) : State := s.endTurn.noteValid x

/-- The command is an answer frame with the head `a` (section 10.6). -/
def answersWith (a : AnswerHead) : Instr → Prop
  | .nothing b => b = a
  | .presented b => b = a
  | .parcelDone b => b = a
  | .tagReading b _ => b = a
  | .weight b _ => b = a
  | .vision b _ => b = a
  | .atEnd b => b = a
  | _ => False

/-- The command is a measurement with the head `a`, of the kind that slots of the role send, with its data in the ranges of
R77. -/
def reportsMeasurement (a : AnswerHead) (role : Role) (kind : ReportKind) : Instr → Prop
  | .tagReading b codes => b = a ∧ role = .tag ∧ kind = .tagReading ∧ codes.length ≤ 4 ∧ ∀ e ∈ codes, ∃ r, e.2 = .known r
  | .weight b grams => b = a ∧ role = .scale ∧ kind = .weight ∧ grams ≤ 30000
  | .vision b pieces => b = a ∧ role = .vision ∧ kind = .vision ∧ 1 ≤ pieces.length ∧ pieces.length ≤ 8 ∧
      ∀ p ∈ pieces, p.stain ≤ 100 ∧ p.tear ≤ 100 ∧ p.wear ≤ 100 ∧ p.crease ≤ 100 ∧ p.swingTag ≤ 1 ∧ p.colour ≤ 100
  | _ => False

/-- The record with a measurement written in: its value, and TAKEN for its role (R84 to R86). -/
def Item.measuredBy (it : Item) : Instr → Item
  | .tagReading _ [] => { it with tagState := .noTag, tagStatus := .taken }
  | .tagReading _ [(c, .known .good)] => { it with tagState := .read c, tagStatus := .taken }
  | .tagReading _ [_] => { it with tagState := .corrupt, tagStatus := .taken }
  | .tagReading _ _ => { it with tagState := .conflict, tagStatus := .taken }
  | .weight _ grams => { it with weight := some grams, scaleStatus := .taken }
  | .vision _ pieces => { it with pieces := pieces, visionStatus := .taken }
  | _ => it

/-- The events already stored stay as they are, in their order (R188, R190). -/
def State.eventsGrow (s t : State) : Prop := ∃ more, t.queue.events = s.queue.events ++ more

/-! ### Acts that several commands share, as relations between the state before and the state after -/

/-- What settlement makes of a bound RA: a placeholder is freed, any other record is COMPLETE or SHORT and closed (R65). -/
def Ra.closing (r : Ra) : Option Ra :=
  if r.state = .expected ∨ r.state = .overdue then none
  else some { r with
    state := if r.lines.all (fun l => decide (l.received = l.quantity)) then .complete else .short
    closed := true, boundLane := none, mismatch := false }

/-- What PARCEL CLOSED reports of a bound RA (R65). -/
def Ra.closingReport (r : Ra) : RaOutcome × Nat :=
  if r.state = .expected ∨ r.state = .overdue then (.noManifest, 0)
  else (if r.lines.all (fun l => decide (l.received = l.quantity)) then .complete else .short, r.matched)

/-- The line ends its stop exactly when it is DRAINING and the act leaves every lane IDLE and no item live (R177). -/
def State.stopEnds (s t : State) : Prop :=
  (s.line.mode.isDraining = true → t.live = 0 → (∀ l, (t.lanes.at l).state = .idle) →
      t.line = { s.line with mode := .setup }) ∧
    (¬ (s.line.mode.isDraining = true ∧ t.live = 0 ∧ ∀ l, (t.lanes.at l).state = .idle) → t.line = s.line)

/-- Item `n`, whose record is `it`, is retired with a final event (R13): its record leaves the table, its number leaves its
lane's queue and the carrier table, a decision-wait timer that is its own stops, the event is the next one stored, followed by
the events that a drop's tote has stored (`toteEvents`, none for any other retirement; R156), and its bank's count falls; a
DRAINING bank whose count reaches 0 becomes STANDBY with VALID and offers PLAN DRAINED with the ACTIVE bank, next after these
(R106). When the item was the last undecided one of a CLOSING lane's parcel, the parcel is settled (R64, R65). The line may end
its stop (R177). Nothing else changes but the totes and the gate outputs, of which this says nothing. -/
def State.retires (s t : State) (n : Nat) (it : Item) (final : EventBody) (toteEvents : List Event) : Prop :=
  t.item n = none ∧ (∀ m, m ≠ n → t.item m = s.item m) ∧ t.items.nextNumber = s.items.nextNumber ∧
    (∃ more, t.queue.events = s.queue.events ++ ⟨s.line.clock, n, final⟩ :: (toteEvents ++ more) ∧
      ∀ a, s.activeBank = some a → (s.plan.banks.at it.bank).state = .draining → (s.plan.banks.at it.bank).bound ≤ 1 →
        s.enabled .planDrained = true → s.used + s.live + toteEvents.length < 256 →
        ∃ rest, more = ⟨s.line.clock, 0, .planDrained it.bank a⟩ :: rest) ∧
    (t.lanes.at it.lane).queue = (s.lanes.at it.lane).queue.filter (fun m => decide (m ≠ n)) ∧
    (t.lanes.at it.lane).timer = (s.lanes.at it.lane).timer.filter (fun w => decide (w.item ≠ n)) ∧
    (∀ l, l ≠ it.lane → t.lanes.at l = s.lanes.at l) ∧
    ((it.decided = true ∨ (s.lanes.at it.lane).state ≠ .closing ∨
        ∃ e ∈ s.items.records.entries, e.1 ≠ n ∧ s.undecidedOf it.lane e.2 = true) →
      t.returns = s.returns ∧ t.lanes.at it.lane = (s.lanes.at it.lane).dropItem n) ∧
    (it.decided = false → (s.lanes.at it.lane).state = .closing →
      (∀ e ∈ s.items.records.entries, e.1 ≠ n → s.undecidedOf it.lane e.2 = false) →
      (∀ m ∈ (s.lanes.at it.lane).boundRas, t.ra m = (s.ra m).bind Ra.closing) ∧
      (∀ m, m ∉ (s.lanes.at it.lane).boundRas → t.ra m = s.ra m) ∧
      t.lanes.at it.lane = { (s.lanes.at it.lane).dropItem n with
        boundRas := [], account := none, closeCause := none, state := .idle } ∧
      ∀ cause, (s.lanes.at it.lane).closeCause = some cause → s.enabled .parcelClosed = true →
        s.used + s.live + toteEvents.length ≤ 254 →
        ∃ more, t.queue.events = s.queue.events ++ ⟨s.line.clock, n, final⟩ :: (toteEvents ++ more) ∧
          ⟨s.line.clock, 0, .parcelClosed it.lane (s.lanes.at it.lane).parcelCounter (s.lanes.at it.lane).account
            (match cause with | .host => .host | .key => .key) 0
            ((s.lanes.at it.lane).boundRas.filterMap fun m => (s.ra m).map fun r => (m, r.closingReport))⟩ ∈ more) ∧
    t.sorter.carriers.entries = s.sorter.carriers.entries.filter (fun e => decide (e.2 ≠ n)) ∧
    t.plan.banks.at it.bank =
      (if (s.plan.banks.at it.bank).state = .draining ∧ (s.plan.banks.at it.bank).bound ≤ 1 then
        { s.plan.banks.at it.bank with bound := 0, state := .standby, valid := true }
      else { s.plan.banks.at it.bank with bound := (s.plan.banks.at it.bank).bound - 1 }) ∧
    (∀ b, b ≠ it.bank → t.plan.banks.at b = s.plan.banks.at b) ∧ t.plan.shadow = s.plan.shadow ∧ t.bus = s.bus ∧
    s.stopEnds t

/-- A decision of the Grading Engine about item `n`, whose record was `it`, that makes the record `d` with the given recorded
failures (R117): the match counts, the record is written, the item's decision-wait timer stops, ITEM GRADED is offered from the
record and CHECK FAILED for each failure in order (R130, R131), and the lane makes its settlement test (R64). -/
def State.decidedAs (s : State) (n : Nat) (it d : Item) (failures : List Failure) : State :=
  let s := (s.countFound it (s.searchFor it)).modItem n fun _ => d
  let s := s.modLane it.lane fun x => { x with timer := x.timer.filter fun w => decide (w.item ≠ n) }
  let s := s.offer n (.itemGraded
    { ra := (d.matched.map fun x => x.1).getD 0, lane := it.lane, ticket := it.ticket, parcel := it.parcel, bank := it.bank,
      result := d.result, line := d.matched.map fun x => x.2, category := d.category, penalty := d.penalty, cap := d.cap,
      quarantine := d.quarantine, failed := d.failed, grade := d.grade, shadow := d.shadow, route := d.route,
      state := d.state, forced := d.forced })
  let s := failures.foldl (fun u f => u.offer n (.checkFailed
    { bank := it.bank, check := f.check, place := f.place, piece := f.piece, cause := f.cause, value := f.value,
      action := f.action })) s
  s.settlementTest it.lane

/-- The lane's parcel is settled (R65): its RAs are closed, PARCEL CLOSED is offered, the lane is IDLE; nothing else changes,
but that the line may end its stop (R177). -/
def State.settles (s t : State) (l : LaneId) (cause : EndCause) (retired : Nat) : Prop :=
  (∀ n ∈ (s.lanes.at l).boundRas, t.ra n = (s.ra n).bind Ra.closing) ∧
    (∀ n, n ∉ (s.lanes.at l).boundRas → t.ra n = s.ra n) ∧
    t.lanes.at l = { s.lanes.at l with boundRas := [], account := none, closeCause := none, state := .idle } ∧
    (∀ m, m ≠ l → t.lanes.at m = s.lanes.at m) ∧
    (s.enabled .parcelClosed = true → s.roomForEvent = true →
      ∃ more, t.queue.events = s.queue.events ++ ⟨s.line.clock, 0, .parcelClosed l (s.lanes.at l).parcelCounter
        (s.lanes.at l).account cause retired ((s.lanes.at l).boundRas.filterMap fun n =>
          (s.ra n).map fun r => (n, r.closingReport))⟩ :: more) ∧
    t.items = s.items ∧ t.bus = s.bus ∧ t.plan = s.plan ∧ t.sorter = s.sorter ∧ t.totes = s.totes ∧ s.stopEnds t

/-- The ranges of R31, test 1 (a SKU above 24 bits is out of the range of R25; log entry 8). -/
def loadAdmissible (r : ReturnLoad) : Prop :=
  r.ra ≠ 0 ∧ 1 ≤ r.lines.length ∧ r.lines.length ≤ 16 ∧ r.reason ≤ 15 ∧ ∀ l ∈ r.lines,
    l.sku ≤ 16777215 ∧ l.category ≤ 30 ∧ 1 ≤ l.quantity ∧ l.quantity ≤ 15 ∧ 1 ≤ l.pieces ∧ l.pieces ≤ 8 ∧
      l.refWeight ≤ 30000 ∧ l.tags.length ≤ l.quantity ∧ ∀ c ∈ l.tags, c.sku = l.sku

/-! ### The faults of a plan bank (R104, R94) -/

/-- The category has its program, and the program its list. -/
def Bank.programOk (b : Bank) (category : Nat) : Prop :=
  ∃ p, b.programs.lookup category = some p ∧ b.lists.has p.list = true

/-- Every check the list names is defined. -/
def Bank.listOk (b : Bank) (list : List Nat) : Prop := ∀ c ∈ list, b.checks.has c = true

/-- A PIECE scope stands on one of the six vision sources only. -/
def scopeOk (c : Check) : Prop :=
  c.scope = .piece → c.source ∈ [Source.stain, .tear, .wear, .crease, .swingTag, .colour]

/-- The thresholds are defined and ascend. -/
def Bank.levelsOk (b : Bank) : Prop := ∃ t, b.thresholds = some t ∧ t.t1 ≤ t.t2 ∧ t.t2 ≤ t.t3

/-- The first test of R104 finds no fault. -/
def Bank.programsOk (b : Bank) : Prop := ∀ c, c < 32 → b.programOk c

/-- The second test of R104 finds no fault. -/
def Bank.listsOk (b : Bank) : Prop := ∀ e ∈ b.lists.entries, b.listOk e.2

/-- The third test of R104 finds no fault. -/
def Bank.scopesOk (b : Bank) : Prop := ∀ e ∈ b.checks.entries, scopeOk e.2

/-! ### The ring and the totes -/

/-- The tracker after a pitch edge alone (R134, R143, R145). -/
def Sorter.pitched (x : Sorter) : Sorter :=
  { x with
    xfer := Quad.all false
    gates := []
    origin := if x.origin < 95 then x.origin + 1 else 0
    revolution := if x.aligned = true ∧ x.origin = 95 then (if x.revolution = 0 then 1 else 0) else x.revolution }

/-- The item that a pitch brings to the gate at position `p`, with its number. -/
def State.broughtTo (s : State) (p n : Nat) (it : Item) : Prop :=
  s.sorter.carriers.lookup ((p + 96 - s.sorter.pitched.origin) % 96) = some n ∧ s.item n = some it

/-- The completed tote stalls its destination (R154, R159). -/
def Destination.stalls (x : Destination) (t : Tote) : Prop :=
  (x.mode = .flag ∧ t.pause = true) ∨ (x.mode = .limit ∧ x.limit = some t.id)

/-- The lot with one more completed tote (R158). -/
def Destination.lotWith (x : Destination) (t : Tote) : Lot :=
  match x.lot with
  | none => { first := t.id, totes := 1, items := min 4294967295 t.count }
  | some y => { first := y.first, totes := min 65535 (y.totes + 1), items := min 4294967295 (y.items + t.count) }

/-- The destination after its tote `t` completed (R157 to R159). -/
def Destination.Completed (x : Destination) (t : Tote) (y : Destination) : Prop :=
  y.mode = x.mode ∧ y.limit = x.limit ∧ y.lot = (if t.lotEnd = true then none else some (x.lotWith t)) ∧
    (x.stalls t → y.state = .stalled x.mode t.id ∧ y.queued = x.queued) ∧
    (¬ x.stalls t → ∀ q rest, x.queued = q :: rest → y.state = .active q ∧ y.queued = rest) ∧
    (¬ x.stalls t → x.queued = [] → y.state = .starved ∧ y.queued = [])

/-- The events of the completion of tote `t`, in the order of R157: the item number stands in TOTE COMPLETE only. The
destination is `x` before and `y` after. -/
def Destination.completionEvents (x y : Destination) (d : Nat) (t : Tote) (reason : CompletionReason) (item clock : Nat) :
    List Event :=
  [⟨clock, item, .toteComplete t.id d t.count t.weight reason t.firstDrop⟩] ++
    (if t.lotEnd = true then
      [⟨clock, 0, .lotComplete d (x.lotWith t).first t.id (x.lotWith t).totes (x.lotWith t).items⟩] else []) ++
    (match y.state with
      | .active _ => []
      | .stalled cause tote => [⟨clock, 0, .destinationStalled d cause tote y.queued.length⟩]
      | .starved => [⟨clock, 0, .destinationStarved d⟩]) ++
    (match y.state, y.lot with
      | .active _, _ => []
      | _, some lot => [⟨clock, 0, .lotOpenAtStop d lot.first lot.totes lot.items⟩]
      | _, none => [])

/-- Every tote request's DONE reply data on a destination (R160). -/
def Destination.report (x : Destination) : DestReport :=
  ⟨match x.state with
    | .starved => .starved
    | .active t => .active t.id
    | .stalled cause t => .stalled cause t, x.queued.length⟩

/-! ### Counters and scores -/

/-- The value `j` places after `start` of a counter that runs from `lo` to `hi` and wraps (R2, R3). -/
def counterAt (lo hi start : Nat) : Nat → Nat
  | 0 => start
  | j + 1 => if counterAt lo hi start j < hi then counterAt lo hi start j + 1 else lo

/-- The fault score after a sweep outcome (R79). -/
def Slot.newScore (slot : Slot) (o : SweepOutcome) : Nat :=
  if o = .valid then slot.score - 1 else if 247 < slot.score then 255 else slot.score + 8

/-! ### The Event Queue (R188) -/

/-- U plus P is at most 256 (R188). -/
def State.eventLaw (s : State) : Bool := decide (s.used + s.live ≤ Config.queueSize)

/-! ### Canonical tables -/

def Bank.canonical (b : Bank) : Bool := b.checks.wf && b.lists.wf && b.programs.wf && b.map.wf

/-- Every table is in its one canonical form, and the sixteen destinations are there (R151). -/
def State.canonical (s : State) : Bool :=
  s.items.records.wf && s.returns.records.wf && s.sorter.carriers.wf && s.line.gatePositions.wf && s.line.enables.wf &&
    s.plan.banks.b0.canonical && s.plan.banks.b1.canonical &&
    decide (s.totes.dests.entries.map (·.1) = List.range 16)

/-! ### Where the items are (R12, R57, R133) -/

/-- A SORTING item is on the carrier its record names, and any other item is in its lane's queue with no carrier. -/
def State.itemPlaced (s : State) (n : Nat) (it : Item) : Bool :=
  match it.state, it.carrier with
  | .sorting, some c => decide (s.sorter.carriers.lookup c = some n)
  | .sorting, none => false
  | _, none => (s.lanes.at it.lane).queue.contains n
  | _, some _ => false

/-- The queue holds live in-lane items of its own lane, each once. -/
def State.queuePlaced (s : State) (l : LaneId) : Bool :=
  !hasRepeat (s.lanes.at l).queue &&
    (s.lanes.at l).queue.all fun n =>
      match s.item n with
      | none => false
      | some it => decide (it.lane = l) && it.inLane

/-- An occupied carrier holds a SORTING item whose record names the carrier. -/
def State.carrierPlaced (s : State) (c n : Nat) : Bool :=
  match s.item n with
  | none => false
  | some it => decide (it.state = .sorting) && decide (it.carrier = some c)

/-- Every item is in one place, and every place holds an item that says so (R12, R57, R133). -/
def State.itemsPlaced (s : State) : Bool :=
  s.items.records.wf && s.sorter.carriers.wf && (s.items.records.entries.all fun e => s.itemPlaced e.1 e.2) &&
    allLanes.all s.queuePlaced && s.sorter.carriers.entries.all fun e => s.carrierPlaced e.1 e.2

/-! ### Return authorisations (R25 to R29) -/

/-- A line received no more than its quantity, and lists no more tags than it (R25, R26). -/
def Line.lawful (l : Line) : Bool := decide (l.received ≤ l.quantity) && decide (l.tags.length ≤ l.quantity)

/-- The timer is there in EXPECTED only, a placeholder has no lines, and a record is bound to a lane exactly in BOUND,
EXPECTED and OVERDUE (R27, R28, R29). -/
def Ra.lawful (r : Ra) : Bool :=
  decide (r.timer.isSome = decide (r.state = .expected)) && (!r.placeholder || r.lines.isEmpty) &&
    decide (r.boundLane.isSome = r.held) && r.lines.all Line.lawful

def State.returnsLawful (s : State) : Bool := s.returns.records.wf && s.returns.records.values.all Ra.lawful

/-- Every RA bound to a lane's parcel is there, is held and names that lane, and a lane binds it once (R27, R49). -/
def State.bindingsLawful (s : State) : Bool :=
  allLanes.all fun l => !hasRepeat (s.lanes.at l).boundRas &&
    (s.lanes.at l).boundRas.all fun n =>
      match s.ra n with
      | none => false
      | some r => r.held && decide (r.boundLane = some l)

/-! ### Lanes (R49, R57) -/

/-- What a lane holds in each of its states (R49), and the length of its queue (R57). -/
def Lane.lawful (x : Lane) : Bool :=
  decide (x.queue.length ≤ Config.laneQueue) && decide (x.parcelCounter ≤ 65535) && decide (x.nextTicket ≤ 255) &&
    decide (x.closeCause.isSome = decide (x.state = .closing)) &&
    decide (x.account.isSome = decide (x.state ≠ .idle)) &&
    (if x.state = .idle then x.boundRas.isEmpty
      else decide (1 ≤ x.boundRas.length) && decide (x.boundRas.length ≤ 4))

def State.lanesLawful (s : State) : Bool := s.lanes.toList.all Lane.lawful

/-! ### The roster (R70, R79) -/

/-- An address exactly while enrolled, of 1 to 62, and a score of at most the maximum score, which is at most 255. -/
def Slot.lawful (x : Slot) : Bool :=
  decide (x.address.isSome = x.enrolled) && (x.address.all fun a => decide (1 ≤ a) && decide (a ≤ 62)) &&
    decide (x.score ≤ x.maxScore) && decide (x.maxScore ≤ 255)

/-- Every slot is lawful, and no two slots hold one address (R70). -/
def State.rosterLawful (s : State) : Bool :=
  (allSlots.all fun x => (s.slot x).lawful) && !hasRepeat (allSlots.filterMap fun x => (s.slot x).address)

/-! ### Plan banks (R97, R98) -/

/-- The contents of a bank are all undefined (R92). -/
def Bank.undefined (b : Bank) : Bool :=
  decide (b.checks.size = 0) && decide (b.lists.size = 0) && decide (b.programs.size = 0) &&
    decide (b.thresholds = none) && decide (b.map.size = 0)

/-- What R97 says of one bank with `count` live items bound to it. -/
def Bank.lawful (b : Bank) (count : Nat) : Bool :=
  decide (b.bound = count) &&
    match b.state with
    | .empty => b.undefined && !b.valid && decide (b.bound = 0)
    | .standby => decide (b.bound = 0)
    | .active => b.valid
    | .draining => b.valid && decide (0 < b.bound)

def State.boundTo (s : State) (b : BankId) : Nat :=
  (s.items.records.values.filter fun it => decide (it.bank = b)).length

/-- At most one bank is ACTIVE, both banks are as R97 says, and a line that has left SETUP has an ACTIVE bank (R10, R98). -/
def State.planLawful (s : State) : Bool :=
  s.items.records.wf && !(decide (s.plan.banks.b0.state = .active) && decide (s.plan.banks.b1.state = .active)) &&
    s.plan.banks.b0.lawful (s.boundTo .b0) && s.plan.banks.b1.lawful (s.boundTo .b1) &&
    (s.line.mode.isSetup || s.activeBank.isSome)

/-! ### The sorter (R133, R134, R145) -/

/-- The ranges of the tracker's state: origin count, revolution count, carriers, gate outputs, and no passage counted before
the first index edge. -/
def Sorter.lawful (x : Sorter) : Bool :=
  decide (x.origin < Config.loopSize) && decide (x.revolution < 2) && (x.aligned || decide (x.revolution = 0)) &&
    (x.carriers.entries.all fun e => decide (e.1 < Config.loopSize)) && x.gates.all fun g => decide (g ≤ 16)

/-! ### Totes (R152, R153) -/

/-- A queued descriptor has taken no item (R159). -/
def Tote.fresh (t : Tote) : Bool := decide (t.count = 0) && decide (t.weight = 0) && decide (1 ≤ t.capacity)

/-- A current tote has room for one more item and keeps within its weight limit (R152). -/
def Tote.lawful (t : Tote) : Bool := decide (t.count < t.capacity) && decide (t.weight ≤ t.weightLimit)

/-- A destination's chain as R153 gives it: a STARVED one is empty. -/
def Destination.lawful (x : Destination) : Bool :=
  (match x.state with
    | .starved => x.queued.isEmpty
    | .active t => t.lawful
    | .stalled _ _ => true) && x.queued.all Tote.fresh

/-- Every destination is lawful, the pool holds at most 256 descriptors, and no two carry one tote ID (R152, R153). -/
def State.totesLawful (s : State) : Bool :=
  decide (s.totes.dests.entries.map (·.1) = List.range 16) && s.totes.dests.values.all Destination.lawful &&
    decide (s.allTotes.length ≤ Config.totePool) && !hasRepeat (s.allTotes.map Tote.id)

/-! ### The Line Controller (R172, R178, R181) -/

/-- The settings keep their ranges, the enables of the final kinds are ON, and the hold mark follows HOLD. -/
def LineControl.lawful (l : LineControl) : Bool :=
  decide (l.hold = l.holdPin) && decide (l.clock ≤ 4294967295) &&
    settingAdmits .manifestWait (.num l.manifestWait) && settingAdmits .decisionWait (.num l.decisionWait) &&
    settingAdmits .sweepPeriod (.num l.sweepPeriod) && settingAdmits .downThreshold (.num l.downThreshold) &&
    settingAdmits .lapLimit (.num l.lapLimit) &&
    (l.gatePositions.entries.all fun e => decide (e.1 ≤ 16) && decide (1 ≤ e.2) && decide (e.2 ≤ 95)) &&
    decide (l.enables.lookup 1 = some true) && decide (l.enables.lookup 2 = some true) &&
    decide (l.enables.lookup 3 = some true)

/-! ### The Message Port (R186) -/

/-- At most four BUSY replies wait, and only while another reply is being sent; what is being sent agrees with how far the
reply of the request in service has come. -/
def Port.lawful (p : Port) : Bool :=
  decide (p.waiting.length ≤ Config.maxBusy) &&
    match p.sending, p.service with
    | none, none => p.waiting.isEmpty
    | none, some ⟨_, _, .sent⟩ => p.waiting.isEmpty
    | none, some ⟨_, _, .waiting _⟩ => false
    | none, some ⟨_, _, .sending⟩ => false
    | some (.service _), some ⟨_, _, .sending⟩ => true
    | some (.service _), some ⟨_, _, .waiting _⟩ => false
    | some (.service _), some ⟨_, _, .sent⟩ => false
    | some (.service _), none => false
    | some (.busy _), some ⟨_, _, .sending⟩ => false
    | some (.busy _), some ⟨_, _, .waiting _⟩ => true
    | some (.busy _), some ⟨_, _, .sent⟩ => true
    | some (.busy _), none => true

end Sys2Proof.Machine
end

