-- ==== Sys2Proof/Certificates/Slice0/Obligations.lean ====
section
/-! DEFINITION. The statements for the provers, one `def Obligations.<Name> : Prop` each. The rules they formalise are named
in their docstrings and, with the sections they rest on, in OBLIGATIONS.json. Where a statement has a request taken with none in
service, that this holds also while four BUSY replies wait is the model's choice (log entry 6). -/

open Sys2Proof Sys2Proof.Machine


/-! ### Steps (the queue, the millisecond, the cold reset) -/

/-- A step takes the command at the front of the queue, with the queue's rest. -/
def Obligations.StepTakesTheFrontCommand : Prop :=
  ∀ (c : Instr) (rest : List Instr) (s : State),
    step { s with pending := c :: rest } = exec c { s with pending := rest }

/-- R171, R29, R61, R74; that an empty queue is a millisecond, and that the expiries of one millisecond wait as commands, is
the model's choice (log entry 1). -/
def Obligations.EmptyQueueIsOneMillisecond : Prop :=
  ∀ s : State, s.pending = [] → ∃ t, step s = .next t ∧
    t.line = { s.line with clock := if s.line.clock < 4294967295 then s.line.clock + 1 else 0 } ∧
    t.bus = { s.bus with timer := s.bus.timer - 1 } ∧
    t.port = s.port ∧ t.queue = s.queue ∧ t.items = s.items ∧ t.plan = s.plan ∧ t.sorter = s.sorter ∧
    t.totes = s.totes ∧
    (s.suspended = true → t.returns = s.returns ∧ t.lanes = s.lanes) ∧
    (s.suspended = false →
      (∀ n, t.ra n = (s.ra n).map fun r => { r with timer := r.timer.map fun k => k - 1 }) ∧
      ∀ l, t.lanes.at l =
        { s.lanes.at l with timer := (s.lanes.at l).timer.map fun w => { w with remaining := w.remaining - 1 } }) ∧
    (Instr.sweepTimer ∈ t.pending ↔ s.bus.timer ≤ 1) ∧
    (∀ l, Instr.decisionWaitExpiry l ∈ t.pending ↔
      s.suspended = false ∧ ∃ w, (s.lanes.at l).timer = some w ∧ w.remaining ≤ 1) ∧
    (∀ n, Instr.manifestWaitExpiry n ∈ t.pending ↔
      s.suspended = false ∧ ∃ r k, (n, r) ∈ s.returns.records.entries ∧ r.state = .expected ∧ r.timer = some k ∧ k ≤ 1) ∧
    ∀ c ∈ t.pending, c = .sweepTimer ∨ (∃ l, c = .decisionWaitExpiry l) ∨ ∃ n, c = .manifestWaitExpiry n

/-- R20, R68, R193, with what R47, R90, R110, R149, R168 and R182 give the other blocks. -/
def Obligations.ColdResetEmptiesTheBlock : Prop :=
  ∀ (s : State) (holdHigh : Bool) (strap : LinkRate), ∃ t, exec (.coldReset holdHigh strap) s = .next t ∧
    t.items.records.entries = [] ∧ t.live = 0 ∧ t.items.nextNumber = 1 ∧
    (∀ l, t.lanes.at l =
      { state := .idle, parcelCounter := 0, account := none, boundRas := [], closeCause := none, queue := [],
        nextTicket := 0, verdict := .none, timer := none }) ∧
    t.returns.records.entries = [] ∧ t.linesFree = 4096 ∧ t.tagsFree = 8192 ∧
    (∀ x, t.slot x =
      { state := .vacant, address := none, score := 0, maxScore := 0, lastValid := none, outcome := none }) ∧
    (∀ l, t.usable l = false) ∧ t.bus.number = 0 ∧ t.bus.timer = 20 ∧ t.bus.sweep = none ∧
    (∀ b, (t.plan.banks.at b).state = .empty ∧ (t.plan.banks.at b).valid = false ∧ (t.plan.banks.at b).bound = 0 ∧
      (t.plan.banks.at b).undefined = true) ∧
    t.plan.shadow = .off ∧ t.editBank = .b0 ∧
    t.sorter.carriers.entries = [] ∧ t.sorter.origin = 0 ∧ t.sorter.pointer = .l1 ∧ t.sorter.aligned = false ∧
    t.sorter.revolution = 0 ∧ (∀ l, t.sorter.xfer.at l = false) ∧ t.sorter.gates = [] ∧
    (∀ d, d < 16 → t.totes.dests.lookup d =
      some { state := .starved, queued := [], mode := .flag, limit := none, lot := none }) ∧
    t.freeTotes = 256 ∧
    t.line.mode = .setup ∧ t.line.pause = none ∧ t.line.hold = holdHigh ∧ t.line.clock = 0 ∧
    t.line.manifestWait = 60 ∧ t.line.decisionWait = 4 ∧ t.line.sweepPeriod = 20 ∧ t.line.downThreshold = 40 ∧
    t.line.lapLimit = 3 ∧ t.line.gatePositions.entries = [] ∧
    (∀ k, t.enabled k = decide (k ≠ .itemGraded ∧ k ≠ .checkFailed ∧ k ≠ .toteNearFull ∧ k ≠ .stationOrphan ∧
      k ≠ .lateMeasurement)) ∧
    t.queue.events = [] ∧ t.used = 0 ∧ t.queue.overrun = false ∧ t.attn = false ∧
    t.port.service = none ∧ t.port.sending = none ∧ t.port.waiting = [] ∧ t.port.receiving = [] ∧ t.port.rate = strap

/-- What holds of the block after a reset: every law of the state. -/
def Obligations.ResetStateIsLawful : Prop :=
  State.reset.eventLaw = true ∧ State.reset.canonical = true ∧ State.reset.itemsPlaced = true ∧
    State.reset.returnsLawful = true ∧ State.reset.bindingsLawful = true ∧ State.reset.lanesLawful = true ∧
    State.reset.rosterLawful = true ∧
    State.reset.planLawful = true ∧ State.reset.totesLawful = true ∧ State.reset.sorter.lawful = true ∧
    State.reset.line.lawful = true ∧ State.reset.port.lawful = true

/-! ### Requests and replies -/

/-- R187: a request answered in any status other than DONE has changed nothing but the Message Port, which answers it. -/
def Obligations.RequestsNotDoneChangeNothing : Prop :=
  ∀ (c : Instr) (s : State) (tag kind : Nat) (act : State → Answer), requestAct c = some (tag, kind, act) →
    s.serving = false → (act s.frameTaken).status ≠ .done →
    exec c s = .next
      { s with port := s.port.answered ⟨tag, kind, (act s.frameTaken).status, (act s.frameTaken).data⟩ }

/-- R186: a frame received while a request is in service is answered BUSY with its own tag and kind, or discarded while four
BUSY replies wait; nothing else is done with it, whatever request it is. R185, R186, R184: a kind that names no request and
a body without its structure reach no block; a discarded frame gets no reply, and hunting resumes at the byte after its
start byte. -/
def Obligations.FramesAnsweredByThePortAlone : Prop :=
  (∀ (s : State) (tag kind : Nat), s.serving = true →
    (s.port.waiting.length < 4 → s.port.sending.isSome = true →
      exec (.busy tag kind) s = .next { s with port := { s.port with
        receiving := [], waiting := s.port.waiting ++ [⟨tag, kind, .busy, .headOnly⟩] } }) ∧
    (s.port.waiting.length < 4 → s.port.sending = none →
      exec (.busy tag kind) s = .next { s with port := { s.port with
        receiving := [], sending := some (.busy ⟨tag, kind, .busy, .headOnly⟩) } }) ∧
    (4 ≤ s.port.waiting.length →
      exec (.busy tag kind) s = .next { s with port := { s.port with receiving := [] } }) ∧
    ∀ (c : Instr) (act : State → Answer), requestAct c = some (tag, kind, act) → exec c s = exec (.busy tag kind) s) ∧
  (∀ s : State,
    (∀ tag kind, s.serving = false → exec (.unknownRequest tag kind) s =
      .next { s with port := s.port.answered ⟨tag, kind, .unknownRequest, .headOnly⟩ }) ∧
    (∀ tag kind, s.serving = false → exec (.malformedRequest tag kind) s =
      .next { s with port := s.port.answered ⟨tag, kind, .malformed, .headOnly⟩ }) ∧
    exec .interbyteTimeout s = .next { s with port := { s.port with receiving := [] } } ∧
    (∀ b before after, (∀ x ∈ before, x ≠ startByte) → exec (.frameDiscarded (b :: before ++ startByte :: after)) s =
      .next { s with port := { s.port with receiving := startByte :: after } }) ∧
    ∀ b before, (∀ x ∈ before, x ≠ startByte) → exec (.frameDiscarded (b :: before)) s =
      .next { s with port := { s.port with receiving := [] } })

/-- R186: when the last byte of a reply has been sent, the reply of the request in service goes ahead of the BUSY replies,
which go in the order they were formed; a request leaves service with its own reply, but a WARM RESET stays until it has acted
(R183). -/
def Obligations.ReplySentStartsTheNext : Prop :=
  ∀ s : State,
    (∀ r next rest, s.port.sending = some (.service r) → ¬ (r.kind = 151 ∧ r.status = .done) →
      s.port.waiting = next :: rest → exec .replySent s =
        .next { s with port := { s.port with service := none, sending := some (.busy next), waiting := rest } }) ∧
    (∀ r, s.port.sending = some (.service r) → ¬ (r.kind = 151 ∧ r.status = .done) → s.port.waiting = [] →
      exec .replySent s = .next { s with port := { s.port with service := none, sending := none } }) ∧
    (∀ r tag, s.port.sending = some (.service r) → r.kind = 151 → r.status = .done →
      s.port.service = some ⟨tag, 151, .sending⟩ → s.port.waiting = [] → exec .replySent s =
        .next { s with port := { s.port with service := some ⟨tag, 151, .sent⟩, sending := none } }) ∧
    (∀ b tag kind r, s.port.sending = some (.busy b) → s.port.service = some ⟨tag, kind, .waiting r⟩ →
      exec .replySent s = .next { s with port := { s.port with
        service := some ⟨tag, kind, .sending⟩, sending := some (.service r) } }) ∧
    (∀ r tag next rest, s.port.sending = some (.service r) → r.kind = 151 → r.status = .done →
      s.port.service = some ⟨tag, 151, .sending⟩ → s.port.waiting = next :: rest → exec .replySent s =
        .next { s with port := { s.port with
          service := some ⟨tag, 151, .sent⟩, sending := some (.busy next), waiting := rest } }) ∧
    ∀ b, s.port.sending = some (.busy b) → (∀ tag kind r, s.port.service ≠ some ⟨tag, kind, .waiting r⟩) →
      (∀ next rest, s.port.waiting = next :: rest →
        exec .replySent s = .next { s with port := { s.port with sending := some (.busy next), waiting := rest } }) ∧
      (s.port.waiting = [] → exec .replySent s = .next { s with port := { s.port with sending := none } })

/-- R19, R37, R38: what READ ITEM and READ RETURN report, changing nothing. That READ RETURN of RA number 0 does not look at its
line index is the model's reading (log entry 8). -/
def Obligations.ReadItemAndReadReturnReport : Prop :=
  ∀ (s : State) (tag : Nat), s.serving = false →
    (∀ n it, n ≠ 0 → s.item n = some it → exec (.readItem tag n) s = .next (s.answered tag 16 (.item n it))) ∧
    (exec (.readItem tag 0) s = .next (s.answered tag 16 (.itemSummary
      { live := s.items.records.size
        measuring := (s.items.records.values.filter fun it => decide (it.state = .measuring)).length
        decided := (s.items.records.values.filter fun it => decide (it.state = .decided)).length
        waiting := (s.items.records.values.filter fun it => decide (it.state = .waiting)).length
        ready := (s.items.records.values.filter fun it => decide (it.state = .ready)).length
        sorting := (s.items.records.values.filter fun it => decide (it.state = .sorting)).length
        bank0 := (s.items.records.values.filter fun it => decide (it.bank = .b0)).length
        bank1 := (s.items.records.values.filter fun it => decide (it.bank = .b1)).length
        nextNumber := s.items.nextNumber }))) ∧
    (∀ n r, n ≠ 0 → s.ra n = some r → exec (.readReturn tag n none) s = .next (s.answered tag 36 (.raRecord
      { ra := n, account := r.account, label := r.label, reason := r.reason, state := r.state, mismatch := r.mismatch,
        closed := r.closed, boundLane := r.boundLane, matched := r.matched, timer := r.timer,
        lineCount := r.lines.length }
      (r.lines.map fun l =>
        { sku := l.sku, category := l.category, quantity := l.quantity, received := l.received, pieces := l.pieces,
          refWeight := l.refWeight, tags := l.tags.length,
          tagsReceived := (l.tags.filter fun t => t.received).length })))) ∧
    (∀ n r i l, n ≠ 0 → s.ra n = some r → i ≠ 0 → r.lines[i - 1]? = some l →
      exec (.readReturn tag n (some i)) s = .next (s.answered tag 36 (.raLine l))) ∧
    (∀ n r i, n ≠ 0 → s.ra n = some r → (i = 0 ∨ r.lines.length < i) →
      exec (.readReturn tag n (some i)) s = .next (s.answeredRefused tag 36 .outOfRange .headOnly)) ∧
    (∀ n i, n ≠ 0 → s.ra n = none →
      exec (.readReturn tag n i) s = .next (s.answeredRefused tag 36 .notFound .headOnly)) ∧
    ∀ i, ∃ r, exec (.readReturn tag 0 i) s = .next (s.answered tag 36 (.returnSummary r)) ∧
      r.records = s.returns.records.size ∧
      r.loaded = (s.returns.records.values.filter fun x => decide (x.state = .loaded)).length ∧
      r.bound = (s.returns.records.values.filter fun x => decide (x.state = .bound)).length ∧
      r.expected = (s.returns.records.values.filter fun x => decide (x.state = .expected)).length ∧
      r.overdue = (s.returns.records.values.filter fun x => decide (x.state = .overdue)).length ∧
      r.complete = (s.returns.records.values.filter fun x => decide (x.state = .complete)).length ∧
      r.short = (s.returns.records.values.filter fun x => decide (x.state = .short)).length ∧
      r.linesUsed = (s.returns.records.values.map fun x => x.lines.length).sum ∧
      r.linesFree = 4096 - r.linesUsed ∧
      r.tagsUsed = (s.returns.records.values.map fun x => (x.lines.map fun l => l.tags.length).sum).sum ∧
      r.tagsFree = 8192 - r.tagsUsed ∧ r.manifestWait = s.line.manifestWait

/-- R166, R179, R180: what READ DESTINATION, READ SETTING and READ STATUS report, changing nothing. -/
def Obligations.ReadDestinationSettingStatusReport : Prop :=
  ∀ (s : State) (tag : Nat), s.serving = false →
    (∀ d x, d ≤ 15 → s.totes.dests.lookup d = some x →
      exec (.readDestination tag d) s = .next (s.answered tag 133 (.destinationRead d x))) ∧
    (∃ dests, exec (.readDestination tag 255) s = .next (s.answered tag 133 (.allDestinations s.freeTotes dests)) ∧
      dests.length = 16 ∧
      ∀ d x, d < 16 → s.totes.dests.lookup d = some x →
        dests[d]? = some (x.state.name, x.state.currentId, x.queued.length)) ∧
    (∀ d, 15 < d → d ≠ 255 →
      exec (.readDestination tag d) s = .next (s.answeredRefused tag 133 .outOfRange .headOnly)) ∧
    exec (.readSetting tag .manifestWait) s =
      .next (s.answered tag 149 (.setting .manifestWait (.num s.line.manifestWait))) ∧
    exec (.readSetting tag .decisionWait) s =
      .next (s.answered tag 149 (.setting .decisionWait (.num s.line.decisionWait))) ∧
    exec (.readSetting tag .sweepPeriod) s =
      .next (s.answered tag 149 (.setting .sweepPeriod (.num s.line.sweepPeriod))) ∧
    exec (.readSetting tag .downThreshold) s =
      .next (s.answered tag 149 (.setting .downThreshold (.num s.line.downThreshold))) ∧
    exec (.readSetting tag .lapLimit) s = .next (s.answered tag 149 (.setting .lapLimit (.num s.line.lapLimit))) ∧
    (∀ g, g ≤ 16 → exec (.readSetting tag (.gatePosition g)) s = .next (s.answered tag 149 (.setting (.gatePosition g)
      (match s.line.gatePositions.lookup g with
        | some p => .num p
        | none => .unset)))) ∧
    (∀ d x, d ≤ 15 → s.totes.dests.lookup d = some x → exec (.readSetting tag (.chainMode d)) s =
      .next (s.answered tag 149 (.setting (.chainMode d) (.mode (.known x.mode))))) ∧
    (∀ k b, 1 ≤ k → k ≤ 22 → s.line.enables.lookup k = some b → exec (.readSetting tag (.eventEnable k)) s =
      .next (s.answered tag 149 (.setting (.eventEnable k) (.enable (.known (if b then .on else .off)))))) ∧
    ∃ r, exec (.readStatus tag) s = .next (s.answered tag 150 (.status r)) ∧
      r.mode = s.line.mode ∧ r.pause = s.line.pause ∧ r.hold = s.line.hold ∧
      r.suspended = (s.line.pause.isSome || s.line.hold) ∧ r.clock = s.line.clock ∧
      (∀ l, (r.lanes.at l).state = (s.lanes.at l).state ∧ (r.lanes.at l).usable = s.usable l ∧
        (r.lanes.at l).parcel = (if (s.lanes.at l).state = .idle then none else some (s.lanes.at l).parcelCounter) ∧
        (r.lanes.at l).account = (s.lanes.at l).account ∧ (r.lanes.at l).boundRas = (s.lanes.at l).boundRas ∧
        (r.lanes.at l).closeCause = (s.lanes.at l).closeCause ∧ (r.lanes.at l).queue = (s.lanes.at l).queue ∧
        (r.lanes.at l).timerRunning = (s.lanes.at l).timer.isSome) ∧
      (∀ x : SlotId, (r.slots.at x.lane).at x.role = ((s.slot x).state, (s.slot x).score)) ∧
      r.sweep = s.bus.number ∧ r.live = s.items.records.size ∧ r.used = s.queue.events.length ∧
      r.overrun = s.queue.overrun ∧ (∀ b, r.plan.states.at b = (s.plan.banks.at b).state ∧
        r.plan.valid.at b = (s.plan.banks.at b).valid ∧ r.plan.bound.at b = (s.plan.banks.at b).bound) ∧
      r.plan.edit = s.editBank ∧ r.plan.shadow = s.plan.shadow ∧ r.origin = s.sorter.origin ∧
      r.aligned = s.sorter.aligned ∧ r.pointer = s.sorter.pointer ∧ r.occupied = s.sorter.carriers.size ∧
      r.dests.length = 16 ∧
      (∀ d x, d < 16 → s.totes.dests.lookup d = some x → r.dests[d]? = some x.state.name) ∧
      r.freeTotes = 256 - s.allTotes.length

/-- R189, R181, R190: an offer of a non-final event. R191, R192. -/
def Obligations.EventsAreOfferedAndFetched : Prop :=
  (∀ (s : State) (item : Nat) (body : EventBody),
    (s.enabled body.kind = false → s.offer item body = s) ∧
    (s.enabled body.kind = true → s.used + s.live < 256 →
      s.offer item body =
        { s with queue := { s.queue with events := s.queue.events ++ [⟨s.line.clock, item, body⟩] } }) ∧
    (s.enabled body.kind = true → 256 ≤ s.used + s.live →
      s.offer item body = { s with queue := { s.queue with overrun := true } })) ∧
  (∀ (s : State) (tag count : Nat), s.serving = false →
    (1 ≤ count → count ≤ 16 → ∃ t, exec (.fetchEvents tag count) s = .next t ∧
      t = { s with
        queue := { events := s.queue.events.drop count, overrun := false }
        port := s.port.answered ⟨tag, 160, .done,
          .events s.queue.overrun (s.queue.events.take count) (s.queue.events.length - count)⟩ } ∧
      (t.attn = true ↔ count < s.used)) ∧
    (count = 0 ∨ 16 < count → exec (.fetchEvents tag count) s =
      .next (s.answeredRefused tag 160 .outOfRange .headOnly)))

/-! ### Items -/

/-- R15, R13, R14, R16: WITHDRAW ITEM retires an item in lane, and redirects an item on a carrier to gate E. R106: the retirement
of the last item of a DRAINING bank offers PLAN DRAINED. -/
def Obligations.WithdrawItemRetiresOrRedirects : Prop :=
  ∀ (s : State) (tag n : Nat) (it : Item), s.serving = false → s.item n = some it →
    (it.state ≠ .sorting → ∃ t, exec (.withdrawItem tag n) s = .next t ∧
      s.retires t n it (.itemWithdrawn .host
        { lane := it.lane, ticket := it.ticket, parcel := it.parcel, state := it.state, grade := it.grade,
          result := it.result, matched := it.matched, dest := it.dest, laps := 0, forced := it.forced }) [] ∧
      t.totes = s.totes ∧ t.sorter.gates = s.sorter.gates ∧
      t.port = s.port.answered ⟨tag, 17, .done, .withdrawn it.state false⟩) ∧
    (it.state = .sorting → exec (.withdrawItem tag n) s =
      .next ((s.modItem n fun x => { x with route := some (.exception .withdrawn) }).answered tag 17
        (.withdrawn .sorting true)))

/-- R18, R8, R127: FORCE GRADE on a decided item replaces the grade, and the route unless a holding reason stands. R17, R64:
FORCE GRADE decides an undecided item without a match. In a lane that is not CLOSING that is all; in a CLOSING lane the
settlement test follows ITEM GRADED. -/
def Obligations.ForceGradeReplacesOrDecides : Prop :=
  (∀ (s : State) (tag n : Nat) (it : Item) (g : Grade) (p : Program) (cell : Dest), s.serving = false →
    s.item n = some it → it.grade.isSome = true →
    (s.plan.banks.at it.bank).programs.lookup (it.category.getD 31) = some p →
    (s.plan.banks.at it.bank).map.lookup (4 * gradePlace g + p.group) = some cell →
    ∀ it' : Item, it' = { it with
        grade := some g, forced := true
        route := match it.route with
          | some (.exception .mapped) => some (Route.ofCell cell)
          | some (.exception held) => some (.exception held)
          | _ => some (Route.ofCell cell) } →
      exec (.forceGrade tag n (.known g)) s =
        .next (((s.modItem n fun _ => it').offer n (.itemGraded it'.gradedFields)).answered tag 18
          (.forced g it'.dest it'.state))) ∧
  (∀ (s : State) (tag n : Nat) (it : Item) (g : Grade) (p : Program) (cell : Dest), s.serving = false →
    s.item n = some it → it.grade = none → (it.state = .measuring ∨ it.state = .waiting) →
    (s.plan.banks.at it.bank).programs.lookup 31 = some p →
    (s.plan.banks.at it.bank).map.lookup (4 * gradePlace g + p.group) = some cell →
    ∀ it' : Item, it' = { it with
        result := some .forced, matched := none, category := some 31, expectedPieces := p.pieces, penalty := 0,
        cap := .noCap, quarantine := false, failed := [], grade := some g, shadow := none, forced := true,
        route := some (Route.ofCell cell), state := if it.state = .waiting then .ready else .decided,
        decidedTime := some s.line.clock } →
      ((s.lanes.at it.lane).state ≠ .closing → exec (.forceGrade tag n (.known g)) s =
        .next ((((s.modItem n fun _ => it').modLane it.lane fun x =>
          { x with timer := x.timer.filter fun w => decide (w.item ≠ n) }).offer n
            (.itemGraded it'.gradedFields)).answered tag 18 (.forced g it'.dest it'.state))) ∧
      (∀ u : State, u = (((s.modItem n fun _ => it').modLane it.lane fun x =>
          { x with timer := x.timer.filter fun w => decide (w.item ≠ n) }).offer n
            (.itemGraded it'.gradedFields)).settlementTest it.lane →
        exec (.forceGrade tag n (.known g)) s = .next (u.answered tag 18 (.forced g it'.dest it'.state))) ∧
      ∃ t, exec (.forceGrade tag n (.known g)) s = .next t ∧ t.item n = some it' ∧
        (∀ m, m ≠ n → t.item m = s.item m) ∧ s.eventsGrow t ∧ (t.lanes.at it.lane).queue = (s.lanes.at it.lane).queue ∧
        (∀ l, l ≠ it.lane → t.lanes.at l = s.lanes.at l) ∧ t.bus = s.bus ∧ t.plan = s.plan ∧ t.sorter = s.sorter ∧
        t.totes = s.totes ∧ t.port = s.port.answered ⟨tag, 18, .done, .forced g it'.dest it'.state⟩)

/-- R15, R16, R17: an item number no live record carries, and a grade that is none of the five. R63, R66: a lane byte that
is none of 1 to 4. -/
def Obligations.ItemAndLaneRequestsRefused : Prop :=
  (∀ (s : State) (tag n : Nat), s.serving = false →
    (s.item n = none →
      exec (.withdrawItem tag n) s = .next (s.answeredRefused tag 17 .notFound .headOnly) ∧
      ∀ g, exec (.forceGrade tag n g) s = .next (s.answeredRefused tag 18 .notFound .headOnly)) ∧
    (n ≠ 0 → s.item n = none → exec (.readItem tag n) s = .next (s.answeredRefused tag 16 .notFound .headOnly)) ∧
    ∀ it code, s.item n = some it →
      exec (.forceGrade tag n (.beyond code)) s = .next (s.answeredRefused tag 18 .outOfRange .headOnly)) ∧
  (∀ (s : State) (tag lane : Nat), s.serving = false → (lane = 0 ∨ 4 < lane) →
    exec (.closeParcel tag lane) s = .next (s.answeredRefused tag 49 .outOfRange .headOnly) ∧
    exec (.abortLane tag lane) s = .next (s.answeredRefused tag 50 .outOfRange .headOnly))

/-! ### Return authorisations -/

/-- R31 to R33: LOAD RETURN creates a LOADED record, or fills a placeholder of the same account. R115: after the filling the
undecided items of the parcel are tested in lane-queue order, each on the state that the tests before it leave; one that is not
measured, or whose RA question is open, is left as it stands. That the reply gives the state
and the label-mismatch mark as they stand at the filling is the model's reading (log entry 8). -/
def Obligations.LoadReturnCreatesOrFills : Prop :=
  ∀ (s : State) (tag : Nat) (r : ReturnLoad), s.serving = false → loadAdmissible r →
    (r.lines.flatMap fun l => l.tags).Nodup → r.lines.length ≤ s.linesFree →
    (r.lines.flatMap fun l => l.tags).length ≤ s.tagsFree →
    (s.ra r.ra = none → s.returns.records.size < 1024 → ∀ u : State, u = s.putRa r.ra
        { account := r.account, label := r.label, reason := r.reason, state := .loaded, mismatch := false,
          closed := false, boundLane := none, matched := 0, timer := none, lines := r.lines.map LineLoad.toLine } →
      exec (.loadReturn tag r) s = .next (u.answered tag 32 (.loaded false .loaded false u.linesFree u.tagsFree))) ∧
    (∀ p l, s.ra r.ra = some p → (p.state = .expected ∨ p.state = .overdue) → p.account = r.account →
      p.boundLane = some l → ∀ f : Ra, f = { p with
          label := r.label, reason := r.reason, lines := r.lines.map LineLoad.toLine, state := .bound, timer := none,
          mismatch := p.mismatch || decide (r.label ≠ p.label) } →
      ∀ u : State, u = s.modRa r.ra (fun _ => f) →
      (s.anyUndecided l = false → exec (.loadReturn tag r) s =
        .next (u.answered tag 32 (.loaded true .bound f.mismatch u.linesFree u.tagsFree))) ∧
      (∀ v : State, v = u.retest l → exec (.loadReturn tag r) s =
        .next (v.answered tag 32 (.loaded true .bound f.mismatch v.linesFree v.tagsFree))) ∧
      ∃ t, exec (.loadReturn tag r) s = .next t ∧ s.eventsGrow t ∧ t.bus = s.bus ∧ t.plan = s.plan ∧
        t.sorter = s.sorter ∧ t.totes = s.totes ∧ (∀ n it, s.item n = some it → it.decided = true → t.item n = some it) ∧
        (∀ n ∈ (s.lanes.at l).queue, ∀ it, s.item n = some it → s.undecidedOf l it = true → it.measured = true →
          u.raSettled it = true → ∃ d, t.item n = some d ∧ d.decided = true) ∧
        ∀ n it, s.item n = some it → s.undecidedOf l it = true → (it.measured = false ∨ u.raSettled it = false) →
          t.item n = some it) ∧
    (∀ l : LineLoad, LineLoad.toLine l =
      { sku := l.sku, category := l.category, quantity := l.quantity, received := 0, pieces := l.pieces,
        refWeight := l.refWeight, tags := l.tags.map fun c => ⟨c, false⟩ }) ∧
    (∀ (u : State) (l : LaneId), ∃ test : State → Nat → State, u.retest l = (u.lanes.at l).queue.foldl test u ∧
      ∀ v n, (v.item n = none → test v n = v) ∧ ∀ it, v.item n = some it →
        (v.undecidedOf l it = false → test v n = v) ∧ (v.undecidedOf l it = true → test v n = v.testItem n)) ∧
    ∀ (u : State) (n : Nat) (it : Item), u.item n = some it →
      (it.decided = false → it.tagStatus ≠ .awaited → it.scaleStatus ≠ .awaited → it.visionStatus ≠ .awaited →
        u.raSettled it = true → u.testItem n = u.decideItem n) ∧
      ((it.decided = true ∨ it.tagStatus = .awaited ∨ it.scaleStatus = .awaited ∨ it.visionStatus = .awaited ∨
        u.raSettled it = false) → u.testItem n = u)

/-- R31: the tests of LOAD RETURN, in their order; that a SKU above 24 bits is OUT OF RANGE is the model's reading (log entry 8).
R34, R35, R36: the tests of ADD TAGS, AMEND RETURN and REMOVE RETURN, in their order. -/
def Obligations.ReturnRequestsRefused : Prop :=
  (∀ (s : State) (tag : Nat) (r : ReturnLoad), s.serving = false →
    (¬ loadAdmissible r → exec (.loadReturn tag r) s = .next (s.answeredRefused tag 32 .outOfRange .headOnly)) ∧
    (loadAdmissible r → ¬ (r.lines.flatMap fun l => l.tags).Nodup →
      exec (.loadReturn tag r) s = .next (s.answeredRefused tag 32 .duplicateTag .headOnly)) ∧
    (loadAdmissible r → (r.lines.flatMap fun l => l.tags).Nodup → ∀ p, s.ra r.ra = some p →
      (p.state ≠ .expected → p.state ≠ .overdue →
        exec (.loadReturn tag r) s = .next (s.answeredRefused tag 32 .duplicate .headOnly)) ∧
      (p.state = .expected ∨ p.state = .overdue → p.account ≠ r.account →
        exec (.loadReturn tag r) s = .next (s.answeredRefused tag 32 .notOneAccount .headOnly))) ∧
    (loadAdmissible r → (r.lines.flatMap fun l => l.tags).Nodup →
      (s.ra r.ra = none ∨ ∃ p, s.ra r.ra = some p ∧ (p.state = .expected ∨ p.state = .overdue) ∧
        p.account = r.account) →
      (s.ra r.ra = none ∧ 1024 ≤ s.returns.records.size ∨ s.linesFree < r.lines.length ∨
        s.tagsFree < (r.lines.flatMap fun l => l.tags).length) →
      exec (.loadReturn tag r) s = .next (s.answeredRefused tag 32 .full .headOnly))) ∧
  (∀ (s : State) (tag n : Nat), s.serving = false →
    (s.ra n = none → ∀ i codes label reason quantity,
      exec (.addTags tag n i codes) s = .next (s.answeredRefused tag 33 .notFound .headOnly) ∧
      exec (.amendReturn tag n label reason quantity) s = .next (s.answeredRefused tag 34 .notFound .headOnly) ∧
      exec (.removeReturn tag n) s = .next (s.answeredRefused tag 35 .notFound .headOnly)) ∧
    (∀ r, s.ra n = some r → (r.state = .expected ∨ r.state = .overdue) → ∀ i codes,
      exec (.addTags tag n i codes) s = .next (s.answeredRefused tag 33 .inUse .headOnly)) ∧
    (∀ r, s.ra n = some r → (r.state = .bound ∨ r.state = .expected ∨ r.state = .overdue) →
      ∀ label reason quantity,
      exec (.amendReturn tag n label reason quantity) s = .next (s.answeredRefused tag 34 .inUse .headOnly) ∧
      exec (.removeReturn tag n) s = .next (s.answeredRefused tag 35 .inUse .headOnly))) ∧
  (∀ (s : State) (tag n i : Nat) (codes : List TagCode) (r : Ra), s.serving = false → s.ra n = some r →
    r.state ≠ .expected → r.state ≠ .overdue →
    ((i = 0 ∨ r.lines.length < i) →
      exec (.addTags tag n i codes) s = .next (s.answeredRefused tag 33 .outOfRange .headOnly)) ∧
    ∀ l, i ≠ 0 → r.lines[i - 1]? = some l →
      ((codes = [] ∨ 15 < codes.length ∨ (∃ c ∈ codes, c.sku ≠ l.sku) ∨ l.quantity < l.tags.length + codes.length) →
        exec (.addTags tag n i codes) s = .next (s.answeredRefused tag 33 .outOfRange .headOnly)) ∧
      (1 ≤ codes.length → codes.length ≤ 15 → (∀ c ∈ codes, c.sku = l.sku) →
        l.tags.length + codes.length ≤ l.quantity →
        ((¬ codes.Nodup ∨ ∃ c ∈ codes, ∃ m ∈ r.lines, ∃ x ∈ m.tags, x.code = c) →
          exec (.addTags tag n i codes) s = .next (s.answeredRefused tag 33 .duplicateTag .headOnly)) ∧
        (codes.Nodup → (∀ c ∈ codes, ∀ m ∈ r.lines, ∀ x ∈ m.tags, x.code ≠ c) → s.tagsFree < codes.length →
          exec (.addTags tag n i codes) s = .next (s.answeredRefused tag 33 .full .headOnly)))) ∧
  (∀ (s : State) (tag n : Nat) (label reason : Option Nat) (quantity : Option (Nat × Nat)) (r : Ra),
    s.serving = false → s.ra n = some r → (r.state = .loaded ∨ r.state = .complete ∨ r.state = .short) →
    ((∃ k, reason = some k ∧ 15 < k) ∨
      (∃ i q, quantity = some (i, q) ∧ (i = 0 ∨ r.lines.length < i ∨ q = 0 ∨ 15 < q ∨
        ∃ l, r.lines[i - 1]? = some l ∧ (q < l.received ∨ q < l.tags.length)))) →
    exec (.amendReturn tag n label reason quantity) s = .next (s.answeredRefused tag 34 .outOfRange .headOnly))

/-- R34: ADD TAGS appends to a line of a loaded record, in every loaded state. R35, R36: what AMEND RETURN writes, and what
REMOVE RETURN returns to the pools. -/
def Obligations.AddTagsAmendAndRemoveReturn : Prop :=
  (∀ (s : State) (tag n i : Nat) (codes : List TagCode) (r : Ra) (l : Line), s.serving = false → s.ra n = some r →
    (r.state ≠ .expected ∧ r.state ≠ .overdue) → i ≠ 0 → r.lines[i - 1]? = some l → 1 ≤ codes.length →
    codes.length ≤ 15 → (∀ c ∈ codes, c.sku = l.sku) → l.tags.length + codes.length ≤ l.quantity → codes.Nodup →
    (∀ c ∈ codes, ∀ m ∈ r.lines, ∀ x ∈ m.tags, x.code ≠ c) → codes.length ≤ s.tagsFree →
    exec (.addTags tag n i codes) s = .next ((s.modRa n fun x => { x with
      lines := x.lines.modify (i - 1) fun m => { m with tags := m.tags ++ codes.map fun c => ⟨c, false⟩ } }).answered
        tag 33 (.listedTags (l.tags.length + codes.length)))) ∧
  (∀ (s : State) (tag n : Nat) (r : Ra), s.serving = false → s.ra n = some r →
    (r.state = .loaded ∨ r.state = .complete ∨ r.state = .short) →
    (∀ (label reason : Option Nat), label.getD 0 ≤ 255 → reason.getD 0 ≤ 15 →
      exec (.amendReturn tag n label reason none) s = .next ((s.modRa n fun _ =>
        { r with label := label.getD r.label, reason := reason.getD r.reason }).answered tag 34 (.raState r.state)) ∧
      ∀ i q l, i ≠ 0 → r.lines[i - 1]? = some l → 1 ≤ q → q ≤ 15 → l.received ≤ q → l.tags.length ≤ q →
        ∀ u : Ra, u = { r with
          label := label.getD r.label, reason := reason.getD r.reason
          lines := r.lines.modify (i - 1) fun m => { m with quantity := q } } →
        (r.state = .loaded → exec (.amendReturn tag n label reason (some (i, q))) s =
          .next ((s.modRa n fun _ => u).answered tag 34 (.raState .loaded))) ∧
        (r.state ≠ .loaded → ∀ x : RaState,
          x = (if u.lines.all (fun m => decide (m.received = m.quantity)) then .complete else .short) →
          exec (.amendReturn tag n label reason (some (i, q))) s =
            .next ((s.modRa n fun _ => { u with state := x, closed := true }).answered tag 34 (.raState x)))) ∧
    exec (.removeReturn tag n) s = .next ((s.removeRa n).answered tag 35
      (.entriesReturned r.lines.length (r.lines.map fun l => l.tags.length).sum)))

/-! ### Lanes -/

/-- R53, R28, R29: the whole act of an OPEN PARCEL that is taken. -/
def Obligations.OpenParcelBindsAll : Prop :=
  ∀ (s : State) (tag lane account : Nat) (pairs : List (Nat × Nat)) (l : LaneId), s.serving = false →
    laneOf lane = some l → 1 ≤ pairs.length → pairs.length ≤ 4 → (∀ p ∈ pairs, p.1 ≠ 0) →
    (pairs.map fun p => p.1).Nodup → (s.lanes.at l).state = .idle → s.usable l = true → s.line.mode = .running →
    (∀ p ∈ pairs, (s.ra p.1 = none ∧
        s.returns.records.size + (pairs.filter fun q => (s.ra q.1).isNone).length ≤ 1024) ∨
      ∃ r, s.ra p.1 = some r ∧ (r.state = .loaded ∨ r.state = .short) ∧ r.account = account ∧ r.label = p.2) →
    ∃ t, exec (.openParcel tag lane account pairs) s = .next t ∧
      t.lanes.at l = { s.lanes.at l with
        state := .opened
        parcelCounter := if (s.lanes.at l).parcelCounter < 65535 then (s.lanes.at l).parcelCounter + 1 else 0
        account := some account, boundRas := pairs.map fun p => p.1, closeCause := none } ∧
      (∀ m, m ≠ l → t.lanes.at m = s.lanes.at m) ∧
      (∀ p ∈ pairs, t.ra p.1 = some (match s.ra p.1 with
        | some r => { r with state := .bound, boundLane := some l, matched := 0 }
        | none =>
          { account := account, label := p.2, reason := 0, state := .expected, mismatch := false, closed := false,
            boundLane := some l, matched := 0, timer := some (1000 * s.line.manifestWait), lines := [] })) ∧
      (∀ n, n ∉ pairs.map (fun p => p.1) → t.ra n = s.ra n) ∧
      t.items = s.items ∧ t.queue = s.queue ∧ t.line = s.line ∧ t.bus = s.bus ∧ t.plan = s.plan ∧
      t.sorter = s.sorter ∧ t.totes = s.totes ∧
      t.port = s.port.answered ⟨tag, 48, .done, .parcelOpened (t.lanes.at l).parcelCounter
        (pairs.map fun p => (s.ra p.1).isSome)⟩

/-- R51, R52: the tests of OPEN PARCEL, in their order; a pair's tests come after those of the pairs before it. -/
def Obligations.OpenParcelRefusals : Prop :=
  ∀ (s : State) (tag lane account : Nat) (pairs : List (Nat × Nat)), s.serving = false →
    (laneOf lane = none ∨ pairs = [] ∨ 4 < pairs.length ∨ (∃ p ∈ pairs, p.1 = 0) →
      exec (.openParcel tag lane account pairs) s = .next (s.answeredRefused tag 48 .outOfRange .headOnly)) ∧
    ∀ l, laneOf lane = some l → 1 ≤ pairs.length → pairs.length ≤ 4 → (∀ p ∈ pairs, p.1 ≠ 0) →
      ((s.lanes.at l).state ≠ .idle →
        exec (.openParcel tag lane account pairs) s = .next (s.answeredRefused tag 48 .inUse .headOnly)) ∧
      ((s.lanes.at l).state = .idle →
        (s.usable l = false →
          exec (.openParcel tag lane account pairs) s = .next (s.answeredRefused tag 48 .laneIncomplete .headOnly)) ∧
        (s.usable l = true → s.line.mode ≠ .running →
          exec (.openParcel tag lane account pairs) s = .next (s.answeredRefused tag 48 .lineState .headOnly)) ∧
        (s.usable l = true → s.line.mode = .running → ¬ (pairs.map fun p => p.1).Nodup →
          exec (.openParcel tag lane account pairs) s = .next (s.answeredRefused tag 48 .contradiction .headOnly)) ∧
        (s.usable l = true → s.line.mode = .running → (pairs.map fun p => p.1).Nodup →
          ∀ before p after, pairs = before ++ p :: after →
          (∀ q ∈ before, (s.ra q.1 = none ∧
              s.returns.records.size + (before.filter fun o => (s.ra o.1).isNone).length ≤ 1024) ∨
            ∃ r, s.ra q.1 = some r ∧ (r.state = .loaded ∨ r.state = .short) ∧ r.account = account ∧ r.label = q.2) →
          (s.ra p.1 = none →
            1024 ≤ s.returns.records.size + (before.filter fun q => (s.ra q.1).isNone).length →
            exec (.openParcel tag lane account pairs) s = .next (s.answeredRefused tag 48 .full (.faultRa p.1))) ∧
          ∀ r, s.ra p.1 = some r →
            ((r.state = .loaded ∨ r.state = .short) → r.account ≠ account → exec (.openParcel tag lane account pairs) s =
              .next (s.answeredRefused tag 48 .notOneAccount (.faultRa p.1))) ∧
            ((r.state = .loaded ∨ r.state = .short) → r.account = account → r.label ≠ p.2 →
              exec (.openParcel tag lane account pairs) s =
                .next (s.answeredRefused tag 48 .staleLabel (.faultRa p.1))) ∧
            ((r.state = .bound ∨ r.state = .expected ∨ r.state = .overdue) →
              exec (.openParcel tag lane account pairs) s = .next (s.answeredRefused tag 48 .inUse (.faultRa p.1))) ∧
            (r.state = .complete → exec (.openParcel tag lane account pairs) s =
              .next (s.answeredRefused tag 48 .alreadyComplete (.faultRa p.1)))))

/-- R63, R64, R65: CLOSE PARCEL and the parcel-done key make an OPEN lane CLOSING, and settle its parcel at once when no
item of it is undecided; in the other lane states they leave everything as it is. R64: in a CLOSING lane the decision of the
last undecided item settles the parcel; with another undecided item left the lane stays CLOSING. -/
def Obligations.ClosingAndSettlingAParcel : Prop :=
  ((∀ (s : State) (tag lane : Nat) (l : LaneId), s.serving = false → laneOf lane = some l →
    ((s.lanes.at l).state = .opened → s.anyUndecided l = true → exec (.closeParcel tag lane) s =
      .next ((s.modLane l fun x => { x with state := .closing, closeCause := some .host }).answered tag 49
        (.laneState .closing))) ∧
    ((s.lanes.at l).state = .opened → s.anyUndecided l = false → ∃ t, exec (.closeParcel tag lane) s = .next t ∧
      s.settles t l .host 0 ∧ t.port = s.port.answered ⟨tag, 49, .done, .laneState .idle⟩) ∧
    ((s.lanes.at l).state = .closing →
      exec (.closeParcel tag lane) s = .next (s.answered tag 49 (.laneState .closing))) ∧
    ((s.lanes.at l).state = .idle →
      exec (.closeParcel tag lane) s = .next (s.answeredRefused tag 49 .notFound .headOnly))) ∧
  ∀ (s : State) (a : AnswerHead) (x : SlotId), s.turnFor x a = true → x.role = .entry →
    ((s.lanes.at x.lane).state = .opened → s.anyUndecided x.lane = true → exec (.parcelDone a) s =
      .next ((s.heard x).modLane x.lane fun y => { y with state := .closing, closeCause := some .key })) ∧
    ((s.lanes.at x.lane).state = .opened → s.anyUndecided x.lane = false → ∃ t, exec (.parcelDone a) s = .next t ∧
      (s.heard x).settles t x.lane .key 0 ∧ t.port = s.port) ∧
    ((s.lanes.at x.lane).state ≠ .opened → exec (.parcelDone a) s = .next (s.heard x))) ∧
  (∀ (s : State) (l : LaneId),
    ((s.lanes.at l).state ≠ .closing → s.settlementTest l = s) ∧
    (s.anyUndecided l = true → s.settlementTest l = s) ∧
    (∀ cause, (s.lanes.at l).state = .closing → (s.lanes.at l).closeCause = some cause → s.anyUndecided l = false →
      s.settles (s.settlementTest l) l (match cause with | .host => .host | .key => .key) 0))

/-- R66, R65: ABORT LANE clears a lane. The retired items' final events stand in queue order, and PARCEL CLOSED with cause ABORTED
after the last of them when a parcel is settled; nothing of another lane changes. -/
def Obligations.AbortLaneClearsTheLane : Prop :=
  ∀ (s : State) (tag lane : Nat) (l : LaneId), s.serving = false → laneOf lane = some l → s.itemsPlaced = true →
    ∃ t, exec (.abortLane tag lane) s = .next t ∧
      (t.lanes.at l).state = .idle ∧ (t.lanes.at l).queue = [] ∧ (t.lanes.at l).verdict = .none ∧
      (t.lanes.at l).timer = none ∧ (t.lanes.at l).parcelCounter = (s.lanes.at l).parcelCounter ∧
      (t.lanes.at l).nextTicket = (s.lanes.at l).nextTicket ∧
      ((s.lanes.at l).state ≠ .idle → (t.lanes.at l).boundRas = [] ∧ (t.lanes.at l).account = none ∧
        (t.lanes.at l).closeCause = none ∧
        (∀ n ∈ (s.lanes.at l).boundRas, t.ra n = (s.ra n).bind Ra.closing) ∧
        ∀ n, n ∉ (s.lanes.at l).boundRas → t.ra n = s.ra n) ∧
      ((s.lanes.at l).state = .idle → t.returns = s.returns) ∧
      (∀ m, m ≠ l → t.lanes.at m = s.lanes.at m) ∧
      (∀ n ∈ (s.lanes.at l).queue, t.item n = none) ∧ (∀ n, n ∉ (s.lanes.at l).queue → t.item n = s.item n) ∧
      (∃ more, t.queue.events = s.queue.events ++ more ∧
        ((s.lanes.at l).queue.filterMap fun n => (s.item n).map fun it =>
          (⟨s.line.clock, n, .itemWithdrawn .aborted it.finalFields⟩ : Event)).Sublist more ∧
        ((s.lanes.at l).state = .idle → ∀ e ∈ more, e.body.kind ≠ .parcelClosed) ∧
        ((s.lanes.at l).state ≠ .idle → s.enabled .parcelClosed = true → s.used + s.live ≤ 253 →
          (((s.lanes.at l).queue.filterMap fun n => (s.item n).map fun (it : Item) =>
            (⟨s.line.clock, n, .itemWithdrawn .aborted it.finalFields⟩ : Event)) ++
          [(⟨s.line.clock, 0, .parcelClosed l (s.lanes.at l).parcelCounter (s.lanes.at l).account .aborted
            (s.lanes.at l).queue.length ((s.lanes.at l).boundRas.filterMap fun n =>
              (s.ra n).map fun r => (n, r.closingReport))⟩ : Event)]).Sublist more)) ∧
      t.bus = s.bus ∧ t.sorter = s.sorter ∧ t.totes = s.totes ∧
      t.port = s.port.answered ⟨tag, 50, .done,
        .aborted (s.lanes.at l).queue.length (decide ((s.lanes.at l).state ≠ .idle))⟩

/-- R55, R56, R9, R2, R3, R10: a presentation that every condition admits becomes an item. The number and the ticket are the
first free ones from the counters on. -/
def Obligations.PresentedIsAdmitted : Prop :=
  ∀ (s : State) (a : AnswerHead) (x : SlotId) (b : BankId) (n k : Nat), s.turnFor x a = true → x.role = .entry →
    (∀ ticket, (s.lanes.at x.lane).verdict ≠ .accept ticket) → (s.lanes.at x.lane).state = .opened →
    s.line.mode = .running → s.suspended = false → (s.lanes.at x.lane).queue.length < 6 → s.used + s.live < 256 →
    (s.slot x).state = .up → (s.slot ⟨x.lane, .laneEnd⟩).state = .up → s.activeBank = some b →
    s.issueNumber = some n → s.issueTicket x.lane = some k →
    s.item n = none ∧ (∃ j, n = counterAt 1 65535 s.items.nextNumber j ∧
      ∀ i, i < j → s.item (counterAt 1 65535 s.items.nextNumber i) ≠ none) ∧
    (∀ m it, s.item m = some it → it.lane = x.lane → it.ticket ≠ k) ∧
    (∃ j, k = counterAt 0 255 (s.lanes.at x.lane).nextTicket j ∧ ∀ i, i < j → ∃ e ∈ s.items.records.entries,
      e.2.lane = x.lane ∧ e.2.ticket = counterAt 0 255 (s.lanes.at x.lane).nextTicket i) ∧
    ∃ t it, exec (.presented a) s = .next t ∧ t.item n = some it ∧ (∀ m, m ≠ n → t.item m = s.item m) ∧
      it.lane = x.lane ∧ it.ticket = k ∧ it.parcel = (s.lanes.at x.lane).parcelCounter ∧ it.bank = b ∧
      it.created = s.line.clock ∧ it.carrier = none ∧ it.laps = 0 ∧ it.forced = false ∧ it.weight = none ∧
      it.pieces = [] ∧ it.tagState = .noTag ∧ it.loadedTime = none ∧ it.matched = none ∧
      it.tagStatus = (if (s.slot ⟨x.lane, .tag⟩).state = .up then .awaited else .missing) ∧
      it.scaleStatus = (if (s.slot ⟨x.lane, .scale⟩).state = .up then .awaited else .missing) ∧
      it.visionStatus = (if (s.slot ⟨x.lane, .vision⟩).state = .up then .awaited else .missing) ∧
      (((s.slot ⟨x.lane, .tag⟩).state = .up ∨ (s.slot ⟨x.lane, .scale⟩).state = .up ∨
          (s.slot ⟨x.lane, .vision⟩).state = .up) →
        it.state = .measuring ∧ it.grade = none ∧ it.decidedTime = none ∧ it.result = none ∧ it.category = none ∧
          it.route = none ∧ it.expectedPieces = 1 ∧ it.penalty = 0 ∧ it.cap = .noCap ∧ it.quarantine = false ∧
          it.failed = [] ∧ it.shadow = none ∧ t = (s.heard x).createItem x.lane n k ∧ t.queue = s.queue) ∧
      (((s.slot ⟨x.lane, .tag⟩).state ≠ .up ∧ (s.slot ⟨x.lane, .scale⟩).state ≠ .up ∧
          (s.slot ⟨x.lane, .vision⟩).state ≠ .up) →
        it.state = .decided ∧ it.result = some .unread ∧ it.category = some 31 ∧
          it.decidedTime = some s.line.clock ∧ it.grade.isSome = true ∧ it.route.isSome = true ∧
          t = ((s.heard x).createItem x.lane n k).decideItem n ∧ s.eventsGrow t) ∧
      t.items.nextNumber = (if n < 65535 then n + 1 else 1) ∧
      t.lanes.at x.lane = { s.lanes.at x.lane with
        queue := (s.lanes.at x.lane).queue ++ [n], nextTicket := if k < 255 then k + 1 else 0, verdict := .accept k
        timer := if it.grade = none then (s.lanes.at x.lane).timer
          else (s.lanes.at x.lane).timer.filter fun w => decide (w.item ≠ n) } ∧
      (∀ l, l ≠ x.lane → t.lanes.at l = s.lanes.at l) ∧
      t.plan.banks.at b = { s.plan.banks.at b with bound := (s.plan.banks.at b).bound + 1 } ∧
      (∀ c, c ≠ b → t.plan.banks.at c = s.plan.banks.at c) ∧ t.plan.shadow = s.plan.shadow ∧
      t.returns = s.returns ∧ t.line = s.line ∧ t.sorter = s.sorter ∧ t.totes = s.totes ∧ t.port = s.port ∧
      t.bus = (s.heard x).bus

/-- R55, R56: the refusals of a presentation, in their order, and a presentation while an accept waits to be carried. -/
def Obligations.PresentedIsRefused : Prop :=
  ∀ (s : State) (a : AnswerHead) (x : SlotId), s.turnFor x a = true → x.role = .entry →
    (∀ ticket, (s.lanes.at x.lane).verdict = .accept ticket → exec (.presented a) s = .next (s.heard x)) ∧
    ((∀ ticket, (s.lanes.at x.lane).verdict ≠ .accept ticket) → ∀ reason : EntryRefusal,
      ((s.lanes.at x.lane).state ≠ .opened ∧ reason = .notOpen) ∨
      ((s.lanes.at x.lane).state = .opened ∧ (s.line.mode ≠ .running ∨ s.suspended = true) ∧ reason = .line) ∨
      ((s.lanes.at x.lane).state = .opened ∧ s.line.mode = .running ∧ s.suspended = false ∧
        6 ≤ (s.lanes.at x.lane).queue.length ∧ reason = .queueFull) ∨
      ((s.lanes.at x.lane).state = .opened ∧ s.line.mode = .running ∧ s.suspended = false ∧
        (s.lanes.at x.lane).queue.length < 6 ∧ 256 ≤ s.used + s.live ∧ reason = .eventsFull) ∨
      ((s.lanes.at x.lane).state = .opened ∧ s.line.mode = .running ∧ s.suspended = false ∧
        (s.lanes.at x.lane).queue.length < 6 ∧ s.used + s.live < 256 ∧ (s.slot x).state ≠ .up ∧ reason = .entryDown) ∨
      ((s.lanes.at x.lane).state = .opened ∧ s.line.mode = .running ∧ s.suspended = false ∧
        (s.lanes.at x.lane).queue.length < 6 ∧ s.used + s.live < 256 ∧ (s.slot x).state = .up ∧
        (s.slot ⟨x.lane, .laneEnd⟩).state ≠ .up ∧ reason = .endDown) →
      exec (.presented a) s = .next ((s.heard x).modLane x.lane fun y => { y with verdict := .refuse reason }))

/-- R58, R60, R61: an AT END answer for the head item, and one for a ticket that no queued item carries. R59: an AT END
answer for an item behind the head: every item ahead of it is retired SKIPPED, from the head backwards, and the item then
arrives. -/
def Obligations.AtEndArrivesSkipsOrIsAnOrphan : Prop :=
  (∀ (s : State) (a : AnswerHead) (x : SlotId), s.turnFor x a = true → x.role = .laneEnd →
    (∀ n rest it, (s.lanes.at x.lane).queue = n :: rest → s.item n = some it → it.ticket = a.ticket →
      (it.state = .measuring → exec (.atEnd a) s =
        .next (((s.heard x).modItem n fun y => { y with state := .waiting }).modLane x.lane fun y =>
          { y with timer := some ⟨1000 * s.line.decisionWait, n⟩ })) ∧
      (it.state = .decided → exec (.atEnd a) s = .next ((s.heard x).modItem n fun y => { y with state := .ready })) ∧
      (it.state = .waiting ∨ it.state = .ready → exec (.atEnd a) s = .next (s.heard x))) ∧
    ((∀ n ∈ (s.lanes.at x.lane).queue, ∀ it, s.item n = some it → it.ticket ≠ a.ticket) →
      exec (.atEnd a) s = .next ((s.heard x).offer 0 (.stationOrphan x a.ticket .atEnd)))) ∧
  (∀ (s : State) (a : AnswerHead) (x : SlotId) (ahead rest : List Nat) (n : Nat) (it : Item), s.turnFor x a = true →
    x.role = .laneEnd → s.itemsPlaced = true → (s.lanes.at x.lane).queue = ahead ++ n :: rest →
    (∀ m ∈ ahead, ∀ y, s.item m = some y → y.ticket ≠ a.ticket) → s.item n = some it → it.ticket = a.ticket →
    ∃ t, exec (.atEnd a) s = .next t ∧ (t.lanes.at x.lane).queue = n :: rest ∧ (∀ m ∈ ahead, t.item m = none) ∧
      (∀ m, m ∉ ahead → m ≠ n → t.item m = s.item m) ∧
      (it.state = .measuring → (t.lanes.at x.lane).timer = some ⟨1000 * s.line.decisionWait, n⟩) ∧
      (it.state ≠ .measuring →
        (t.lanes.at x.lane).timer = (s.lanes.at x.lane).timer.filter fun w => decide (w.item ∉ ahead)) ∧
      t.item n = some { it with state := match it.state with
        | .measuring => .waiting
        | .decided => .ready
        | y => y } ∧
      (∃ more, t.queue.events = s.queue.events ++ more ∧
        (ahead.filterMap fun m => (s.item m).map fun y =>
          (⟨s.line.clock, m, .itemWithdrawn .skipped y.finalFields⟩ : Event)).Sublist more) ∧
      (∀ l, l ≠ x.lane → t.lanes.at l = s.lanes.at l) ∧ t.sorter = s.sorter ∧ t.totes = s.totes ∧ t.port = s.port ∧
      t.bus = (s.heard x).bus)

/-! ### Timers -/

/-- R62, R116, R129: a decision-wait timer that can expire decides its undecided item at once, and only stops for a decided
one. R30, R29: the expiry of an EXPECTED placeholder's timer. After the mark and
MANIFEST OVERDUE the undecided items of its parcel are re-tested (R115; State.retest as LoadReturnCreatesOrFills gives it).
The model's choice (log entry 5): an expiry acts only while its timer is there and can run out; otherwise it changes
nothing. -/
def Obligations.TimerExpiries : Prop :=
  (∀ (s : State) (l : LaneId) (w : WaitTimer) (it : Item), (s.lanes.at l).timer = some w →
    (s.suspended = false ∨ w.remaining = 0) → s.item w.item = some it →
    (it.decided = true → exec (.decisionWaitExpiry l) s = .next (s.modLane l fun x => { x with timer := none })) ∧
    (it.decided = false → ∃ t d, exec (.decisionWaitExpiry l) s = .next t ∧
      t = State.decideItem ((s.modLane l fun x => { x with timer := none }).modItem w.item fun y => { y with
        tagStatus := if y.tagStatus = .awaited then .missing else y.tagStatus
        scaleStatus := if y.scaleStatus = .awaited then .missing else y.scaleStatus
        visionStatus := if y.visionStatus = .awaited then .missing else y.visionStatus }) w.item ∧
      t.item w.item = some d ∧
      d.decided = true ∧ d.route.isSome = true ∧ d.category.isSome = true ∧ d.decidedTime = some s.line.clock ∧
      (it.state = .waiting → d.state = .ready) ∧ (it.state = .measuring → d.state = .decided) ∧
      d.tagStatus = (if it.tagStatus = .awaited then .missing else it.tagStatus) ∧
      d.scaleStatus = (if it.scaleStatus = .awaited then .missing else it.scaleStatus) ∧
      d.visionStatus = (if it.visionStatus = .awaited then .missing else it.visionStatus) ∧
      d.result = some (s.searchFor it).1 ∧ d.tagState = it.tagState ∧ d.weight = it.weight ∧ d.pieces = it.pieces ∧
      d.laps = it.laps ∧ d.carrier = it.carrier ∧ d.forced = it.forced ∧ d.bank = it.bank ∧
      (∀ m, m ≠ w.item → t.item m = s.item m) ∧ (t.lanes.at l).timer = none ∧
      (∀ m, (t.lanes.at m).queue = (s.lanes.at m).queue) ∧ s.eventsGrow t ∧ t.bus = s.bus ∧ t.plan = s.plan ∧
      t.sorter = s.sorter ∧ t.totes = s.totes ∧ t.port = s.port)) ∧
  (∀ (s : State) (n k : Nat) (r : Ra) (l : LaneId), s.ra n = some r → r.state = .expected → r.timer = some k →
    r.boundLane = some l → (s.suspended = false ∨ k = 0) →
    (s.anyUndecided l = false → exec (.manifestWaitExpiry n) s =
      .next ((s.modRa n fun x => { x with state := .overdue, timer := none }).offer 0
        (.manifestOverdue n l (s.lanes.at l).parcelCounter r.account r.label))) ∧
    (∀ v : State, v = (s.modRa n fun x => { x with state := .overdue, timer := none }).offer 0
        (.manifestOverdue n l (s.lanes.at l).parcelCounter r.account r.label) →
      exec (.manifestWaitExpiry n) s = .next (v.retest l)) ∧
    ∃ t, exec (.manifestWaitExpiry n) s = .next t ∧ s.eventsGrow t ∧
      (∀ m it, s.item m = some it → it.decided = true → t.item m = some it) ∧
      (∀ m ∈ (s.lanes.at l).queue, ∀ it, s.item m = some it → s.undecidedOf l it = true → it.measured = true →
        (s.modRa n fun x => { x with state := .overdue, timer := none }).raSettled it = true →
        ∃ d, t.item m = some d ∧ d.decided = true) ∧
      t.bus = s.bus ∧ t.plan = s.plan ∧ t.sorter = s.sorter ∧ t.totes = s.totes ∧ t.port = s.port) ∧
  (∀ s : State,
    (∀ l, (s.lanes.at l).timer = none → exec (.decisionWaitExpiry l) s = .next s) ∧
    (∀ l w, (s.lanes.at l).timer = some w → s.suspended = true → w.remaining ≠ 0 →
      exec (.decisionWaitExpiry l) s = .next s) ∧
    (∀ n, (s.ra n = none ∨ ∃ r, s.ra n = some r ∧ r.timer = none) → exec (.manifestWaitExpiry n) s = .next s))

/-! ### The Station Bus -/

/-- R71, R72, R73: the roster requests that are taken, and the tests of those that are refused, in their order. R50: when a lane
is usable. -/
def Obligations.RosterRequests : Prop :=
  (∀ (s : State) (tag lane : Nat) (role : Role) (l : LaneId), s.serving = false → laneOf lane = some l →
    (∀ address, 1 ≤ address → address ≤ 62 → (s.lanes.at l).state = .idle → (s.slot ⟨l, role⟩).state = .vacant →
      (∀ x, (s.slot x).address ≠ some address) → ∀ u : State, u = s.modSlot ⟨l, role⟩ (fun _ =>
        { state := .up, address := some address, score := 0, maxScore := 0, lastValid := none, outcome := none }) →
      exec (.enrolStation tag lane (.known role) address) s =
        .next (u.answered tag 64 (.enrolled ⟨l, role⟩ (u.usable l)))) ∧
    ((s.lanes.at l).state = .idle → (s.slot ⟨l, role⟩).state ≠ .vacant →
      exec (.retireStation tag lane (.known role)) s = .next ((s.modSlot ⟨l, role⟩ fun _ =>
        { state := .vacant, address := none, score := 0, maxScore := 0, lastValid := none,
          outcome := none }).answered tag 65 .headOnly)) ∧
    exec (.readStation tag lane (.known role)) s =
      .next ((s.modSlot ⟨l, role⟩ fun x => { x with maxScore := x.score }).answered tag 66 (.station
        { state := (s.slot ⟨l, role⟩).state, address := (s.slot ⟨l, role⟩).address,
          score := (s.slot ⟨l, role⟩).score, maxScore := (s.slot ⟨l, role⟩).maxScore,
          lastValid := (s.slot ⟨l, role⟩).lastValid, sweepNumber := s.bus.number, sweepPeriod := s.line.sweepPeriod,
          downThreshold := s.line.downThreshold })) ∧
    ((s.lanes.at l).state ≠ .idle →
      (∀ address, 1 ≤ address → address ≤ 62 → exec (.enrolStation tag lane (.known role) address) s =
        .next (s.answeredRefused tag 64 .inUse .headOnly)) ∧
      ((s.slot ⟨l, role⟩).state ≠ .vacant → exec (.retireStation tag lane (.known role)) s =
        .next (s.answeredRefused tag 65 .inUse .headOnly))) ∧
    ((s.lanes.at l).state = .idle → ∀ address, 1 ≤ address → address ≤ 62 →
      ((s.slot ⟨l, role⟩).state ≠ .vacant → exec (.enrolStation tag lane (.known role) address) s =
        .next (s.answeredRefused tag 64 .inUse .headOnly)) ∧
      ((s.slot ⟨l, role⟩).state = .vacant → (∃ x, (s.slot x).address = some address) →
        exec (.enrolStation tag lane (.known role) address) s =
          .next (s.answeredRefused tag 64 .duplicate .headOnly))) ∧
    ((s.slot ⟨l, role⟩).state = .vacant → exec (.retireStation tag lane (.known role)) s =
      .next (s.answeredRefused tag 65 .notFound .headOnly))) ∧
  (∀ (s : State) (tag lane address : Nat) (role : Coded Role), s.serving = false →
    ((laneOf lane = none ∨ (∃ code, role = .beyond code) ∨ address = 0 ∨ 62 < address) →
      exec (.enrolStation tag lane role address) s = .next (s.answeredRefused tag 64 .outOfRange .headOnly)) ∧
    ((laneOf lane = none ∨ ∃ code, role = .beyond code) →
      exec (.retireStation tag lane role) s = .next (s.answeredRefused tag 65 .outOfRange .headOnly) ∧
      exec (.readStation tag lane role) s = .next (s.answeredRefused tag 66 .outOfRange .headOnly))) ∧
  ∀ (s : State) (l : LaneId), s.usable l = true ↔ ∀ role, (s.slot ⟨l, role⟩).state ≠ .vacant

/-- R74, R75, R56: with no sweep open, the sweep timer begins one if a slot is enrolled; its frame takes the roll, every lane's
pending verdict and the lamps. With no slot enrolled the timer only starts again. -/
def Obligations.SweepTimerBeginsASweep : Prop :=
  ∀ s : State, s.bus.sweep = none →
    ((∀ x, (s.slot x).state = .vacant) →
      exec .sweepTimer s = .next { s with bus := { s.bus with timer := s.line.sweepPeriod } }) ∧
    (∀ y, (s.slot y).state ≠ .vacant → ∃ t w, exec .sweepTimer s = .next t ∧ t.bus.sweep = some w ∧
      w.roll = allSlots.filter (fun x => decide ((s.slot x).state ≠ .vacant)) ∧
      w.addresses = w.roll.map (fun x => ((s.slot x).address).getD 0) ∧
      (∀ l, w.verdicts.at l = (s.lanes.at l).verdict) ∧
      (∀ l, w.lamps.at l = { state := (s.lanes.at l).state, suspended := s.suspended }) ∧ w.phase = .sendingFrame ∧
      t.bus.number = (if s.bus.number < 255 then s.bus.number + 1 else 0) ∧ t.bus.timer = s.line.sweepPeriod ∧
      (∀ x, t.slot x = { s.slot x with outcome := if (s.slot x).state ≠ .vacant then some .silent else none }) ∧
      (∀ l, t.lanes.at l = { s.lanes.at l with verdict := .none }) ∧
      t.items = s.items ∧ t.returns = s.returns ∧ t.queue = s.queue ∧ t.line = s.line ∧ t.plan = s.plan ∧
      t.sorter = s.sorter ∧ t.totes = s.totes ∧ t.port = s.port)

/-- R79, R80, R81: the close of a sweep scores each slot of its roll by its outcome, in roster order, and tests its state; every
other slot keeps its score and state. R80, R81: the scoring of one slot, with the STATION DOWN or STATION UP it offers. R82,
R115: when a measurement slot goes DOWN, each undecided item of its lane that awaits its role has the role set MISSING, and is
then decided if its measurements and its RA question are settled. -/
def Obligations.SweepCloseScoresTheRoll : Prop :=
  (∀ (s : State) (w : Sweep), s.bus.sweep = some w → ∃ t, exec .sweepTimer s = .next t ∧ s.eventsGrow t ∧
    (∀ x o, (s.slot x).outcome = some o → ∀ score : Nat,
      score = (s.slot x).newScore o →
      (t.slot x).score = score ∧ (t.slot x).maxScore = max (s.slot x).maxScore score ∧
      (t.slot x).address = (s.slot x).address ∧ (t.slot x).lastValid = (s.slot x).lastValid ∧
      (t.slot x).state =
        (if (s.slot x).state = .up ∧ s.line.downThreshold ≤ score then .down
        else if (s.slot x).state = .down ∧ score = 0 then .up else (s.slot x).state)) ∧
    (∀ x, (s.slot x).outcome = none → (t.slot x).score = (s.slot x).score ∧
      (t.slot x).maxScore = (s.slot x).maxScore ∧ (t.slot x).state = (s.slot x).state ∧
      (t.slot x).address = (s.slot x).address) ∧
    t.sorter = s.sorter ∧ t.totes = s.totes ∧ t.plan = s.plan ∧ t.port = s.port ∧ t.line.hold = s.line.hold) ∧
  (∀ (s : State) (w : Sweep) (x : SlotId) (o : SweepOutcome), s.bus.sweep = some w → (s.slot x).outcome = some o →
    (x.role = .tag ∨ x.role = .scale ∨ x.role = .vision) → (s.slot x).state = .up → o ≠ .valid →
    s.line.downThreshold ≤ (s.slot x).newScore o →
    ∃ t, exec .sweepTimer s = .next t ∧ (t.slot x).state = .down ∧
      ∀ n ∈ (s.lanes.at x.lane).queue, ∀ it, s.item n = some it → it.lane = x.lane → it.decided = false →
        it.status x.role = .awaited → ∃ d, t.item n = some d ∧ d.status x.role = .missing) ∧
  (∀ (s u : State) (w : Sweep), s.bus.sweep = some w → u = allSlots.foldl State.scoreSlot s →
    exec .sweepTimer s = exec .sweepTimer { u with bus := { u.bus with sweep := none } }) ∧
  (∀ (s : State) (x : SlotId),
    ((s.slot x).outcome = none → s.scoreSlot x = s) ∧
    ∀ o score, (s.slot x).outcome = some o → score = (s.slot x).newScore o →
      ((s.slot x).state = .up → s.line.downThreshold ≤ score → ∀ a, (s.slot x).address = some a → ∀ u : State,
        u = (s.modSlot x fun y => { y with
          state := .down, score := score, maxScore := max y.maxScore score, outcome := none }).offer 0
            (.stationDown x a score s.bus.number) →
        ((x.role = .entry ∨ x.role = .laneEnd) → s.scoreSlot x = u) ∧
        ((x.role = .tag ∨ x.role = .scale ∨ x.role = .vision) →
          s.scoreSlot x = (s.lanes.at x.lane).queue.foldl (fun v n => v.loseRole x.role n) u)) ∧
      ((s.slot x).state = .down → score = 0 → ∀ a, (s.slot x).address = some a →
        s.scoreSlot x = State.offer (s.modSlot x fun y => { y with state := .up, score := 0, outcome := none }) 0
            (.stationUp x a (s.slot x).maxScore s.bus.number)) ∧
      (¬ ((s.slot x).state = .up ∧ s.line.downThreshold ≤ score) → ¬ ((s.slot x).state = .down ∧ score = 0) →
        s.scoreSlot x = s.modSlot x fun y => { y with
          score := score, maxScore := max y.maxScore score, outcome := none })) ∧
  (∀ (s : State) (role : Role) (n : Nat),
    (s.item n = none → s.loseRole role n = s) ∧
    ∀ it, s.item n = some it →
      ((it.decided = true ∨ it.status role ≠ .awaited) → s.loseRole role n = s) ∧
      (it.decided = false → it.status role = .awaited → ∀ (lose : Item → Item) (u : State),
        ((role = .tag ∧ lose = fun y => { y with tagStatus := .missing }) ∨
          (role = .scale ∧ lose = fun y => { y with scaleStatus := .missing }) ∨
          (role = .vision ∧ lose = fun y => { y with visionStatus := .missing })) →
        u = s.modItem n lose →
        ((lose it).tagStatus ≠ .awaited → (lose it).scaleStatus ≠ .awaited → (lose it).visionStatus ≠ .awaited →
          s.raSettled it = true → s.loseRole role n = u.decideItem n) ∧
        (((lose it).tagStatus = .awaited ∨ (lose it).scaleStatus = .awaited ∨ (lose it).visionStatus = .awaited ∨
          s.raSettled it = false) → s.loseRole role n = u)))

/-- R76, R78: how a sweep's turns pass. R76, R77: an answer in a turn is garbled by its address, its echo, a kind its slot's role
does not send, or data out of range. R76: an answer outside every turn of the open sweep is discarded, in whatever form
it comes. -/
def Obligations.TurnsOfASweep : Prop :=
  (∀ (s : State) (w : Sweep), s.bus.sweep = some w →
    (w.phase = .sendingFrame → w.roll ≠ [] →
      exec .sweepFrameSent s = .next { s with bus := { s.bus with sweep := some { w with phase := .turn 0 } } }) ∧
    ∀ k x, w.phase = .turn k → w.roll[k]? = some x →
      ∀ u : State, u = { s with bus := { s.bus with sweep := some { w with
          phase := if k + 1 < w.roll.length then .turn (k + 1) else .turnsOver } } } →
      exec (.turnTimeout false) s = .next u ∧
      ((s.slot x).outcome.isSome = true →
        exec (.turnTimeout true) s = .next (u.modSlot x fun y => { y with outcome := some .garbled }) ∧
        exec .garbledAnswer s = .next (u.modSlot x fun y => { y with outcome := some .garbled }) ∧
        (∀ a, s.turnFor x a = true → exec (.nothing a) s =
          .next (u.modSlot x fun y => { y with outcome := some .valid, lastValid := some s.line.clock })) ∧
        ∀ (a : AnswerHead) (c : Instr), answersWith a c →
          (((s.slot x).address ≠ some a.address ∨ a.echo ≠ s.bus.number) ∨
            (x.role ≠ .entry ∧ (c = .presented a ∨ c = .parcelDone a)) ∨ (x.role ≠ .laneEnd ∧ c = .atEnd a) ∨
            (∃ codes, c = .tagReading a codes ∧
              (x.role ≠ .tag ∨ 4 < codes.length ∨ ∃ e ∈ codes, ∃ code, e.2 = .beyond code)) ∨
            (∃ grams, c = .weight a grams ∧ (x.role ≠ .scale ∨ 30000 < grams)) ∨
            ∃ pieces : List PieceScores, c = .vision a pieces ∧ (x.role ≠ .vision ∨ pieces = [] ∨ 8 < pieces.length ∨
              ∃ p ∈ pieces, 100 < p.stain ∨ 100 < p.tear ∨ 100 < p.wear ∨ 100 < p.crease ∨ 1 < p.swingTag ∨
                100 < p.colour)) →
          exec c s = .next (u.modSlot x fun y => { y with outcome := some .garbled })) ∧
      ((s.slot x).outcome = none → exec (.turnTimeout true) s = .next u ∧ exec .garbledAnswer s = .next u ∧
        ∀ (a : AnswerHead) (c : Instr), answersWith a c → exec c s = .next u)) ∧
  (∀ s : State, exec .answerOutsideTurn s = .next s ∧
    (s.currentTurn = none → ∀ a,
      exec (.nothing a) s = .next s ∧ exec (.presented a) s = .next s ∧ exec (.parcelDone a) s = .next s ∧
      exec (.atEnd a) s = .next s ∧ (∀ codes, exec (.tagReading a codes) s = .next s) ∧
      (∀ grams, exec (.weight a grams) s = .next s) ∧ (∀ pieces, exec (.vision a pieces) s = .next s) ∧
      exec .garbledAnswer s = .next s))

/-- R84 to R86: a valid measurement is written into the undecided item that awaits its role. Here another role is still
awaited, so that the item is not decided with it. R84, R113 to R115: the delivery that settles the measurements of an item
decides it, when its RA question is settled once the measurement is written. -/
def Obligations.MeasurementsAreDelivered : Prop :=
  (∀ (s : State) (a : AnswerHead) (x : SlotId) (n : Nat) (it : Item), s.turnFor x a = true → s.items.records.wf = true →
    s.itemByTicket x.lane a.ticket = some (n, it) → it.decided = false → it.status x.role = .awaited →
    (x.role = .tag → (it.scaleStatus = .awaited ∨ it.visionStatus = .awaited) →
      (exec (.tagReading a []) s =
        .next ((s.heard x).modItem n fun y => { y with tagState := .noTag, tagStatus := .taken })) ∧
      (∀ c, exec (.tagReading a [(c, .known .good)]) s =
        .next ((s.heard x).modItem n fun y => { y with tagState := .read c, tagStatus := .taken })) ∧
      (∀ c, exec (.tagReading a [(c, .known .bad)]) s =
        .next ((s.heard x).modItem n fun y => { y with tagState := .corrupt, tagStatus := .taken })) ∧
      ∀ codes : List (TagCode × Coded CheckResult), 2 ≤ codes.length → codes.length ≤ 4 →
        (∀ c ∈ codes, ∃ r, c.2 = .known r) → exec (.tagReading a codes) s =
          .next ((s.heard x).modItem n fun y => { y with tagState := .conflict, tagStatus := .taken })) ∧
    (x.role = .scale → (it.tagStatus = .awaited ∨ it.visionStatus = .awaited) → ∀ grams, grams ≤ 30000 →
      exec (.weight a grams) s =
        .next ((s.heard x).modItem n fun y => { y with weight := some grams, scaleStatus := .taken })) ∧
    (x.role = .vision → (it.tagStatus = .awaited ∨ it.scaleStatus = .awaited) → ∀ pieces : List PieceScores,
      1 ≤ pieces.length → pieces.length ≤ 8 → (∀ p ∈ pieces, p.stain ≤ 100 ∧ p.tear ≤ 100 ∧ p.wear ≤ 100 ∧
        p.crease ≤ 100 ∧ p.swingTag ≤ 1 ∧ p.colour ≤ 100) →
      exec (.vision a pieces) s =
        .next ((s.heard x).modItem n fun y => { y with pieces := pieces, visionStatus := .taken }))) ∧
  (∀ (s : State) (a : AnswerHead) (x : SlotId) (n : Nat) (it w : Item) (c : Instr) (kind : ReportKind),
    s.turnFor x a = true → s.items.records.wf = true → s.itemByTicket x.lane a.ticket = some (n, it) →
    it.decided = false → it.status x.role = .awaited → reportsMeasurement a x.role kind c → w = it.measuredBy c →
    w.tagStatus ≠ .awaited → w.scaleStatus ≠ .awaited → w.visionStatus ≠ .awaited →
    (s.raSettled w = true → ∃ t d, exec c s = .next t ∧
      t = State.decideItem ((s.heard x).modItem n fun _ => w) n ∧ t.item n = some d ∧ d.decided = true ∧
      d.tagState = w.tagState ∧ d.weight = w.weight ∧ d.pieces = w.pieces ∧ d.tagStatus = w.tagStatus ∧
      d.scaleStatus = w.scaleStatus ∧ d.visionStatus = w.visionStatus ∧ d.result = some (s.searchFor w).1 ∧
      d.decidedTime = some s.line.clock ∧ (it.state = .measuring → d.state = .decided) ∧
      (it.state = .waiting → d.state = .ready) ∧ (∀ m, m ≠ n → t.item m = s.item m) ∧ s.eventsGrow t) ∧
    (s.raSettled w = false → exec c s = .next ((s.heard x).modItem n fun _ => w)))

/-- R87, R88: a measurement that cannot be delivered is late, and one whose ticket no live record carries is an orphan. -/
def Obligations.LateMeasurementsAndOrphans : Prop :=
  ∀ (s : State) (a : AnswerHead) (x : SlotId), s.turnFor x a = true →
    ∀ (c : Instr) (kind : ReportKind), reportsMeasurement a x.role kind c →
    (s.itemByTicket x.lane a.ticket = none → exec c s = .next ((s.heard x).offer 0 (.stationOrphan x a.ticket kind))) ∧
    ∀ n it, s.itemByTicket x.lane a.ticket = some (n, it) →
      (it.decided = true → exec c s = .next ((s.heard x).offer n (.lateMeasurement x a.ticket kind .decided))) ∧
      (it.decided = false → it.status x.role = .missing →
        exec c s = .next ((s.heard x).offer n (.lateMeasurement x a.ticket kind .missing))) ∧
      (it.decided = false → it.status x.role = .taken →
        exec c s = .next ((s.heard x).offer n (.lateMeasurement x a.ticket kind .taken)))

/-! ### The match and the grade -/

/-- R39, R41, R42: where the search for a READ tag code ends, over the lines in search order: the RAs in binding order, and each
RA's lines in index order. R39, R40, R43, R44: what a match searches and what it returns. R45: the count changes of a match, by
its result. -/
def Obligations.TheMatchSearchesReturnsAndCounts : Prop :=
  (∀ (lines : List Found) (placeholder : Bool) (c : TagCode),
    let unmarked := fun f : Found => (∃ t ∈ f.line.tags, t.code = c ∧ t.received = false) ∧ f.line.received < f.line.quantity
    let marked := fun f : Found => ∃ t ∈ f.line.tags, t.code = c ∧ t.received = true
    let room := fun f : Found => f.line.sku = c.sku ∧ f.line.received < f.line.quantity
    (∀ before f after, lines = before ++ f :: after → unmarked f → (∀ g ∈ before, ¬ unmarked g) →
      findMatch lines placeholder c = (.exact, some f)) ∧
    ((∀ g ∈ lines, ¬ unmarked g) →
      (∀ before f after, lines = before ++ f :: after → marked f → (∀ g ∈ before, ¬ marked g) →
        findMatch lines placeholder c = (.repeated, some f)) ∧
      ((∀ g ∈ lines, ¬ marked g) →
        (∀ before f after, lines = before ++ f :: after → room f → (∀ g ∈ before, ¬ room g) →
          findMatch lines placeholder c = (if f.line.tags = [] then .skuOnly else .unlisted, some f)) ∧
        ((∀ g ∈ lines, ¬ room g) →
          (∀ before f after, lines = before ++ f :: after → f.line.sku = c.sku → (∀ g ∈ before, g.line.sku ≠ c.sku) →
            findMatch lines placeholder c = (.over, some f)) ∧
          ((∀ g ∈ lines, g.line.sku ≠ c.sku) →
            findMatch lines placeholder c = (if placeholder then .noReturn else .stray, none)))))) ∧
  ((∀ (s : State) (it : Item), (it.tagState = .noTag ∨ it.tagState = .corrupt ∨ it.tagState = .conflict) →
    s.searchFor it = (.unread, none)) ∧
  (∀ (s : State) (it : Item) (c : TagCode), it.tagState = .read c →
    ∀ r f, findMatch (searchLines (((s.lanes.at it.lane).boundRas.filterMap fun n =>
        (s.ra n).map fun x => (n, x)).filter fun e => decide (e.2.state = .bound)))
      (((s.lanes.at it.lane).boundRas.filterMap fun n => s.ra n).any fun x =>
        decide (x.state = .expected) || decide (x.state = .overdue)) c = (r, f) →
    s.searchFor it = (if (r = .exact ∨ r = .skuOnly ∨ r = .unlisted) ∧ (f.map fun x => x.ra.mismatch) = some true
      then .staleLabel else r, f)) ∧
  (∀ (ras : List (Nat × Ra)), searchLines ras = ras.flatMap fun e => numberLines e.1 e.2 1 e.2.lines) ∧
  (∀ (number : Nat) (ra : Ra) (lines : List Line) (k : Nat), (numberLines number ra k lines).length = lines.length ∧
    ∀ (i : Nat) (l : Line), lines[i]? = some l →
      (numberLines number ra k lines)[i]? = some { number := number, ra := ra, index := k + i, line := l }) ∧
  (∀ r f, (r = .exact ∨ r = .skuOnly ∨ r = .unlisted ∨ r = .staleLabel) → matchReturn (r, some f) =
    { result := r, matched := some (f.number, f.index), category := f.line.category, pieces := some f.line.pieces,
      refWeight := some f.line.refWeight, reason := some f.ra.reason }) ∧
  (∀ r f, (r = .repeated ∨ r = .over) → matchReturn (r, some f) =
    { result := r, matched := none, category := f.line.category, pieces := some f.line.pieces,
      refWeight := some f.line.refWeight, reason := none }) ∧
  ∀ r, matchReturn (r, none) =
    { result := r, matched := none, category := 31, pieces := none, refWeight := none, reason := none }) ∧
  (∀ (s : State) (it : Item) (c : TagCode) (r : MatchResult) (f : Found), it.tagState = .read c → f.index ≠ 0 →
    (r = .exact → s.countFound it (r, some f) = s.modRa f.number fun x => { x with
      matched := x.matched + 1
      lines := x.lines.modify (f.index - 1) fun l => { l with
        received := l.received + 1
        tags := l.tags.map fun t => if t.code = c then { t with received := true } else t } }) ∧
    ((r = .skuOnly ∨ r = .unlisted) → s.countFound it (r, some f) = s.modRa f.number fun x => { x with
      matched := x.matched + 1, lines := x.lines.modify (f.index - 1) fun l => { l with received := l.received + 1 } }) ∧
    (r ≠ .exact → r ≠ .skuOnly → r ≠ .unlisted → s.countFound it (r, some f) = s) ∧
    s.countFound it (r, none) = s)

/-- R121, R122, R123: the value each source gives. R93, R124, R125: one evaluation of a check, and what its fail action
does. R120: the run of a list's entries, in order and with places counted on: an ITEM check once, a PIECE check once for each
expected piece. -/
def Obligations.SourceValuesAndEvaluations : Prop :=
  ((∀ (e : Evidence) (source : Source) (score : PieceScores → Nat), visionScore source = some score →
    (∀ k, k ≠ 0 → sourceValue e source k = (e.item.pieces[k - 1]?).map score) ∧
    (e.item.pieces = [] → sourceValue e source 0 = none) ∧
    (e.item.pieces ≠ [] → ∃ v, sourceValue e source 0 = some v ∧ (∃ p ∈ e.item.pieces, v = score p) ∧
      ((source = .stain ∨ source = .tear ∨ source = .wear ∨ source = .crease) → ∀ p ∈ e.item.pieces, score p ≤ v) ∧
      ((source = .swingTag ∨ source = .colour) → ∀ p ∈ e.item.pieces, v ≤ score p))) ∧
  (visionScore .stain = some PieceScores.stain ∧ visionScore .tear = some PieceScores.tear ∧
    visionScore .wear = some PieceScores.wear ∧ visionScore .crease = some PieceScores.crease ∧
    visionScore .swingTag = some PieceScores.swingTag ∧ visionScore .colour = some PieceScores.colour) ∧
  (∀ (e : Evidence) (k : Nat),
    (∀ w r, e.item.weight = some w → e.refWeight = some r → r ≠ 0 → sourceValue e .weightDeviation k =
      some (if 999 < (max w r - min w r) * 100 / r then 999 else (max w r - min w r) * 100 / r)) ∧
    (e.item.weight = none ∨ e.refWeight = none ∨ e.refWeight = some 0 → sourceValue e .weightDeviation k = none) ∧
    (e.item.tagStatus = .missing → sourceValue e .tagState k = none) ∧
    (e.item.tagStatus ≠ .missing → sourceValue e .tagState k = some (match e.item.tagState with
      | .read _ => 0
      | .noTag => 1
      | .corrupt => 2
      | .conflict => 3)) ∧
    (e.result = .exact → sourceValue e .matchResult k = some 0) ∧
    (e.result = .skuOnly → sourceValue e .matchResult k = some 1) ∧
    (e.result = .unlisted → sourceValue e .matchResult k = some 2) ∧
    (e.result = .unread → sourceValue e .matchResult k = none) ∧
    (e.item.visionStatus = .missing → sourceValue e .piecesShort k = none) ∧
    (e.item.visionStatus ≠ .missing →
      sourceValue e .piecesShort k = some (e.expected - e.item.pieces.length)) ∧
    sourceValue e .reason k = e.reason)) ∧
  ((∀ (t : Tally) (number place piece : Nat) (check : Check),
    (∀ v, (match check.limits with
        | .atMost l => v ≤ l
        | .atLeast l => l ≤ v
        | .within l h => l ≤ v ∧ v ≤ h
        | .equals l => v = l
        | .notEquals l => v ≠ l) → t.evaluate number place piece check (some v) = t) ∧
    (∀ v, ¬ (match check.limits with
        | .atMost l => v ≤ l
        | .atLeast l => l ≤ v
        | .within l h => l ≤ v ∧ v ≤ h
        | .equals l => v = l
        | .notEquals l => v ≠ l) →
      t.evaluate number place piece check (some v) =
        (t.act check.action).record ⟨number, place, piece, .value, some v, check.action⟩) ∧
    (check.missing = .pass → t.evaluate number place piece check none = t) ∧
    (check.missing = .fail → t.evaluate number place piece check none =
      (t.act check.action).record ⟨number, place, piece, .missing, none, check.action⟩) ∧
    (check.missing = .quarantine → t.evaluate number place piece check none =
      (Tally.record { t with quarantine := true } ⟨number, place, piece, .missing, none, .quarantine⟩))) ∧
  (∀ (t : Tally) (f : Failure),
    (t.failures.length < 8 → t.record f = { t with failures := t.failures ++ [f] }) ∧
    (8 ≤ t.failures.length → t.record f = t)) ∧
  ∀ (t : Tally) (n : Nat),
    t.act (.penalty n) = { t with penalty := if 65535 < t.penalty + n then 65535 else t.penalty + n } ∧
    t.act .capB = { t with cap := if t.cap = .noCap then .b else t.cap } ∧
    t.act .capC = { t with cap := if t.cap = .noCap ∨ t.cap = .b then .c else t.cap } ∧
    t.act .capD = { t with cap := .d } ∧ t.act .quarantine = { t with quarantine := true }) ∧
  (∀ (e : Evidence) (b : Bank) (place : Nat) (t : Tally), runEntries e b place [] t = t ∧
    ∀ number rest check, b.checks.lookup number = some check →
      (check.scope = .item → runEntries e b place (number :: rest) t =
        runEntries e b (place + 1) rest (t.evaluate number place 0 check (sourceValue e check.source 0))) ∧
      (check.scope = .piece → runEntries e b place (number :: rest) t =
        runEntries e b (place + 1) rest ((List.range e.expected).foldl
          (fun u k => u.evaluate number place (k + 1) check (sourceValue e check.source (k + 1))) t)))

/-- R126: the grade from the penalty sum, the cap and the quarantine mark of a list's run, as a decision writes it. -/
def Obligations.TheGradeFromTheList : Prop :=
  (∀ (t : Tally) (levels : Thresholds), ∃ base : Grade,
    (t.penalty ≤ levels.t1 → base = .a) ∧
    (levels.t1 < t.penalty → t.penalty ≤ levels.t2 → base = .b) ∧
    (levels.t1 < t.penalty → levels.t2 < t.penalty → t.penalty ≤ levels.t3 → base = .c) ∧
    (levels.t1 < t.penalty → levels.t2 < t.penalty → levels.t3 < t.penalty → base = .d) ∧
    (t.quarantine = true → t.grade levels = .q) ∧
    (t.quarantine = false → t.grade levels = (match t.cap with
      | .noCap => base
      | .b => if base = .a then .b else base
      | .c => if base = .a ∨ base = .b then .c else base
      | .d => .d))) ∧
  ∀ (s : State) (n : Nat) (it : Item) (p : Program) (list : List Nat) (levels : Thresholds) (m : MatchReturn),
    s.item n = some it → it.decided = false → m = matchReturn (s.searchFor it) →
    (m.result = .exact ∨ m.result = .skuOnly ∨ m.result = .unlisted ∨ m.result = .unread) →
    (s.plan.banks.at it.bank).programs.lookup m.category = some p →
    (s.plan.banks.at it.bank).lists.lookup p.list = some list →
    (s.plan.banks.at it.bank).thresholds = some levels →
    ∃ d, (s.decideItem n).item n = some d ∧ d.decided = true ∧
      d.grade = some ((runEntries ⟨it, m.pieces.getD p.pieces, m.result, m.refWeight, m.reason⟩
        (s.plan.banks.at it.bank) 1 list Tally.start).grade levels)

/-- R117 to R119, R127, R129: the record as a decision leaves it, for the results that are graded Q at once. R117, R126 to R129:
the record as a decision that runs a list leaves it, with the shadow grade. R45, R130, R131, R64: in both, what else the
decision does: the counts of its match, ITEM GRADED, CHECK FAILED for each recorded failure, and the lane's settlement test. -/
def Obligations.DecisionsGradedQAtOnce : Prop :=
  (∀ (s : State) (n : Nat) (it : Item) (m : MatchReturn) (p : Program) (cell : Dest), s.item n = some it →
    it.decided = false → (it.state = .measuring ∨ it.state = .waiting) → m = matchReturn (s.searchFor it) →
    (m.result = .repeated ∨ m.result = .over ∨ m.result = .stray ∨ m.result = .noReturn ∨ m.result = .staleLabel) →
    (s.plan.banks.at it.bank).programs.lookup m.category = some p →
    (s.plan.banks.at it.bank).map.lookup (16 + p.group) = some cell →
    ∀ d : Item, d = { it with
      result := some m.result, matched := m.matched, category := some m.category,
      expectedPieces := m.pieces.getD p.pieces, penalty := 0, cap := .noCap, quarantine := false, failed := [],
      grade := some .q, shadow := if s.shadowComputed = true then some .q else none,
      route := some (match cell with
        | .gate d => .tote d
        | .gateE => .exception .mapped)
      state := if it.state = .waiting then .ready else .decided, decidedTime := some s.line.clock } →
    (s.decideItem n).item n = some d ∧ s.decideItem n = s.decidedAs n it d []) ∧
  (∀ (s : State) (n : Nat) (it d : Item) (b : Bank) (m : MatchReturn) (p : Program) (list : List Nat) (levels : Thresholds)
    (e : Evidence) (t : Tally) (grade : Grade) (shadow : Option Grade) (cell : Dest), s.item n = some it →
    it.decided = false → (it.state = .measuring ∨ it.state = .waiting) → m = matchReturn (s.searchFor it) →
    (m.result = .exact ∨ m.result = .skuOnly ∨ m.result = .unlisted ∨ m.result = .unread) →
    b = s.plan.banks.at it.bank → b.programs.lookup m.category = some p → b.lists.lookup p.list = some list →
    b.thresholds = some levels → e = ⟨it, m.pieces.getD p.pieces, m.result, m.refWeight, m.reason⟩ →
    t = runEntries e b 1 list Tally.start → grade = t.grade levels →
    b.map.lookup (4 * gradePlace grade + p.group) = some cell →
    (¬ (s.plan.shadow = .on ∧ s.edit.state = .standby ∧ s.edit.valid = true) → shadow = none) →
    (s.plan.shadow = .on ∧ s.edit.state = .standby ∧ s.edit.valid = true → ∃ q other tiers,
      s.edit.programs.lookup m.category = some q ∧ s.edit.lists.lookup q.list = some other ∧
      s.edit.thresholds = some tiers ∧ shadow = some ((runEntries e s.edit 1 other Tally.start).grade tiers)) →
    d = { it with
      result := some m.result, matched := m.matched, category := some m.category, expectedPieces := e.expected,
      penalty := t.penalty, cap := t.cap, quarantine := t.quarantine, failed := t.failures.map fun f => f.check,
      grade := some grade, shadow := shadow,
      route := some (match cell with
        | .gate g => .tote g
        | .gateE => .exception .mapped)
      state := if it.state = .waiting then .ready else .decided, decidedTime := some s.line.clock } →
    (s.decideItem n).item n = some d ∧ s.decideItem n = s.decidedAs n it d t.failures)

/-! ### The Plan Store -/

/-- R99 to R102: the writes that are taken, on the edit bank. -/
def Obligations.PlanWritesGoToTheEditBank : Prop :=
  ∀ (s : State) (tag : Nat) (write : Bank → Bank) (u : State), s.serving = false → s.edit.state ≠ .draining →
    u = s.modBank s.editBank (fun b => { write b with
      valid := false, state := if b.state = .empty then .standby else b.state }) →
    (∀ number source scope test lower upper action missing, number ≤ 127 → (test = .within → lower ≤ upper) →
      (∀ k, action = .penalty k → 1 ≤ k ∧ k ≤ 255) →
      ∀ limits : Limits, limits = (match test with
        | .atMost => .atMost lower
        | .atLeast => .atLeast lower
        | .within => .within lower upper
        | .equals => .equals lower
        | .notEquals => .notEquals lower) →
      write = (fun b => { b with checks := b.checks.put number ⟨source, scope, limits, action, missing⟩ }) →
      exec (.writeCheck tag number ⟨.known source, .known scope, .known test, lower, upper, .known action,
        .known missing⟩) s = .next (u.answered tag 80 (.plan u.planReport))) ∧
    (∀ number entries, number ≤ 31 → 1 ≤ entries.length → entries.length ≤ 24 → (∀ c ∈ entries, c ≤ 127) →
      write = (fun b => { b with lists := b.lists.put number entries }) →
      exec (.writeList tag number entries) s = .next (u.answered tag 81 (.plan u.planReport))) ∧
    (∀ category list group nominal pieces, category ≤ 31 → list ≤ 31 → group ≤ 3 → 1 ≤ nominal → nominal ≤ 30000 →
      1 ≤ pieces → pieces ≤ 8 →
      write = (fun b => { b with programs := b.programs.put category ⟨list, group, nominal, pieces⟩ }) →
      exec (.writeProgram tag category list group nominal pieces) s =
        .next (u.answered tag 82 (.plan u.planReport))) ∧
    (∀ t1 t2 t3, t1 ≤ 65535 → t2 ≤ 65535 → t3 ≤ 65535 →
      write = (fun b => { b with thresholds := some ⟨t1, t2, t3⟩ }) →
      exec (.writeThresholds tag t1 t2 t3) s = .next (u.answered tag 83 (.plan u.planReport))) ∧
    (∀ cells : List (Nat × Nat), 1 ≤ cells.length → cells.length ≤ 20 → (∀ c ∈ cells, c.1 ≤ 19 ∧ c.2 ≤ 16) →
      write = (fun b =>
        { b with map := cells.foldl (fun m c => m.put c.1 (if c.2 = 16 then .gateE else .gate c.2)) b.map }) →
      exec (.writeMap tag cells) s = .next (u.answered tag 84 (.plan u.planReport)))

/-- R99 to R102, R104, R105: a DRAINING edit bank, and values outside their ranges. That a refusal carries the report of R97 too
is the model's reading (log entry 8). -/
def Obligations.PlanRequestsRefused : Prop :=
  ∀ (s : State) (tag : Nat), s.serving = false →
    (s.edit.state = .draining →
      (∀ number fields, exec (.writeCheck tag number fields) s =
        .next (s.answeredRefused tag 80 .bankBusy (.plan s.planReport))) ∧
      (∀ number entries, exec (.writeList tag number entries) s =
        .next (s.answeredRefused tag 81 .bankBusy (.plan s.planReport))) ∧
      (∀ category list group nominal pieces, exec (.writeProgram tag category list group nominal pieces) s =
        .next (s.answeredRefused tag 82 .bankBusy (.plan s.planReport))) ∧
      (∀ t1 t2 t3, exec (.writeThresholds tag t1 t2 t3) s =
        .next (s.answeredRefused tag 83 .bankBusy (.plan s.planReport))) ∧
      (∀ cells, exec (.writeMap tag cells) s = .next (s.answeredRefused tag 84 .bankBusy (.plan s.planReport))) ∧
      exec (.validatePlan tag) s = .next (s.answeredRefused tag 86 .bankBusy (.plan s.planReport)) ∧
      exec (.switchPlan tag) s = .next (s.answeredRefused tag 87 .bankBusy (.plan s.planReport))) ∧
    (s.edit.state ≠ .draining →
      (∀ number fields, (127 < number ∨ (∃ c, fields.source = .beyond c) ∨ (∃ c, fields.scope = .beyond c) ∨
          (∃ c, fields.test = .beyond c) ∨ (∃ c, fields.action = .beyond c) ∨ (∃ c, fields.missing = .beyond c) ∨
          fields.action = .known (.penalty 0) ∨ (fields.test = .known .within ∧ fields.upper < fields.lower)) →
        exec (.writeCheck tag number fields) s =
          .next (s.answeredRefused tag 80 .outOfRange (.plan s.planReport))) ∧
      (∀ number entries, (31 < number ∨ entries = [] ∨ 24 < entries.length ∨ ∃ c ∈ entries, 127 < c) →
        exec (.writeList tag number entries) s =
          .next (s.answeredRefused tag 81 .outOfRange (.plan s.planReport))) ∧
      (∀ category list group nominal pieces, (31 < category ∨ 31 < list ∨ 3 < group ∨ nominal = 0 ∨ 30000 < nominal ∨
          pieces = 0 ∨ 8 < pieces) →
        exec (.writeProgram tag category list group nominal pieces) s =
          .next (s.answeredRefused tag 82 .outOfRange (.plan s.planReport))) ∧
      (∀ cells : List (Nat × Nat), (cells = [] ∨ 20 < cells.length ∨ ∃ c ∈ cells, 19 < c.1 ∨ 16 < c.2) →
        exec (.writeMap tag cells) s = .next (s.answeredRefused tag 84 .outOfRange (.plan s.planReport))) ∧
      (s.edit.valid = false →
        exec (.switchPlan tag) s = .next (s.answeredRefused tag 87 .notValid (.plan s.planReport))))

/-- R103: CLEAR BANK. That a refusal carries the report of R97 too is the model's reading (log entry 8). -/
def Obligations.ClearBankEmptiesTheEditBank : Prop :=
  ∀ (s : State) (tag : Nat), s.serving = false →
    (s.edit.state = .draining →
      exec (.clearBank tag) s = .next (s.answeredRefused tag 85 .bankBusy (.plan s.planReport))) ∧
    (s.edit.state ≠ .draining → (s.planLawful = true → s.edit.bound = 0) ∧
      ∀ u : State, u = s.modBank s.editBank (fun b =>
        { checks := Table.empty, lists := Table.empty, programs := Table.empty, thresholds := none, map := Table.empty,
          state := .empty, valid := false, bound := b.bound }) →
      exec (.clearBank tag) s = .next (u.answered tag 85 (.plan u.planReport)) ∧
      ∀ again, exec (.switchPlan again) u = .next (u.answeredRefused again 87 .notValid (.plan u.planReport)))

/-- R104: VALIDATE PLAN finds the first fault, in the order of its tests, or none. That a failing run clears a VALID mark that
stood is the model's reading (log entry 8). -/
def Obligations.ValidatePlanFindsTheFirstFault : Prop :=
  ∀ (s : State) (tag : Nat) (b : Bank), s.serving = false → b = s.edit → b.state ≠ .draining →
    (b.programsOk → b.listsOk → b.scopesOk → b.levelsOk → (∀ k, k < 20 → b.map.has k = true) →
      ∀ u : State, u = s.modBank s.editBank (fun x => { x with valid := true }) →
        exec (.validatePlan tag) s = .next (u.answered tag 86 (.validated none u.planReport))) ∧
    ∀ u : State, u = s.modBank s.editBank (fun x => { x with valid := false }) →
      (∀ c, c < 32 → (∀ k, k < c → b.programOk k) → b.programs.lookup c = none →
        exec (.validatePlan tag) s = .next (u.answered tag 86 (.validated (some (.noProgram, c)) u.planReport))) ∧
      (∀ c p, c < 32 → (∀ k, k < c → b.programOk k) → b.programs.lookup c = some p → b.lists.has p.list = false →
        exec (.validatePlan tag) s = .next (u.answered tag 86 (.validated (some (.noList, c)) u.planReport))) ∧
      (b.programsOk → ∀ before e after, b.lists.entries = before ++ e :: after → (∀ x ∈ before, b.listOk x.2) →
        ¬ b.listOk e.2 →
        exec (.validatePlan tag) s = .next (u.answered tag 86 (.validated (some (.noCheck, e.1)) u.planReport))) ∧
      (b.programsOk → b.listsOk → ∀ before e after, b.checks.entries = before ++ e :: after →
        (∀ x ∈ before, scopeOk x.2) → ¬ scopeOk e.2 →
        exec (.validatePlan tag) s = .next (u.answered tag 86 (.validated (some (.badScope, e.1)) u.planReport))) ∧
      (b.programsOk → b.listsOk → b.scopesOk → ¬ b.levelsOk →
        exec (.validatePlan tag) s = .next (u.answered tag 86 (.validated (some (.thresholds, 0)) u.planReport))) ∧
      (b.programsOk → b.listsOk → b.scopesOk → b.levelsOk → ∀ c, c < 20 → (∀ k, k < c → b.map.has k = true) →
        b.map.has c = false →
        exec (.validatePlan tag) s = .next (u.answered tag 86 (.validated (some (.noMapCell, c)) u.planReport)))

/-- R105, R98, R108: SWITCH PLAN makes the edit bank ACTIVE; SET SHADOW writes the shadow setting. That a refusal carries the
report of R97 too is the model's reading (log entry 8). -/
def Obligations.SwitchPlanAndSetShadow : Prop :=
  ∀ (s : State) (tag : Nat), s.serving = false →
    (s.edit.state ≠ .draining → s.edit.valid = true →
      (∀ a, s.activeBank = some a → ∀ u v : State,
        u = (s.modBank a fun b => { b with state := if 0 < b.bound then .draining else .standby }).modBank s.editBank
          (fun b => { b with state := .active }) →
        v = u.offer 0 (.planSwitched s.editBank a (u.plan.banks.at a).state (u.plan.banks.at a).bound) →
        exec (.switchPlan tag) s = .next (v.answered tag 87 (.plan v.planReport)) ∧ v.activeBank = some s.editBank ∧
          v.editBank = a) ∧
      (s.activeBank = none → ∀ u v : State, u = s.modBank .b0 (fun b => { b with state := .active }) →
        v = u.offer 0 (.planSwitched .b0 .b1 (u.plan.banks.at .b1).state (u.plan.banks.at .b1).bound) →
        exec (.switchPlan tag) s = .next (v.answered tag 87 (.plan v.planReport)) ∧ v.editBank = .b1)) ∧
    (∀ v, ∀ u : State, u = { s with plan := { s.plan with shadow := v } } →
      exec (.setShadow tag (.known v)) s = .next (u.answered tag 88 (.shadow v
        (decide (v = .on ∧ s.edit.state = .standby ∧ s.edit.valid = true)) u.planReport))) ∧
    (∀ code, exec (.setShadow tag (.beyond code)) s =
      .next (s.answeredRefused tag 88 .outOfRange (.plan s.planReport))) ∧
    (∀ a, s.activeBank = some a → s.editBank = otherBank a) ∧ (s.activeBank = none → s.editBank = .b0)

/-! ### The sorter -/

/-- R134, R143, R145: what every pitch edge does to the ring, and what a pitch leaves of the other blocks. R144, R145: while
the line is suspended a pitch only moves the ring; two passages of carrier 0 without an index bring INDEX MISSING, and the
pause mark unless it is set. R134, R138, R140, R145: a pitch is its acts one after another, in some order: INDEX MISSING when
it is due and, unless the line is suspended, the merge and the gates whose items have come; that the suspension is read once for
all of them is the model's reading (log entry 7). R145: INDEX MISSING on a line that is not suspended pauses it. R145, R146: an
index edge aligns the tracker, clears the revolution count, or is a slip. -/
def Obligations.PitchAndIndexMoveTheRing : Prop :=
  (∀ s : State, ∃ t, exec .pitch s = .next t ∧ t.sorter.origin = s.sorter.pitched.origin ∧
    t.sorter.aligned = s.sorter.aligned ∧ t.sorter.revolution = s.sorter.pitched.revolution ∧ s.eventsGrow t ∧
    t.bus = s.bus ∧ t.port = s.port ∧ t.line.clock = s.line.clock ∧ t.line.hold = s.line.hold ∧
    t.items.nextNumber = s.items.nextNumber ∧ (∀ l, (t.lanes.at l).parcelCounter = (s.lanes.at l).parcelCounter) ∧
    (∀ l, (t.lanes.at l).nextTicket = (s.lanes.at l).nextTicket)) ∧
  (∀ (s u : State), s.suspended = true → u = { s with sorter := s.sorter.pitched } →
    (¬ (s.sorter.aligned = true ∧ s.sorter.origin = 95 ∧ s.sorter.revolution ≠ 0) → exec .pitch s = .next u) ∧
    (s.sorter.aligned = true → s.sorter.origin = 95 → s.sorter.revolution ≠ 0 →
      ∀ v : State, v = u.offer 0 (.indexMissing 0 s.sorter.carriers.size) →
      (s.line.pause.isSome = true → exec .pitch s = .next v) ∧
      (s.line.pause = none → exec .pitch s = .next
        (State.offer { v with line := { v.line with pause := some .index } } 0
          (.lineState s.line.mode (some .index) s.line.hold .index))))) ∧
  (∀ (s u : State), u = { s with sorter := s.sorter.pitched } → ∃ (order : List PitchAct) (k : Nat),
    order.Perm ((if s.sorter.aligned = true ∧ s.sorter.origin = 95 ∧ s.sorter.revolution ≠ 0 then
        [PitchAct.indexMissing] else []) ++
      (if s.suspended = true then [] else .merge :: ((List.range 17).filter fun g => u.gateDue g).map .gate)) ∧
    exec .pitch s = .next { order.foldl State.pitchAct u with draws := k }) ∧
  (∀ (u v : State), v = u.offer 0 (.indexMissing u.sorter.origin u.sorter.carriers.size) →
    (u.line.pause.isSome = true → u.pitchAct .indexMissing = v) ∧
    (u.line.pause = none → u.pitchAct .indexMissing =
      State.offer { v with line := { v.line with pause := some .index } } 0
        (.lineState u.line.mode (some .index) u.line.hold .index))) ∧
  (∀ s : State, s.suspended = false → s.sorter.aligned = true → s.sorter.origin = 95 → s.sorter.revolution ≠ 0 →
    ∃ t, exec .pitch s = .next t ∧ t.line.pause = some .index ∧ t.sorter.origin = 0 ∧ t.sorter.revolution = 0 ∧
      ((∀ g, g ≤ 16 → State.gateDue { s with sorter := s.sorter.pitched } g = false) →
        s.enabled .indexMissing = true → s.enabled .lineState = true → s.used + s.live ≤ 254 →
        ∃ occupied, (occupied = s.sorter.carriers.size ∨ occupied = t.sorter.carriers.size) ∧
          t.queue.events = s.queue.events ++ [⟨s.line.clock, 0, .indexMissing 0 occupied⟩,
            ⟨s.line.clock, 0, .lineState s.line.mode (some .index) s.line.hold .index⟩])) ∧
  (∀ s : State,
    (s.sorter.aligned = false → exec .index s =
      .next { s with sorter := { s.sorter with origin := 0, aligned := true, revolution := 0 } }) ∧
    (s.sorter.aligned = true → s.sorter.origin = 0 →
      exec .index s = .next { s with sorter := { s.sorter with revolution := 0 } }) ∧
    (s.sorter.aligned = true → s.sorter.origin ≠ 0 → ∀ v : State,
      v = State.offer { s with sorter := { s.sorter with origin := 0, revolution := 0 } } 0
        (.sorterSlip s.sorter.origin s.sorter.carriers.size) →
      (s.line.pause.isSome = true → exec .index s = .next v) ∧
      (s.line.pause = none → exec .index s = .next
        (State.offer { v with line := { v.line with pause := some .slip } } 0
          (.lineState s.line.mode (some .slip) s.line.hold .slip)))))

/-- R136 to R139: the merge work of a pitch that brings nothing to a gate, with the line not suspended: a lap for the item on
the carrier, a grant to the first eligible lane from the pointer on, or nothing. -/
def Obligations.MergeWorkOfAPitch : Prop :=
  ∀ (s u : State) (c : Nat), s.suspended = false → s.line.lawful = true → s.sorter.lawful = true →
    s.itemsPlaced = true → u = { s with sorter := s.sorter.pitched } → c = (96 - s.sorter.pitched.origin) % 96 →
    ¬ (s.sorter.aligned = true ∧ s.sorter.origin = 95 ∧ s.sorter.revolution ≠ 0) →
    (∀ g p n it, s.line.gatePositions.lookup g = some p → s.broughtTo p n it →
      it.route ≠ some (.tote g) ∧ ¬ (g = 16 ∧ it.dest = some .gateE)) →
    (∀ n it, s.sorter.carriers.lookup c = some n → s.item n = some it → ∀ laps : Nat, laps = min 7 (it.laps + 1) →
      exec .pitch s = .next (u.modItem n fun _ => { it with
        laps := laps
        route := if laps < s.line.lapLimit then it.route else match it.route with
          | some (.exception .mapped) => some (.exception .laps)
          | some (.exception held) => some (.exception held)
          | _ => some (.exception .laps) })) ∧
    (s.sorter.carriers.lookup c = none → s.sorter.aligned = false → exec .pitch s = .next u) ∧
    (s.sorter.carriers.lookup c = none →
      (∀ l n rest it, (s.lanes.at l).queue = n :: rest → s.item n = some it →
        ¬ (it.state = .ready ∧ (s.slot ⟨l, .laneEnd⟩).state = .up)) → exec .pitch s = .next u) ∧
    (s.sorter.carriers.lookup c = none → s.sorter.aligned = true → ∀ before l after n rest it,
      [s.sorter.pointer, nextLane s.sorter.pointer, nextLane (nextLane s.sorter.pointer),
        nextLane (nextLane (nextLane s.sorter.pointer))] = before ++ l :: after →
      (∀ m ∈ before, ∀ k more y, (s.lanes.at m).queue = k :: more → s.item k = some y →
        ¬ (y.state = .ready ∧ (s.slot ⟨m, .laneEnd⟩).state = .up)) →
      (s.lanes.at l).queue = n :: rest → s.item n = some it → it.state = .ready →
      (s.slot ⟨l, .laneEnd⟩).state = .up → ∃ t, exec .pitch s = .next t ∧
        t.item n = some { it with state := .sorting, carrier := some c, loadedTime := some s.line.clock } ∧
        (∀ m, m ≠ n → t.item m = s.item m) ∧ t.lanes.at l = { s.lanes.at l with queue := rest } ∧
        (∀ m, m ≠ l → t.lanes.at m = s.lanes.at m) ∧ t.sorter.carriers = s.sorter.carriers.put c n ∧
        t.sorter.pointer = nextLane l ∧ t.sorter.xfer.at l = true ∧ (∀ m, m ≠ l → t.sorter.xfer.at m = false) ∧
        t.queue = s.queue ∧ t.returns = s.returns ∧ t.plan = s.plan ∧ t.totes = s.totes ∧ t.line = s.line)

/-- R142, R13: an item destined for E that a pitch brings to gate E, with the line not suspended, is dropped there. R13, R106,
R177: the whole retirement, as the act of gate E. That the drop
holds of a pitch that also brings INDEX MISSING, and with it the pause mark, is the model's reading (log entry 7). -/
def Obligations.GateEDropsItsItems : Prop :=
  (∀ (s : State) (p n : Nat) (it : Item) (reason : ExcReason), s.suspended = false → s.line.lawful = true →
    s.sorter.lawful = true → s.itemsPlaced = true → s.line.gatePositions.lookup 16 = some p → s.broughtTo p n it →
    it.route = some (.exception reason) → ∃ t, exec .pitch s = .next t ∧ t.item n = none ∧ 16 ∈ t.sorter.gates ∧
      (∀ e ∈ t.sorter.carriers.entries, e.2 ≠ n) ∧
      ∃ more, t.queue.events = s.queue.events ++ more ∧ ⟨s.line.clock, n, .itemException reason
        { lane := it.lane, ticket := it.ticket, parcel := it.parcel, state := .sorting, grade := it.grade,
          result := it.result, matched := it.matched, dest := some .gateE, laps := it.laps, forced := it.forced }⟩ ∈ more) ∧
  (∀ (s t : State) (p n : Nat) (it : Item) (reason : ExcReason), s.line.gatePositions.lookup 16 = some p →
    s.sorter.carriers.lookup ((p + 96 - s.sorter.origin) % 96) = some n → s.item n = some it → it.state = .sorting →
    it.route = some (.exception reason) → t = s.pitchAct (.gate 16) →
    s.retires t n it (.itemException reason
      { lane := it.lane, ticket := it.ticket, parcel := it.parcel, state := .sorting, grade := it.grade,
        result := it.result, matched := it.matched, dest := some .gateE, laps := it.laps, forced := it.forced }) [] ∧
      t.totes = s.totes ∧ t.port = s.port ∧ ∀ g, g ∈ t.sorter.gates ↔ g = 16 ∨ g ∈ s.sorter.gates)

/-- R140, R141, R155 to R159: the drop claim of an item that a pitch brings to its destination's gate, with the line not
suspended; `w` is the weight charged. That this holds of a pitch that also brings INDEX MISSING, and with it the pause mark, is
the model's reading (log entry 7). R156, R157: the events of a gate's act, in their order, when the kinds concerned are enabled
and the Event Queue has room. R13, R141, R106, R177: the whole retirement of an accepted drop, as the act of the gate. -/
def Obligations.DropClaimsAtAGate : Prop :=
  (∀ (s : State) (d p n w : Nat) (it : Item) (x : Destination), s.suspended = false → s.line.lawful = true →
    s.sorter.lawful = true → s.itemsPlaced = true → d ≤ 15 → s.line.gatePositions.lookup d = some p →
    s.broughtTo p n it → it.route = some (.tote d) → s.totes.dests.lookup d = some x →
    (it.weight = some w ∨ (it.weight = none ∧ ∃ pr,
      (s.plan.banks.at it.bank).programs.lookup (it.category.getD 31) = some pr ∧ w = pr.nominal)) →
    ∃ t, exec .pitch s = .next t ∧
      ((∀ y, x.state ≠ .active y) → t.item n = some it ∧ t.totes.dests.lookup d = some x ∧ d ∉ t.sorter.gates) ∧
      ∀ y, x.state = .active y →
        (y.count = 0 → y.weightLimit < w → t.item n = some { it with route := some (.exception .tooHeavy) } ∧
          t.totes.dests.lookup d = some x ∧ d ∉ t.sorter.gates) ∧
        (y.count ≠ 0 → y.weightLimit < y.weight + w → t.item n = some it ∧ d ∉ t.sorter.gates ∧
          ∃ z, t.totes.dests.lookup d = some z ∧ x.Completed y z) ∧
        (y.weight + w ≤ y.weightLimit → ∀ y' : Tote, y' = { y with
            count := y.count + 1, weight := y.weight + w, firstDrop := some (y.firstDrop.getD s.line.clock) } →
          t.item n = none ∧ d ∈ t.sorter.gates ∧ (∀ e ∈ t.sorter.carriers.entries, e.2 ≠ n) ∧
          (∃ more, t.queue.events = s.queue.events ++ more ∧ ⟨s.line.clock, n, .itemPlaced y.id w
            { lane := it.lane, ticket := it.ticket, parcel := it.parcel, state := .sorting, grade := it.grade,
              result := it.result, matched := it.matched, dest := some (.gate d), laps := it.laps,
              forced := it.forced }⟩ ∈ more) ∧
          (y.count + 1 ≠ y.capacity → t.totes.dests.lookup d = some { x with state := .active y' }) ∧
          (y.count + 1 = y.capacity → ∃ z, t.totes.dests.lookup d = some z ∧ x.Completed y' z))) ∧
  (∀ (s t : State) (d n w : Nat) (it : Item) (x : Destination) (y : Tote), d ≤ 15 → s.atGate d = some (n, it) →
    it.state = .sorting → it.route = some (.tote d) → s.totes.dests.lookup d = some x → x.state = .active y →
    (it.weight = some w ∨ (it.weight = none ∧ ∃ pr,
      (s.plan.banks.at it.bank).programs.lookup (it.category.getD 31) = some pr ∧ w = pr.nominal)) →
    s.enabled .toteNearFull = true → s.enabled .toteComplete = true → s.enabled .lotComplete = true →
    s.enabled .destinationStalled = true → s.enabled .destinationStarved = true → s.enabled .lotOpenAtStop = true →
    s.used + s.live ≤ 252 → t = s.pitchAct (.gate d) →
    (y.count ≠ 0 → y.weightLimit < y.weight + w → ∃ z, t.totes.dests.lookup d = some z ∧
      t.queue.events = s.queue.events ++ x.completionEvents z d y .weight n s.line.clock) ∧
    (y.weight + w ≤ y.weightLimit → ∀ y' : Tote, y' = { y with
        count := y.count + 1, weight := y.weight + w, firstDrop := some (y.firstDrop.getD s.line.clock) } →
      ∃ z rest, t.totes.dests.lookup d = some z ∧
        t.queue.events = s.queue.events ++ ⟨s.line.clock, n, .itemPlaced y.id w
            { lane := it.lane, ticket := it.ticket, parcel := it.parcel, state := .sorting, grade := it.grade,
              result := it.result, matched := it.matched, dest := some (.gate d), laps := it.laps,
              forced := it.forced }⟩ ::
          ((if y.count + 1 = y.capacity then x.completionEvents z d y' .full n s.line.clock
            else if y.count + 1 = y.warnAt then
              [⟨s.line.clock, n, .toteNearFull y.id d (y.count + 1) y.capacity (y.weight + w)⟩]
            else []) ++ rest) ∧
        ∀ e ∈ rest, e.body.kind = .planDrained ∨ e.body.kind = .parcelClosed ∨ e.body.kind = .lineState)) ∧
  (∀ (s t : State) (d p n w : Nat) (it : Item) (x : Destination) (y y' : Tote), d ≤ 15 →
    s.line.gatePositions.lookup d = some p →
    s.sorter.carriers.lookup ((p + 96 - s.sorter.origin) % 96) = some n → s.item n = some it → it.state = .sorting →
    it.route = some (.tote d) → s.totes.dests.lookup d = some x → x.state = .active y →
    (it.weight = some w ∨ (it.weight = none ∧ ∃ pr,
      (s.plan.banks.at it.bank).programs.lookup (it.category.getD 31) = some pr ∧ w = pr.nominal)) →
    y.weight + w ≤ y.weightLimit → y' = { y with
      count := y.count + 1, weight := y.weight + w, firstDrop := some (y.firstDrop.getD s.line.clock) } →
    t = s.pitchAct (.gate d) →
    (∃ toteEvents : List Event, s.retires t n it (.itemPlaced y.id w
      { lane := it.lane, ticket := it.ticket, parcel := it.parcel, state := .sorting, grade := it.grade,
        result := it.result, matched := it.matched, dest := some (.gate d), laps := it.laps, forced := it.forced })
          toteEvents ∧
      ∀ e ∈ toteEvents, e.body.kind ∈ [EventKind.toteNearFull, .toteComplete, .lotComplete, .destinationStalled,
        .destinationStarved, .lotOpenAtStop]) ∧
      (y.count + 1 ≠ y.capacity → t.totes.dests.lookup d = some { x with state := .active y' }) ∧
      (y.count + 1 = y.capacity → ∃ z, t.totes.dests.lookup d = some z ∧ x.Completed y' z) ∧
      (∀ k, k ≠ d → t.totes.dests.lookup k = s.totes.dests.lookup k) ∧ t.port = s.port ∧
      ∀ g, g ∈ t.sorter.gates ↔ g = d ∨ g ∈ s.sorter.gates)

/-! ### Totes -/

/-- R160 to R163, R165: the tote requests that are taken, in every state whose tables have their canonical form. R160 to R165: the
tote requests that are refused. -/
def Obligations.ToteRequestsTakenOrRefused : Prop :=
  (∀ (s : State) (tag d : Nat) (x : Destination), s.serving = false → s.canonical = true → d ≤ 15 →
    s.totes.dests.lookup d = some x →
    (∀ tote capacity weightLimit warnAt (pause lotEnd : Mark), tote ≠ 0 → 1 ≤ capacity → capacity ≤ 60 →
      500 ≤ weightLimit → weightLimit ≤ 25000 → warnAt < capacity → (∀ t ∈ s.allTotes, t.id ≠ tote) →
      1 ≤ s.freeTotes → ∀ (new : Tote) (y : Destination) (u : State),
      new = { id := tote, capacity := capacity, weightLimit := weightLimit, warnAt := warnAt,
              pause := decide (pause = .set), lotEnd := decide (lotEnd = .set), count := 0, weight := 0,
              firstDrop := none } →
      y = (if x.state = .starved then { x with state := .active new } else { x with queued := x.queued ++ [new] }) →
      u = s.modDest d (fun _ => y) → exec (.addTote tag d tote capacity weightLimit warnAt (.known pause) (.known lotEnd))
        s = .next (u.answered tag 128 (.toteAdded y.report u.freeTotes))) ∧
    (∀ tote q rest (y : Destination), x.state = .stalled .flag tote → x.queued = q :: rest →
      y = { x with state := .active q, queued := rest } →
      exec (.confirmSwap tag d) s = .next ((s.modDest d fun _ => y).answered tag 129 (.destination y.report))) ∧
    (∀ tote (y : Destination), x.state = .stalled .flag tote → x.queued = [] → y = { x with state := .starved } →
      (x.lot = none → exec (.confirmSwap tag d) s = .next (((s.modDest d fun _ => y).offer 0
        (.destinationStarved d)).answered tag 129 (.destination y.report))) ∧
      (∀ lot, x.lot = some lot → exec (.confirmSwap tag d) s = .next ((((s.modDest d fun _ => y).offer 0
        (.destinationStarved d)).offer 0 (.lotOpenAtStop d lot.first lot.totes lot.items)).answered tag 129
          (.destination y.report)))) ∧
    (∀ limit (y : Destination), limit ≠ some 0 → y = { x with limit := limit } →
      (∀ tote, x.state = .stalled .limit tote → limit = some tote) →
      exec (.setLimit tag d limit) s = .next ((s.modDest d fun _ => y).answered tag 130 (.destination y.report))) ∧
    (∀ limit tote q rest (y : Destination), limit ≠ some 0 → x.state = .stalled .limit tote → limit ≠ some tote →
      x.queued = q :: rest → y = { x with limit := limit, state := .active q, queued := rest } →
      exec (.setLimit tag d limit) s = .next ((s.modDest d fun _ => y).answered tag 130 (.destination y.report))) ∧
    (∀ limit tote (y : Destination), limit ≠ some 0 → x.state = .stalled .limit tote → limit ≠ some tote →
      x.queued = [] → y = { x with limit := limit, state := .starved } →
      (x.lot = none → exec (.setLimit tag d limit) s = .next (((s.modDest d fun _ => y).offer 0
        (.destinationStarved d)).answered tag 130 (.destination y.report))) ∧
      (∀ lot, x.lot = some lot → exec (.setLimit tag d limit) s = .next ((((s.modDest d fun _ => y).offer 0
        (.destinationStarved d)).offer 0 (.lotOpenAtStop d lot.first lot.totes lot.items)).answered tag 130
          (.destination y.report)))) ∧
    (∀ y : Destination, y = { x with queued := [] } → exec (.dropChain tag d) s =
      .next ((s.modDest d fun _ => y).answered tag 132 (.chainDropped y.report x.queued.length)))) ∧
  (∀ (s : State) (tag d : Nat), s.serving = false →
    (15 < d → ∀ tote capacity weightLimit warnAt pause lotEnd limit,
      exec (.addTote tag d tote capacity weightLimit warnAt pause lotEnd) s =
        .next (s.answeredRefused tag 128 .outOfRange .headOnly) ∧
      exec (.confirmSwap tag d) s = .next (s.answeredRefused tag 129 .outOfRange .headOnly) ∧
      exec (.setLimit tag d limit) s = .next (s.answeredRefused tag 130 .outOfRange .headOnly) ∧
      exec (.closeTote tag d tote) s = .next (s.answeredRefused tag 131 .outOfRange .headOnly) ∧
      exec (.dropChain tag d) s = .next (s.answeredRefused tag 132 .outOfRange .headOnly)) ∧
    (∀ tote capacity weightLimit warnAt pause lotEnd code,
      exec (.addTote tag d tote capacity weightLimit warnAt (.beyond code) lotEnd) s =
        .next (s.answeredRefused tag 128 .outOfRange .headOnly) ∧
      exec (.addTote tag d tote capacity weightLimit warnAt pause (.beyond code)) s =
        .next (s.answeredRefused tag 128 .outOfRange .headOnly)) ∧
    (d ≤ 15 → ∀ x, s.totes.dests.lookup d = some x →
      (∀ tote capacity weightLimit warnAt pause lotEnd, (tote = 0 ∨ capacity = 0 ∨ 60 < capacity ∨ weightLimit < 500 ∨
          25000 < weightLimit ∨ capacity ≤ warnAt) →
        exec (.addTote tag d tote capacity weightLimit warnAt pause lotEnd) s =
          .next (s.answeredRefused tag 128 .outOfRange .headOnly)) ∧
      (∀ tote capacity weightLimit warnAt (pause lotEnd : Mark), tote ≠ 0 → 1 ≤ capacity → capacity ≤ 60 →
        500 ≤ weightLimit → weightLimit ≤ 25000 → warnAt < capacity →
        ((∃ t ∈ s.allTotes, t.id = tote) →
          exec (.addTote tag d tote capacity weightLimit warnAt (.known pause) (.known lotEnd)) s =
            .next (s.answeredRefused tag 128 .duplicate .headOnly)) ∧
        ((∀ t ∈ s.allTotes, t.id ≠ tote) → s.freeTotes = 0 →
          exec (.addTote tag d tote capacity weightLimit warnAt (.known pause) (.known lotEnd)) s =
            .next (s.answeredRefused tag 128 .full .headOnly))) ∧
      ((∀ tote, x.state ≠ .stalled .flag tote) →
        exec (.confirmSwap tag d) s = .next (s.answeredRefused tag 129 .notStalled .headOnly)) ∧
      exec (.setLimit tag d (some 0)) s = .next (s.answeredRefused tag 130 .outOfRange .headOnly) ∧
      exec (.closeTote tag d 0) s = .next (s.answeredRefused tag 131 .outOfRange .headOnly) ∧
      (∀ tote, tote ≠ 0 → (∀ t, x.state = .active t → t.id ≠ tote) →
        exec (.closeTote tag d tote) s = .next (s.answeredRefused tag 131 .notFound .headOnly)) ∧
      (∀ t, x.state = .active t → t.id ≠ 0 → t.count = 0 → t.lotEnd = false →
        exec (.closeTote tag d t.id) s = .next (s.answeredRefused tag 131 .empty .headOnly))))

/-- R164, R157 to R159: CLOSE TOTE completes the current tote with reason FORCED. When the kinds concerned are enabled and the
Event Queue has room, the events stand in the order of R157. -/
def Obligations.CloseToteCompletesIt : Prop :=
  ∀ (s : State) (tag d : Nat) (x : Destination) (t : Tote), s.serving = false → d ≤ 15 →
    s.totes.dests.lookup d = some x → x.state = .active t → t.id ≠ 0 → (t.count ≠ 0 ∨ t.lotEnd = true) →
    ∃ u y, exec (.closeTote tag d t.id) s = .next u ∧ u.totes.dests.lookup d = some y ∧ x.Completed t y ∧
      (∀ k, k ≠ d → u.totes.dests.lookup k = s.totes.dests.lookup k) ∧ u.items = s.items ∧ u.returns = s.returns ∧
      u.lanes = s.lanes ∧ u.line = s.line ∧ u.bus = s.bus ∧ u.plan = s.plan ∧ u.sorter = s.sorter ∧
      u.port = s.port.answered ⟨tag, 131, .done, .destination y.report⟩ ∧
      (s.enabled .toteComplete = true → s.enabled .lotComplete = true → s.enabled .destinationStalled = true →
        s.enabled .destinationStarved = true → s.enabled .lotOpenAtStop = true → s.used + s.live ≤ 252 →
        u.queue.events = s.queue.events ++ x.completionEvents y d t .forced 0 s.line.clock)

/-! ### The Line Controller -/

/-- R175: a START LINE that passes its five tests. R175: the tests of START LINE, in their order. -/
def Obligations.StartLineTakenOrRefused : Prop :=
  (∀ (s : State) (tag : Nat), s.serving = false → s.line.mode = .setup →
    (∀ g, g ≤ 16 → (s.line.gatePositions.lookup g).isSome = true) →
    (∀ g h, g < h → h ≤ 16 → s.line.gatePositions.lookup g ≠ s.line.gatePositions.lookup h) →
    s.activeBank.isSome = true → (∃ l, s.usable l = true) → ∀ u : State,
    u = State.offer { s with line := { s.line with mode := .running } } 0
      (.lineState .running s.line.pause s.line.hold .start) →
    exec (.startLine tag) s =
      .next (u.answered tag 144 (.started ([LaneId.l1, .l2, .l3, .l4].filter fun l => s.usable l)))) ∧
  (∀ (s : State) (tag : Nat), s.serving = false →
    (s.line.mode ≠ .setup → exec (.startLine tag) s = .next (s.answeredRefused tag 144 .lineState .headOnly)) ∧
    (s.line.mode = .setup →
      (∀ g, g ≤ 16 → (∀ k, k < g → (s.line.gatePositions.lookup k).isSome = true) →
        s.line.gatePositions.lookup g = none →
        exec (.startLine tag) s = .next (s.answeredRefused tag 144 .notValid (.faultGate g))) ∧
      ((∀ g, g ≤ 16 → (s.line.gatePositions.lookup g).isSome = true) →
        (∀ g h, g < h → h ≤ 16 → s.line.gatePositions.lookup g = s.line.gatePositions.lookup h →
          (∀ a b, a < g → a < b → b ≤ 16 → s.line.gatePositions.lookup a ≠ s.line.gatePositions.lookup b) →
          (∀ k, g < k → k < h → s.line.gatePositions.lookup g ≠ s.line.gatePositions.lookup k) →
          exec (.startLine tag) s = .next (s.answeredRefused tag 144 .contradiction (.faultGates g h))) ∧
        ((∀ g h, g < h → h ≤ 16 → s.line.gatePositions.lookup g ≠ s.line.gatePositions.lookup h) →
          (s.activeBank = none →
            exec (.startLine tag) s = .next (s.answeredRefused tag 144 .notValid .faultPlan)) ∧
          (s.activeBank.isSome = true → (∀ l, s.usable l = false) →
            exec (.startLine tag) s = .next (s.answeredRefused tag 144 .laneIncomplete .headOnly))))))

/-- R172, R173, R174: the pause mark and the hold mark, with the LINE STATE each change offers. That HOLD at the level it already
has changes nothing is the model's choice (log entry 5). -/
def Obligations.PauseResumeAndHold : Prop :=
  ∀ (s : State) (tag : Nat),
    (s.serving = false →
      (s.line.pause = none → ∀ u : State, u = State.offer { s with line := { s.line with pause := some .host } } 0
          (.lineState s.line.mode (some .host) s.line.hold .pause) →
        exec (.pauseLine tag) s = .next (u.answered tag 145 (.paused (some .host) s.line.hold))) ∧
      (∀ cause, s.line.pause = some cause →
        exec (.pauseLine tag) s = .next (s.answered tag 145 (.paused (some cause) s.line.hold)) ∧
        ∀ u : State, u = State.offer { s with line := { s.line with pause := none } } 0
          (.lineState s.line.mode none s.line.hold .resume) →
        exec (.resumeLine tag) s = .next (u.answered tag 146 (.resumed none s.line.hold s.line.hold))) ∧
      (s.line.pause = none →
        exec (.resumeLine tag) s = .next (s.answered tag 146 (.resumed none s.line.hold s.line.hold)))) ∧
    ∀ high, (s.line.holdPin ≠ high → exec (.hold high) s = .next
        (State.offer { s with line := { s.line with holdPin := high, hold := high } } 0
          (.lineState s.line.mode s.line.pause high .hold))) ∧
      (s.line.holdPin = high → exec (.hold high) s = .next s)

/-- R176, R177: STOP LINE with kind DRAIN, the requests that change nothing, and those that are refused. -/
def Obligations.StopLineDrain : Prop :=
  ∀ (s : State) (tag : Nat), s.serving = false →
    (∀ code, exec (.stopLine tag (.beyond code)) s = .next (s.answeredRefused tag 147 .outOfRange .headOnly)) ∧
    (s.line.mode = .setup → ∀ kind,
      exec (.stopLine tag (.known kind)) s = .next (s.answeredRefused tag 147 .lineState .headOnly)) ∧
    (∀ held asked, s.line.mode = .draining held → (held = .cut ∨ asked = .drain) →
      exec (.stopLine tag (.known asked)) s =
        .next (s.answered tag 147 (.stopped (.draining held) s.live s.lanesNotIdle))) ∧
    (s.line.mode = .running → ∀ u : State, u = State.offer { s with line := { s.line with mode := .draining .drain } } 0
        (.lineState (.draining .drain) s.line.pause s.line.hold .stop) →
      (((∃ l, (s.lanes.at l).state ≠ .idle) ∨ s.live ≠ 0) → exec (.stopLine tag (.known .drain)) s =
        .next (u.answered tag 147 (.stopped (.draining .drain) s.live s.lanesNotIdle))) ∧
      ((∀ l, (s.lanes.at l).state = .idle) → s.live = 0 → ∀ v : State,
        v = State.offer { u with line := { u.line with mode := .setup } } 0
          (.lineState .setup s.line.pause s.line.hold .stopEnd) →
        exec (.stopLine tag (.known .drain)) s = .next (v.answered tag 147 (.stopped .setup 0 0))))

/-- R176, R67, R65, R147, R177: a STOP LINE that brings a cut: LINE STATE with cause STOP comes first, every lane aborts, the parcel of every lane that has one is settled
with PARCEL CLOSED after the final events of its items, every SORTING item is sent to gate E unless it holds a holding reason,
and the stop ends at once when no item is left. -/
def Obligations.StopLineCut : Prop :=
  ∀ (s : State) (tag : Nat), s.serving = false → s.itemsPlaced = true →
    (s.line.mode = .running ∨ s.line.mode = .draining .drain) →
    ∃ t, exec (.stopLine tag (.known .cut)) s = .next t ∧
      (∀ l, (t.lanes.at l).state = .idle ∧ (t.lanes.at l).queue = [] ∧ (t.lanes.at l).verdict = .none ∧
        (t.lanes.at l).timer = none ∧ (t.lanes.at l).parcelCounter = (s.lanes.at l).parcelCounter ∧
        (t.lanes.at l).nextTicket = (s.lanes.at l).nextTicket) ∧
      (∀ n it, s.item n = some it → it.state ≠ .sorting → t.item n = none) ∧
      (∀ n it, s.item n = some it → it.state = .sorting → t.item n = some { it with
        route := some (match it.route with
          | some (.exception .mapped) => .exception .cut
          | some (.exception held) => .exception held
          | _ => .exception .cut) }) ∧
      (∀ n, s.item n = none → t.item n = none) ∧
      (∃ more, t.queue.events = s.queue.events ++ more ∧ ∀ n it, s.item n = some it → it.state ≠ .sorting →
        ⟨s.line.clock, n, .itemWithdrawn .cut it.finalFields⟩ ∈ more) ∧
      (s.enabled .lineState = true → s.used + s.live < 256 → ∃ more, t.queue.events = s.queue.events ++
        ⟨s.line.clock, 0, .lineState (.draining .cut) s.line.pause s.line.hold .stop⟩ :: more) ∧
      (∀ l, (s.lanes.at l).state ≠ .idle → (t.lanes.at l).boundRas = [] ∧ (t.lanes.at l).account = none ∧
        (t.lanes.at l).closeCause = none ∧ ∀ n ∈ (s.lanes.at l).boundRas, t.ra n = (s.ra n).bind Ra.closing) ∧
      (∀ n, (∀ l, (s.lanes.at l).state ≠ .idle → n ∉ (s.lanes.at l).boundRas) → t.ra n = s.ra n) ∧
      (s.bindingsLawful = true → s.enabled .parcelClosed = true → s.used + s.live ≤ 246 →
        ∃ more, t.queue.events = s.queue.events ++ more ∧ ∀ l, (s.lanes.at l).state ≠ .idle →
          (((s.lanes.at l).queue.filterMap fun n => (s.item n).map fun (it : Item) =>
            (⟨s.line.clock, n, .itemWithdrawn .cut it.finalFields⟩ : Event)) ++
          [(⟨s.line.clock, 0, .parcelClosed l (s.lanes.at l).parcelCounter (s.lanes.at l).account .cut
            (s.lanes.at l).queue.length ((s.lanes.at l).boundRas.filterMap fun n =>
              (s.ra n).map fun r => (n, r.closingReport))⟩ : Event)]).Sublist more) ∧
      t.line = { s.line with mode := if t.live = 0 then .setup else .draining .cut } ∧
      t.items.nextNumber = s.items.nextNumber ∧ t.sorter = s.sorter ∧ t.totes = s.totes ∧ t.bus = s.bus ∧
      t.port = s.port.answered ⟨tag, 147, .done, .stopped t.line.mode t.live 0⟩

/-- R178, R179: the settings CONFIGURE writes. R179: the tests of CONFIGURE and READ SETTING, in their order. -/
def Obligations.ConfigureWritesOrIsRefused : Prop :=
  (∀ (s : State) (tag : Nat), s.serving = false →
    (∀ n, 5 ≤ n → n ≤ 600 → ∀ u : State, u = { s with line := { s.line with manifestWait := n } } →
      exec (.configure tag .manifestWait (.num n)) s =
        .next (u.answered tag 148 (.setting .manifestWait (.num n)))) ∧
    (∀ n, 1 ≤ n → n ≤ 30 → ∀ u : State, u = { s with line := { s.line with decisionWait := n } } →
      exec (.configure tag .decisionWait (.num n)) s =
        .next (u.answered tag 148 (.setting .decisionWait (.num n)))) ∧
    (∀ n, 8 ≤ n → n ≤ 248 → ∀ u : State, u = { s with line := { s.line with downThreshold := n } } →
      exec (.configure tag .downThreshold (.num n)) s =
        .next (u.answered tag 148 (.setting .downThreshold (.num n)))) ∧
    (∀ n, 1 ≤ n → n ≤ 7 → ∀ u : State, u = { s with line := { s.line with lapLimit := n } } →
      exec (.configure tag .lapLimit (.num n)) s = .next (u.answered tag 148 (.setting .lapLimit (.num n)))) ∧
    (∀ k, 1 ≤ k → k ≤ 22 → ∀ (v : OnOff) (u : State), (v = .off → 3 < k) →
      u = { s with line := { s.line with enables := s.line.enables.put k (decide (v = .on)) } } →
      exec (.configure tag (.eventEnable k) (.enable (.known v))) s =
        .next (u.answered tag 148 (.setting (.eventEnable k) (.enable (.known v))))) ∧
    (s.line.mode = .setup →
      (∀ n, 5 ≤ n → n ≤ 100 → ∀ u : State, u = { s with line := { s.line with sweepPeriod := n } } →
        exec (.configure tag .sweepPeriod (.num n)) s =
          .next (u.answered tag 148 (.setting .sweepPeriod (.num n)))) ∧
      (∀ g n, g ≤ 16 → 1 ≤ n → n ≤ 95 → ∀ u : State,
        u = { s with line := { s.line with gatePositions := s.line.gatePositions.put g n } } →
        exec (.configure tag (.gatePosition g) (.num n)) s =
          .next (u.answered tag 148 (.setting (.gatePosition g) (.num n)))) ∧
      (∀ g, g ≤ 16 → ∀ u : State,
        u = { s with line := { s.line with gatePositions := s.line.gatePositions.remove g } } →
        exec (.configure tag (.gatePosition g) .unset) s =
          .next (u.answered tag 148 (.setting (.gatePosition g) .unset))) ∧
      ∀ d x m, d ≤ 15 → s.totes.dests.lookup d = some x →
        exec (.configure tag (.chainMode d) (.mode (.known m))) s =
          .next ((s.modDest d fun y => { y with mode := m }).answered tag 148
            (.setting (.chainMode d) (.mode (.known m)))))) ∧
  (∀ (s : State) (tag : Nat), s.serving = false →
    (∀ name, ((∃ g, name = .gatePosition g ∧ 16 < g) ∨ (∃ d, name = .chainMode d ∧ 15 < d) ∨
        (∃ k, name = .eventEnable k ∧ (k = 0 ∨ 22 < k)) ∨ ∃ code, name = .beyond code) →
      exec (.readSetting tag name) s = .next (s.answeredRefused tag 149 .outOfRange .headOnly) ∧
      ∀ value, exec (.configure tag name value) s = .next (s.answeredRefused tag 148 .outOfRange .headOnly)) ∧
    (∀ name, (name = .sweepPeriod ∨ (∃ g, name = .gatePosition g ∧ g ≤ 16) ∨ ∃ d, name = .chainMode d ∧ d ≤ 15) →
      s.line.mode ≠ .setup → ∀ value,
      exec (.configure tag name value) s = .next (s.answeredRefused tag 148 .lineState .headOnly)) ∧
    ∀ name value, ((∃ n, name = .manifestWait ∧ value = .num n ∧ (n < 5 ∨ 600 < n)) ∨
        (∃ n, name = .decisionWait ∧ value = .num n ∧ (n < 1 ∨ 30 < n)) ∨
        (∃ n, name = .downThreshold ∧ value = .num n ∧ (n < 8 ∨ 248 < n)) ∨
        (∃ n, name = .lapLimit ∧ value = .num n ∧ (n < 1 ∨ 7 < n)) ∨
        (∃ k code, name = .eventEnable k ∧ 1 ≤ k ∧ k ≤ 22 ∧ value = .enable (.beyond code)) ∨
        (∃ k, name = .eventEnable k ∧ 1 ≤ k ∧ k ≤ 3 ∧ value = .enable (.known .off)) ∨
        s.line.mode = .setup ∧ ((∃ n, name = .sweepPeriod ∧ value = .num n ∧ (n < 5 ∨ 100 < n)) ∨
          (∃ g n, name = .gatePosition g ∧ g ≤ 16 ∧ value = .num n ∧ (n < 1 ∨ 95 < n)) ∨
          ∃ d code, name = .chainMode d ∧ d ≤ 15 ∧ value = .mode (.beyond code))) →
      exec (.configure tag name value) s = .next (s.answeredRefused tag 148 .outOfRange .headOnly))

/-- R183: WARM RESET is answered DONE before the reset acts, and changes nothing else; the reset acts only once that reply
has been sent (log entry 5). R21, R48, R69, R91, R111, R150, R169, R183, R194: what the reset of a WARM RESET leaves of each
block. -/
def Obligations.WarmResetAnswersThenActs : Prop :=
  (∀ (s : State) (tag : Nat),
    (s.serving = false → exec (.warmReset tag) s = .next (s.answered tag 151 .headOnly)) ∧
    ((∀ t k, s.port.service ≠ some ⟨t, k, .sent⟩) → exec .warmResetActs s = .next s)) ∧
  (∀ (s : State) (tag kind : Nat), s.port.service = some ⟨tag, kind, .sent⟩ → s.returns.records.wf = true →
    ∃ t, exec .warmResetActs s = .next t ∧
      t.items.records.entries = [] ∧ t.items.nextNumber = s.items.nextNumber ∧
      (∀ n, s.ra n = none → t.ra n = none) ∧
      (∀ n r, s.ra n = some r →
        ((r.state = .expected ∨ r.state = .overdue) → t.ra n = none) ∧
        ((r.state = .loaded ∨ r.state = .complete ∨ r.state = .short) → t.ra n = some r) ∧
        (r.state = .bound → ((∀ l ∈ r.lines, l.received = l.quantity) → t.ra n = some { r with
            state := .complete, closed := true, boundLane := none, mismatch := false }) ∧
          (¬ (∀ l ∈ r.lines, l.received = l.quantity) → t.ra n = some { r with
            state := if r.closed = true then .short else .loaded, boundLane := none, mismatch := false }))) ∧
      (∀ l, t.lanes.at l = { s.lanes.at l with
        state := .idle, account := none, boundRas := [], closeCause := none, queue := [], verdict := .none,
        timer := none }) ∧
      (∀ x, t.slot x = { s.slot x with
        state := if (s.slot x).state = .vacant then .vacant else .up, score := 0, maxScore := 0, outcome := none }) ∧
      t.bus.sweep = none ∧ t.bus.number = s.bus.number ∧ t.bus.timer = s.line.sweepPeriod ∧
      (∀ b, t.plan.banks.at b =
        (if (s.plan.banks.at b).state = .draining then
          { s.plan.banks.at b with state := .standby, valid := true, bound := 0 }
        else { s.plan.banks.at b with bound := 0 })) ∧ t.plan.shadow = s.plan.shadow ∧
      t.sorter = { s.sorter with
        carriers := ⟨[]⟩, xfer := ⟨false, false, false, false⟩, gates := [], revolution := 0 } ∧
      t.totes = s.totes ∧
      t.line = { s.line with mode := .setup, pause := none, hold := s.line.holdPin } ∧
      t.queue.events = [] ∧ t.queue.overrun = false ∧ t.port = { s.port with service := none })

/-! ### Layouts -/

/-- R184, R185, R196: a frame built by its layout is received whole, whatever follows it, and a number is read back from its
bytes; with one byte of the check changed the frame is discarded; a length above 1024 discards it as well. R190, R191: every
event record is 48 bytes, and the reply to FETCH EVENTS carries four bytes beside them. Where R196 leaves a field open, its
bytes are the model's choice (log entry 9). -/
def Obligations.FramesAndRecordsHaveTheirLayout : Prop :=
  ((∀ (tag kind : Nat) (body rest : List Byte), tag < 256 → kind < 256 → body.length ≤ 1024 →
    judge (frame tag kind body ++ rest) = .received tag kind body rest) ∧
  (∀ (head kind tag c1 c0 : Byte) (body rest : List Byte), body.length ≤ 1024 →
    [c1, c0] ≠ num2 (crc16 (num2 body.length ++ tag :: kind :: body)).toNat →
    judge (head :: num2 body.length ++ tag :: kind :: body ++ c1 :: c0 :: rest) = .discarded) ∧
  (∀ (head l1 l0 : Byte) (more : List Byte), 1024 < l1.toNat * 256 + l0.toNat →
    judge (head :: l1 :: l0 :: more) = .discarded) ∧
  (∀ (k n : Nat) (rest : List Byte), n < 256 ^ k → readNumber k 0 (bytesOf k n ++ rest) = some (n, rest))) ∧
  ((∀ e : Event, e.body.detail.length ≤ 36 → (eventRecord e).length = 48) ∧
  (∀ (overrun : Bool) (records : List Event) (left : Nat), (∀ e ∈ records, e.body.detail.length ≤ 36) →
    (dataBytes (.events overrun records left)).length = 4 + 48 * records.length) ∧
  ∀ body : EventBody, (∀ lane parcel account cause retired outcomes,
    body = .parcelClosed lane parcel account cause retired outcomes → outcomes.length ≤ 4) →
    (∀ f, body = .itemGraded f → f.failed.length ≤ 8) → body.detail.length ≤ 36)

/-! ### Invariants of every step -/

/-- R188: U plus P never passes 256, so that every final event finds its entry. -/
def Obligations.EveryStepKeepsTheEventLaw : Prop :=
  ∀ s t : State, s.eventLaw = true → step s = .next t → t.eventLaw = true

/-- Every collection keeps its one canonical form, and the sixteen destinations stay. -/
def Obligations.EveryStepKeepsTheTablesCanonical : Prop :=
  ∀ s t : State, s.canonical = true → step s = .next t → t.canonical = true

/-- R12, R57, R133: every live item stays in one place, its lane's queue or its carrier, and every place holds an item that
says so. -/
def Obligations.EveryStepKeepsTheItemsPlaced : Prop :=
  ∀ s t : State, s.itemsPlaced = true → step s = .next t → t.itemsPlaced = true

/-- R25 to R29: no line receives more than its quantity, timers run in EXPECTED only, and a record has a bound lane exactly
while it is held. R27, R49: an RA that a lane binds is there, is held and names that lane, and the lane binds it once. -/
def Obligations.EveryStepKeepsTheReturnsLawful : Prop :=
  ∀ s t : State, step s = .next t →
    (s.returnsLawful = true → t.returnsLawful = true) ∧ (s.bindingsLawful = true → t.bindingsLawful = true)

/-- R49, R57, R70, R79: what a lane holds in each of its states, and the roster. -/
def Obligations.EveryStepKeepsLanesAndRoster : Prop :=
  ∀ s t : State, step s = .next t →
    (s.lanesLawful = true → t.lanesLawful = true) ∧ (s.rosterLawful = true → t.rosterLawful = true)

/-- R97, R98, R10, R106: each bank's count is that of the live items bound to it, at most one bank is ACTIVE, and the states
and VALID marks agree. -/
def Obligations.EveryStepKeepsThePlanLawful : Prop :=
  ∀ s t : State, s.planLawful = true → step s = .next t → t.planLawful = true

/-- R152, R153: current totes keep within their capacity and weight, queued ones are empty, and no tote ID repeats. -/
def Obligations.EveryStepKeepsTheTotesLawful : Prop :=
  ∀ s t : State, s.totesLawful = true → step s = .next t → t.totesLawful = true

/-- R134, R145, R172, R178, R181, R186: the tracker's ranges, the settings' ranges with the final enables ON, the hold mark
following HOLD, and the Message Port's bookkeeping. -/
def Obligations.EveryStepKeepsSorterLineAndPort : Prop :=
  ∀ s t : State, step s = .next t →
    (s.sorter.lawful = true → t.sorter.lawful = true) ∧ (s.line.lawful = true → t.line.lawful = true) ∧
      (s.port.lawful = true → t.port.lawful = true)
end

