-- ==== Sys2Proof/Laws/State.lean ====
section
/-! SUPPORT. What each update of one block leaves of every field of State: one lemma per field and update. -/

namespace Sys2Proof.Machine

/-! ### `State.modLane` -/

@[simp] theorem modLane_port (s : State) (l : LaneId) (f : Lane → Lane) :
    (s.modLane l f).port = s.port := rfl
@[simp] theorem modLane_queue (s : State) (l : LaneId) (f : Lane → Lane) :
    (s.modLane l f).queue = s.queue := rfl
@[simp] theorem modLane_line (s : State) (l : LaneId) (f : Lane → Lane) :
    (s.modLane l f).line = s.line := rfl
@[simp] theorem modLane_returns (s : State) (l : LaneId) (f : Lane → Lane) :
    (s.modLane l f).returns = s.returns := rfl
@[simp] theorem modLane_lanes (s : State) (l : LaneId) (f : Lane → Lane) :
    (s.modLane l f).lanes = s.lanes.modify l f := rfl
@[simp] theorem modLane_items (s : State) (l : LaneId) (f : Lane → Lane) :
    (s.modLane l f).items = s.items := rfl
@[simp] theorem modLane_bus (s : State) (l : LaneId) (f : Lane → Lane) :
    (s.modLane l f).bus = s.bus := rfl
@[simp] theorem modLane_plan (s : State) (l : LaneId) (f : Lane → Lane) :
    (s.modLane l f).plan = s.plan := rfl
@[simp] theorem modLane_sorter (s : State) (l : LaneId) (f : Lane → Lane) :
    (s.modLane l f).sorter = s.sorter := rfl
@[simp] theorem modLane_totes (s : State) (l : LaneId) (f : Lane → Lane) :
    (s.modLane l f).totes = s.totes := rfl
@[simp] theorem modLane_pending (s : State) (l : LaneId) (f : Lane → Lane) :
    (s.modLane l f).pending = s.pending := rfl
@[simp] theorem modLane_draws (s : State) (l : LaneId) (f : Lane → Lane) :
    (s.modLane l f).draws = s.draws := rfl

/-! ### `State.modItem` -/

@[simp] theorem modItem_port (s : State) (n : Nat) (f : Item → Item) :
    (s.modItem n f).port = s.port := rfl
@[simp] theorem modItem_queue (s : State) (n : Nat) (f : Item → Item) :
    (s.modItem n f).queue = s.queue := rfl
@[simp] theorem modItem_line (s : State) (n : Nat) (f : Item → Item) :
    (s.modItem n f).line = s.line := rfl
@[simp] theorem modItem_returns (s : State) (n : Nat) (f : Item → Item) :
    (s.modItem n f).returns = s.returns := rfl
@[simp] theorem modItem_lanes (s : State) (n : Nat) (f : Item → Item) :
    (s.modItem n f).lanes = s.lanes := rfl
@[simp] theorem modItem_items (s : State) (n : Nat) (f : Item → Item) :
    (s.modItem n f).items = { s.items with records := s.items.records.modify n f } := rfl
@[simp] theorem modItem_bus (s : State) (n : Nat) (f : Item → Item) :
    (s.modItem n f).bus = s.bus := rfl
@[simp] theorem modItem_plan (s : State) (n : Nat) (f : Item → Item) :
    (s.modItem n f).plan = s.plan := rfl
@[simp] theorem modItem_sorter (s : State) (n : Nat) (f : Item → Item) :
    (s.modItem n f).sorter = s.sorter := rfl
@[simp] theorem modItem_totes (s : State) (n : Nat) (f : Item → Item) :
    (s.modItem n f).totes = s.totes := rfl
@[simp] theorem modItem_pending (s : State) (n : Nat) (f : Item → Item) :
    (s.modItem n f).pending = s.pending := rfl
@[simp] theorem modItem_draws (s : State) (n : Nat) (f : Item → Item) :
    (s.modItem n f).draws = s.draws := rfl

/-! ### `State.modRa` -/

@[simp] theorem modRa_port (s : State) (n : Nat) (f : Ra → Ra) :
    (s.modRa n f).port = s.port := rfl
@[simp] theorem modRa_queue (s : State) (n : Nat) (f : Ra → Ra) :
    (s.modRa n f).queue = s.queue := rfl
@[simp] theorem modRa_line (s : State) (n : Nat) (f : Ra → Ra) :
    (s.modRa n f).line = s.line := rfl
@[simp] theorem modRa_returns (s : State) (n : Nat) (f : Ra → Ra) :
    (s.modRa n f).returns = { s.returns with records := s.returns.records.modify n f } := rfl
@[simp] theorem modRa_lanes (s : State) (n : Nat) (f : Ra → Ra) :
    (s.modRa n f).lanes = s.lanes := rfl
@[simp] theorem modRa_items (s : State) (n : Nat) (f : Ra → Ra) :
    (s.modRa n f).items = s.items := rfl
@[simp] theorem modRa_bus (s : State) (n : Nat) (f : Ra → Ra) :
    (s.modRa n f).bus = s.bus := rfl
@[simp] theorem modRa_plan (s : State) (n : Nat) (f : Ra → Ra) :
    (s.modRa n f).plan = s.plan := rfl
@[simp] theorem modRa_sorter (s : State) (n : Nat) (f : Ra → Ra) :
    (s.modRa n f).sorter = s.sorter := rfl
@[simp] theorem modRa_totes (s : State) (n : Nat) (f : Ra → Ra) :
    (s.modRa n f).totes = s.totes := rfl
@[simp] theorem modRa_pending (s : State) (n : Nat) (f : Ra → Ra) :
    (s.modRa n f).pending = s.pending := rfl
@[simp] theorem modRa_draws (s : State) (n : Nat) (f : Ra → Ra) :
    (s.modRa n f).draws = s.draws := rfl

/-! ### `State.putRa` -/

@[simp] theorem putRa_port (s : State) (n : Nat) (r : Ra) :
    (s.putRa n r).port = s.port := rfl
@[simp] theorem putRa_queue (s : State) (n : Nat) (r : Ra) :
    (s.putRa n r).queue = s.queue := rfl
@[simp] theorem putRa_line (s : State) (n : Nat) (r : Ra) :
    (s.putRa n r).line = s.line := rfl
@[simp] theorem putRa_returns (s : State) (n : Nat) (r : Ra) :
    (s.putRa n r).returns = { s.returns with records := s.returns.records.put n r } := rfl
@[simp] theorem putRa_lanes (s : State) (n : Nat) (r : Ra) :
    (s.putRa n r).lanes = s.lanes := rfl
@[simp] theorem putRa_items (s : State) (n : Nat) (r : Ra) :
    (s.putRa n r).items = s.items := rfl
@[simp] theorem putRa_bus (s : State) (n : Nat) (r : Ra) :
    (s.putRa n r).bus = s.bus := rfl
@[simp] theorem putRa_plan (s : State) (n : Nat) (r : Ra) :
    (s.putRa n r).plan = s.plan := rfl
@[simp] theorem putRa_sorter (s : State) (n : Nat) (r : Ra) :
    (s.putRa n r).sorter = s.sorter := rfl
@[simp] theorem putRa_totes (s : State) (n : Nat) (r : Ra) :
    (s.putRa n r).totes = s.totes := rfl
@[simp] theorem putRa_pending (s : State) (n : Nat) (r : Ra) :
    (s.putRa n r).pending = s.pending := rfl
@[simp] theorem putRa_draws (s : State) (n : Nat) (r : Ra) :
    (s.putRa n r).draws = s.draws := rfl

/-! ### `State.removeRa` -/

@[simp] theorem removeRa_port (s : State) (n : Nat) :
    (s.removeRa n).port = s.port := rfl
@[simp] theorem removeRa_queue (s : State) (n : Nat) :
    (s.removeRa n).queue = s.queue := rfl
@[simp] theorem removeRa_line (s : State) (n : Nat) :
    (s.removeRa n).line = s.line := rfl
@[simp] theorem removeRa_returns (s : State) (n : Nat) :
    (s.removeRa n).returns = { s.returns with records := s.returns.records.remove n } := rfl
@[simp] theorem removeRa_lanes (s : State) (n : Nat) :
    (s.removeRa n).lanes = s.lanes := rfl
@[simp] theorem removeRa_items (s : State) (n : Nat) :
    (s.removeRa n).items = s.items := rfl
@[simp] theorem removeRa_bus (s : State) (n : Nat) :
    (s.removeRa n).bus = s.bus := rfl
@[simp] theorem removeRa_plan (s : State) (n : Nat) :
    (s.removeRa n).plan = s.plan := rfl
@[simp] theorem removeRa_sorter (s : State) (n : Nat) :
    (s.removeRa n).sorter = s.sorter := rfl
@[simp] theorem removeRa_totes (s : State) (n : Nat) :
    (s.removeRa n).totes = s.totes := rfl
@[simp] theorem removeRa_pending (s : State) (n : Nat) :
    (s.removeRa n).pending = s.pending := rfl
@[simp] theorem removeRa_draws (s : State) (n : Nat) :
    (s.removeRa n).draws = s.draws := rfl

/-! ### `State.modSlot` -/

@[simp] theorem modSlot_port (s : State) (x : SlotId) (f : Slot → Slot) :
    (s.modSlot x f).port = s.port := rfl
@[simp] theorem modSlot_queue (s : State) (x : SlotId) (f : Slot → Slot) :
    (s.modSlot x f).queue = s.queue := rfl
@[simp] theorem modSlot_line (s : State) (x : SlotId) (f : Slot → Slot) :
    (s.modSlot x f).line = s.line := rfl
@[simp] theorem modSlot_returns (s : State) (x : SlotId) (f : Slot → Slot) :
    (s.modSlot x f).returns = s.returns := rfl
@[simp] theorem modSlot_lanes (s : State) (x : SlotId) (f : Slot → Slot) :
    (s.modSlot x f).lanes = s.lanes := rfl
@[simp] theorem modSlot_items (s : State) (x : SlotId) (f : Slot → Slot) :
    (s.modSlot x f).items = s.items := rfl
@[simp] theorem modSlot_bus (s : State) (x : SlotId) (f : Slot → Slot) :
    (s.modSlot x f).bus = { s.bus with roster := s.bus.roster.modify x.lane fun lane => lane.modify x.role f } := rfl
@[simp] theorem modSlot_plan (s : State) (x : SlotId) (f : Slot → Slot) :
    (s.modSlot x f).plan = s.plan := rfl
@[simp] theorem modSlot_sorter (s : State) (x : SlotId) (f : Slot → Slot) :
    (s.modSlot x f).sorter = s.sorter := rfl
@[simp] theorem modSlot_totes (s : State) (x : SlotId) (f : Slot → Slot) :
    (s.modSlot x f).totes = s.totes := rfl
@[simp] theorem modSlot_pending (s : State) (x : SlotId) (f : Slot → Slot) :
    (s.modSlot x f).pending = s.pending := rfl
@[simp] theorem modSlot_draws (s : State) (x : SlotId) (f : Slot → Slot) :
    (s.modSlot x f).draws = s.draws := rfl

/-! ### `State.modBank` -/

@[simp] theorem modBank_port (s : State) (b : BankId) (f : Bank → Bank) :
    (s.modBank b f).port = s.port := rfl
@[simp] theorem modBank_queue (s : State) (b : BankId) (f : Bank → Bank) :
    (s.modBank b f).queue = s.queue := rfl
@[simp] theorem modBank_line (s : State) (b : BankId) (f : Bank → Bank) :
    (s.modBank b f).line = s.line := rfl
@[simp] theorem modBank_returns (s : State) (b : BankId) (f : Bank → Bank) :
    (s.modBank b f).returns = s.returns := rfl
@[simp] theorem modBank_lanes (s : State) (b : BankId) (f : Bank → Bank) :
    (s.modBank b f).lanes = s.lanes := rfl
@[simp] theorem modBank_items (s : State) (b : BankId) (f : Bank → Bank) :
    (s.modBank b f).items = s.items := rfl
@[simp] theorem modBank_bus (s : State) (b : BankId) (f : Bank → Bank) :
    (s.modBank b f).bus = s.bus := rfl
@[simp] theorem modBank_plan (s : State) (b : BankId) (f : Bank → Bank) :
    (s.modBank b f).plan = { s.plan with banks := s.plan.banks.modify b f } := rfl
@[simp] theorem modBank_sorter (s : State) (b : BankId) (f : Bank → Bank) :
    (s.modBank b f).sorter = s.sorter := rfl
@[simp] theorem modBank_totes (s : State) (b : BankId) (f : Bank → Bank) :
    (s.modBank b f).totes = s.totes := rfl
@[simp] theorem modBank_pending (s : State) (b : BankId) (f : Bank → Bank) :
    (s.modBank b f).pending = s.pending := rfl
@[simp] theorem modBank_draws (s : State) (b : BankId) (f : Bank → Bank) :
    (s.modBank b f).draws = s.draws := rfl

/-! ### `State.modDest` -/

@[simp] theorem modDest_port (s : State) (d : Nat) (f : Destination → Destination) :
    (s.modDest d f).port = s.port := rfl
@[simp] theorem modDest_queue (s : State) (d : Nat) (f : Destination → Destination) :
    (s.modDest d f).queue = s.queue := rfl
@[simp] theorem modDest_line (s : State) (d : Nat) (f : Destination → Destination) :
    (s.modDest d f).line = s.line := rfl
@[simp] theorem modDest_returns (s : State) (d : Nat) (f : Destination → Destination) :
    (s.modDest d f).returns = s.returns := rfl
@[simp] theorem modDest_lanes (s : State) (d : Nat) (f : Destination → Destination) :
    (s.modDest d f).lanes = s.lanes := rfl
@[simp] theorem modDest_items (s : State) (d : Nat) (f : Destination → Destination) :
    (s.modDest d f).items = s.items := rfl
@[simp] theorem modDest_bus (s : State) (d : Nat) (f : Destination → Destination) :
    (s.modDest d f).bus = s.bus := rfl
@[simp] theorem modDest_plan (s : State) (d : Nat) (f : Destination → Destination) :
    (s.modDest d f).plan = s.plan := rfl
@[simp] theorem modDest_sorter (s : State) (d : Nat) (f : Destination → Destination) :
    (s.modDest d f).sorter = s.sorter := rfl
@[simp] theorem modDest_totes (s : State) (d : Nat) (f : Destination → Destination) :
    (s.modDest d f).totes = { s.totes with dests := s.totes.dests.modify d f } := rfl
@[simp] theorem modDest_pending (s : State) (d : Nat) (f : Destination → Destination) :
    (s.modDest d f).pending = s.pending := rfl
@[simp] theorem modDest_draws (s : State) (d : Nat) (f : Destination → Destination) :
    (s.modDest d f).draws = s.draws := rfl

/-! ### `State.frameTaken` -/

@[simp] theorem frameTaken_port (s : State) :
    (s.frameTaken).port = { s.port with receiving := [] } := rfl
@[simp] theorem frameTaken_queue (s : State) :
    (s.frameTaken).queue = s.queue := rfl
@[simp] theorem frameTaken_line (s : State) :
    (s.frameTaken).line = s.line := rfl
@[simp] theorem frameTaken_returns (s : State) :
    (s.frameTaken).returns = s.returns := rfl
@[simp] theorem frameTaken_lanes (s : State) :
    (s.frameTaken).lanes = s.lanes := rfl
@[simp] theorem frameTaken_items (s : State) :
    (s.frameTaken).items = s.items := rfl
@[simp] theorem frameTaken_bus (s : State) :
    (s.frameTaken).bus = s.bus := rfl
@[simp] theorem frameTaken_plan (s : State) :
    (s.frameTaken).plan = s.plan := rfl
@[simp] theorem frameTaken_sorter (s : State) :
    (s.frameTaken).sorter = s.sorter := rfl
@[simp] theorem frameTaken_totes (s : State) :
    (s.frameTaken).totes = s.totes := rfl
@[simp] theorem frameTaken_pending (s : State) :
    (s.frameTaken).pending = s.pending := rfl
@[simp] theorem frameTaken_draws (s : State) :
    (s.frameTaken).draws = s.draws := rfl

/-! ### `State.fireGate` -/

@[simp] theorem fireGate_port (s : State) (g : Nat) :
    (s.fireGate g).port = s.port := rfl
@[simp] theorem fireGate_queue (s : State) (g : Nat) :
    (s.fireGate g).queue = s.queue := rfl
@[simp] theorem fireGate_line (s : State) (g : Nat) :
    (s.fireGate g).line = s.line := rfl
@[simp] theorem fireGate_returns (s : State) (g : Nat) :
    (s.fireGate g).returns = s.returns := rfl
@[simp] theorem fireGate_lanes (s : State) (g : Nat) :
    (s.fireGate g).lanes = s.lanes := rfl
@[simp] theorem fireGate_items (s : State) (g : Nat) :
    (s.fireGate g).items = s.items := rfl
@[simp] theorem fireGate_bus (s : State) (g : Nat) :
    (s.fireGate g).bus = s.bus := rfl
@[simp] theorem fireGate_plan (s : State) (g : Nat) :
    (s.fireGate g).plan = s.plan := rfl
@[simp] theorem fireGate_sorter (s : State) (g : Nat) :
    (s.fireGate g).sorter = { s.sorter with gates := insertGate g s.sorter.gates } := rfl
@[simp] theorem fireGate_totes (s : State) (g : Nat) :
    (s.fireGate g).totes = s.totes := rfl
@[simp] theorem fireGate_pending (s : State) (g : Nat) :
    (s.fireGate g).pending = s.pending := rfl
@[simp] theorem fireGate_draws (s : State) (g : Nat) :
    (s.fireGate g).draws = s.draws := rfl

/-! ### `State.endTurn` -/

@[simp] theorem endTurn_port (s : State) :
    (s.endTurn).port = s.port := rfl
@[simp] theorem endTurn_queue (s : State) :
    (s.endTurn).queue = s.queue := rfl
@[simp] theorem endTurn_line (s : State) :
    (s.endTurn).line = s.line := rfl
@[simp] theorem endTurn_returns (s : State) :
    (s.endTurn).returns = s.returns := rfl
@[simp] theorem endTurn_lanes (s : State) :
    (s.endTurn).lanes = s.lanes := rfl
@[simp] theorem endTurn_items (s : State) :
    (s.endTurn).items = s.items := rfl
@[simp] theorem endTurn_bus (s : State) :
    (s.endTurn).bus = { s.bus with sweep := s.bus.sweep.map Sweep.endTurn } := rfl
@[simp] theorem endTurn_plan (s : State) :
    (s.endTurn).plan = s.plan := rfl
@[simp] theorem endTurn_sorter (s : State) :
    (s.endTurn).sorter = s.sorter := rfl
@[simp] theorem endTurn_totes (s : State) :
    (s.endTurn).totes = s.totes := rfl
@[simp] theorem endTurn_pending (s : State) :
    (s.endTurn).pending = s.pending := rfl
@[simp] theorem endTurn_draws (s : State) :
    (s.endTurn).draws = s.draws := rfl

/-! ### `State.cutSorter` -/

@[simp] theorem cutSorter_port (s : State) :
    (s.cutSorter).port = s.port := rfl
@[simp] theorem cutSorter_queue (s : State) :
    (s.cutSorter).queue = s.queue := rfl
@[simp] theorem cutSorter_line (s : State) :
    (s.cutSorter).line = s.line := rfl
@[simp] theorem cutSorter_returns (s : State) :
    (s.cutSorter).returns = s.returns := rfl
@[simp] theorem cutSorter_lanes (s : State) :
    (s.cutSorter).lanes = s.lanes := rfl
@[simp] theorem cutSorter_items (s : State) :
    (s.cutSorter).items = { s.items with records := s.items.records.mapValues fun it => if it.state = .sorting then it.sendToE .cut else it } := rfl
@[simp] theorem cutSorter_bus (s : State) :
    (s.cutSorter).bus = s.bus := rfl
@[simp] theorem cutSorter_plan (s : State) :
    (s.cutSorter).plan = s.plan := rfl
@[simp] theorem cutSorter_sorter (s : State) :
    (s.cutSorter).sorter = s.sorter := rfl
@[simp] theorem cutSorter_totes (s : State) :
    (s.cutSorter).totes = s.totes := rfl
@[simp] theorem cutSorter_pending (s : State) :
    (s.cutSorter).pending = s.pending := rfl
@[simp] theorem cutSorter_draws (s : State) :
    (s.cutSorter).draws = s.draws := rfl

/-! ### `State.countDraw`, `State.reply` and `State.answerBusy` -/

@[simp] theorem countDraw_port (s : State) (n : Nat) : (s.countDraw n).port = s.port := by
  unfold State.countDraw; split <;> rfl
@[simp] theorem countDraw_queue (s : State) (n : Nat) : (s.countDraw n).queue = s.queue := by
  unfold State.countDraw; split <;> rfl
@[simp] theorem countDraw_line (s : State) (n : Nat) : (s.countDraw n).line = s.line := by
  unfold State.countDraw; split <;> rfl
@[simp] theorem countDraw_returns (s : State) (n : Nat) : (s.countDraw n).returns = s.returns := by
  unfold State.countDraw; split <;> rfl
@[simp] theorem countDraw_lanes (s : State) (n : Nat) : (s.countDraw n).lanes = s.lanes := by
  unfold State.countDraw; split <;> rfl
@[simp] theorem countDraw_items (s : State) (n : Nat) : (s.countDraw n).items = s.items := by
  unfold State.countDraw; split <;> rfl
@[simp] theorem countDraw_bus (s : State) (n : Nat) : (s.countDraw n).bus = s.bus := by
  unfold State.countDraw; split <;> rfl
@[simp] theorem countDraw_plan (s : State) (n : Nat) : (s.countDraw n).plan = s.plan := by
  unfold State.countDraw; split <;> rfl
@[simp] theorem countDraw_sorter (s : State) (n : Nat) : (s.countDraw n).sorter = s.sorter := by
  unfold State.countDraw; split <;> rfl
@[simp] theorem countDraw_totes (s : State) (n : Nat) : (s.countDraw n).totes = s.totes := by
  unfold State.countDraw; split <;> rfl
@[simp] theorem countDraw_pending (s : State) (n : Nat) : (s.countDraw n).pending = s.pending := by
  unfold State.countDraw; split <;> rfl
@[simp] theorem reply_queue (s : State) (r : Reply) : (s.reply r).queue = s.queue := by
  unfold State.reply; split <;> rfl
@[simp] theorem reply_line (s : State) (r : Reply) : (s.reply r).line = s.line := by
  unfold State.reply; split <;> rfl
@[simp] theorem reply_returns (s : State) (r : Reply) : (s.reply r).returns = s.returns := by
  unfold State.reply; split <;> rfl
@[simp] theorem reply_lanes (s : State) (r : Reply) : (s.reply r).lanes = s.lanes := by
  unfold State.reply; split <;> rfl
@[simp] theorem reply_items (s : State) (r : Reply) : (s.reply r).items = s.items := by
  unfold State.reply; split <;> rfl
@[simp] theorem reply_bus (s : State) (r : Reply) : (s.reply r).bus = s.bus := by
  unfold State.reply; split <;> rfl
@[simp] theorem reply_plan (s : State) (r : Reply) : (s.reply r).plan = s.plan := by
  unfold State.reply; split <;> rfl
@[simp] theorem reply_sorter (s : State) (r : Reply) : (s.reply r).sorter = s.sorter := by
  unfold State.reply; split <;> rfl
@[simp] theorem reply_totes (s : State) (r : Reply) : (s.reply r).totes = s.totes := by
  unfold State.reply; split <;> rfl
@[simp] theorem reply_pending (s : State) (r : Reply) : (s.reply r).pending = s.pending := by
  unfold State.reply; split <;> rfl
@[simp] theorem reply_draws (s : State) (r : Reply) : (s.reply r).draws = s.draws := by
  unfold State.reply; split <;> rfl
@[simp] theorem answerBusy_queue (s : State) (tag kind : Nat) : (s.answerBusy tag kind).queue = s.queue := by
  unfold State.answerBusy; dsimp only; split
  · split <;> rfl
  · rfl
@[simp] theorem answerBusy_line (s : State) (tag kind : Nat) : (s.answerBusy tag kind).line = s.line := by
  unfold State.answerBusy; dsimp only; split
  · split <;> rfl
  · rfl
@[simp] theorem answerBusy_returns (s : State) (tag kind : Nat) : (s.answerBusy tag kind).returns = s.returns := by
  unfold State.answerBusy; dsimp only; split
  · split <;> rfl
  · rfl
@[simp] theorem answerBusy_lanes (s : State) (tag kind : Nat) : (s.answerBusy tag kind).lanes = s.lanes := by
  unfold State.answerBusy; dsimp only; split
  · split <;> rfl
  · rfl
@[simp] theorem answerBusy_items (s : State) (tag kind : Nat) : (s.answerBusy tag kind).items = s.items := by
  unfold State.answerBusy; dsimp only; split
  · split <;> rfl
  · rfl
@[simp] theorem answerBusy_bus (s : State) (tag kind : Nat) : (s.answerBusy tag kind).bus = s.bus := by
  unfold State.answerBusy; dsimp only; split
  · split <;> rfl
  · rfl
@[simp] theorem answerBusy_plan (s : State) (tag kind : Nat) : (s.answerBusy tag kind).plan = s.plan := by
  unfold State.answerBusy; dsimp only; split
  · split <;> rfl
  · rfl
@[simp] theorem answerBusy_sorter (s : State) (tag kind : Nat) : (s.answerBusy tag kind).sorter = s.sorter := by
  unfold State.answerBusy; dsimp only; split
  · split <;> rfl
  · rfl
@[simp] theorem answerBusy_totes (s : State) (tag kind : Nat) : (s.answerBusy tag kind).totes = s.totes := by
  unfold State.answerBusy; dsimp only; split
  · split <;> rfl
  · rfl
@[simp] theorem answerBusy_pending (s : State) (tag kind : Nat) : (s.answerBusy tag kind).pending = s.pending := by
  unfold State.answerBusy; dsimp only; split
  · split <;> rfl
  · rfl
@[simp] theorem answerBusy_draws (s : State) (tag kind : Nat) : (s.answerBusy tag kind).draws = s.draws := by
  unfold State.answerBusy; dsimp only; split
  · split <;> rfl
  · rfl

/-- A request taken into service, in one equation: the block's act, and the port's answer (R185, R186). -/
theorem serve_free (s : State) (tag kind : Nat) (act : State → Answer) (h : s.serving = false) :
    s.serve tag kind act =
      (act s.frameTaken).state.reply ⟨tag, kind, (act s.frameTaken).status, (act s.frameTaken).data⟩ := by
  unfold State.serve
  unfold State.serving at h
  simp [h]

/-- A frame received while a request is in service changes the port alone (R186). -/
theorem serve_busy (s : State) (tag kind : Nat) (act : State → Answer) (h : s.serving = true) :
    s.serve tag kind act = s.frameTaken.answerBusy tag kind := by
  unfold State.serve
  unfold State.serving at h
  simp [h]

/-- The reply's effect on the port, with the receiver hunting. -/
theorem reply_port (s : State) (r : Reply) (h : s.port.receiving = []) :
    (s.reply r).port = s.port.answered r := by
  unfold State.reply Port.answered
  rcases hs : s.port.sending with _ | x <;> simp [hs] <;> rw [← h]

end Sys2Proof.Machine
end

