-- ==== Sys2Proof/Laws/Table.lean ====
section
/-! SUPPORT. The laws of tables and of the fixed families: what a lookup finds after a change, that every change keeps the
canonical form, and the sizes. -/

namespace Sys2Proof.Machine

/-! ### Lookups -/

theorem lookupEntry_putEntry {α : Type} (l : List (Nat × α)) (k k' : Nat) (v : α) :
    lookupEntry (putEntry l k v) k' = if k = k' then some v else lookupEntry l k' := by
  induction l with
  | nil => by_cases h : k = k' <;> simp [putEntry, lookupEntry, h]
  | cons e rest ih =>
    obtain ⟨a, w⟩ := e
    unfold putEntry
    split
    · by_cases h : k = k' <;> simp [lookupEntry, h]
    · split
      · rename_i _ ha
        subst ha
        by_cases h : a = k' <;> simp [lookupEntry, h]
      · rename_i hlt hne
        by_cases h : a = k'
        · subst h
          have : ¬ k = a := fun e => hne e.symm
          simp [lookupEntry, this]
        · simp [lookupEntry, h, ih]

@[simp] theorem lookup_put_self {α : Type} (t : Table α) (k : Nat) (v : α) : (t.put k v).lookup k = some v := by
  simp [Table.put, Table.lookup, lookupEntry_putEntry]

theorem lookup_put_other {α : Type} (t : Table α) (k k' : Nat) (v : α) (h : k ≠ k') :
    (t.put k v).lookup k' = t.lookup k' := by
  simp [Table.put, Table.lookup, lookupEntry_putEntry, h]

theorem lookupEntry_filter {α : Type} (l : List (Nat × α)) (k k' : Nat) :
    lookupEntry (l.filter fun e => e.1 ≠ k) k' = if k = k' then none else lookupEntry l k' := by
  induction l with
  | nil => simp [lookupEntry]
  | cons e rest ih =>
    obtain ⟨a, w⟩ := e
    by_cases ha : a = k
    · subst ha
      by_cases h : a = k' <;> simp_all [lookupEntry]
    · by_cases h : a = k'
      · subst h
        have : ¬ k = a := fun e => ha e.symm
        simp [ha, lookupEntry, this]
      · simp_all [lookupEntry]

@[simp] theorem lookup_remove_self {α : Type} (t : Table α) (k : Nat) : (t.remove k).lookup k = none := by
  have := lookupEntry_filter t.entries k k
  simpa [Table.remove, Table.lookup] using this

theorem lookup_remove_other {α : Type} (t : Table α) (k k' : Nat) (h : k ≠ k') :
    (t.remove k).lookup k' = t.lookup k' := by
  have := lookupEntry_filter t.entries k k'
  simpa [Table.remove, Table.lookup, h] using this

theorem lookupEntry_map {α β : Type} (l : List (Nat × α)) (f : Nat → α → β) (k : Nat) :
    lookupEntry (l.map fun e => (e.1, f e.1 e.2)) k = (lookupEntry l k).map (f k) := by
  induction l with
  | nil => rfl
  | cons e rest ih =>
    obtain ⟨a, w⟩ := e
    by_cases h : a = k
    · subst h; simp [lookupEntry]
    · simp [lookupEntry, h, ih]

theorem lookup_modify {α : Type} (t : Table α) (k k' : Nat) (f : α → α) :
    (t.modify k f).lookup k' = if k = k' then (t.lookup k').map f else t.lookup k' := by
  have h := lookupEntry_map t.entries (fun a v => if a = k then f v else v) k'
  have e : t.entries.map (fun e => (e.1, if e.1 = k then f e.2 else e.2)) =
      t.entries.map fun e => if e.1 = k then (e.1, f e.2) else e := by
    apply List.map_congr_left
    intro x _
    split <;> rfl
  rw [e] at h
  unfold Table.modify Table.lookup
  rw [h]
  by_cases hk : k = k'
  · subst hk; simp
  · have : ¬ k' = k := fun e => hk e.symm
    simp [hk, this]

@[simp] theorem lookup_modify_self {α : Type} (t : Table α) (k : Nat) (f : α → α) :
    (t.modify k f).lookup k = (t.lookup k).map f := by simp [lookup_modify]

theorem lookup_modify_other {α : Type} (t : Table α) (k k' : Nat) (f : α → α) (h : k ≠ k') :
    (t.modify k f).lookup k' = t.lookup k' := by simp [lookup_modify, h]

@[simp] theorem lookup_mapValues {α : Type} (t : Table α) (f : α → α) (k : Nat) :
    (t.mapValues f).lookup k = (t.lookup k).map f :=
  lookupEntry_map t.entries (fun _ => f) k

theorem mem_of_lookupEntry {α : Type} (l : List (Nat × α)) (k : Nat) (v : α) (h : lookupEntry l k = some v) :
    (k, v) ∈ l := by
  induction l with
  | nil => simp [lookupEntry] at h
  | cons e rest ih =>
    obtain ⟨a, w⟩ := e
    by_cases ha : a = k
    · subst ha; simp [lookupEntry] at h; simp [h]
    · simp [lookupEntry, ha] at h; simp [ih h]

theorem mem_of_lookup {α : Type} (t : Table α) (k : Nat) (v : α) (h : t.lookup k = some v) : (k, v) ∈ t.entries :=
  mem_of_lookupEntry t.entries k v h

/-! ### The canonical form -/

theorem risingKeys_cons {α : Type} (k : Nat) (v : α) (l : List (Nat × α)) :
    risingKeys ((k, v) :: l) = true ↔ (∀ e ∈ l, k < e.1) ∧ risingKeys l = true := by
  induction l generalizing k v with
  | nil => simp [risingKeys]
  | cons e rest ih =>
    obtain ⟨a, w⟩ := e
    simp only [risingKeys, Bool.and_eq_true, decide_eq_true_eq]
    constructor
    · rintro ⟨h, hr⟩
      refine ⟨?_, hr⟩
      intro x hx
      rcases List.mem_cons.1 hx with rfl | hx
      · exact h
      · exact lt_trans h (((ih a w).1 hr).1 x hx)
    · rintro ⟨h, hr⟩
      exact ⟨h (a, w) (by simp), hr⟩

/-- In a canonical table, what is listed is what a lookup finds. -/
theorem lookup_of_mem {α : Type} (t : Table α) (k : Nat) (v : α) (hw : t.wf = true) (h : (k, v) ∈ t.entries) :
    t.lookup k = some v := by
  obtain ⟨l⟩ := t
  unfold Table.wf at hw
  unfold Table.lookup
  simp only at hw h ⊢
  induction l with
  | nil => simp at h
  | cons e rest ih =>
    obtain ⟨a, w⟩ := e
    rw [risingKeys_cons] at hw
    rcases List.mem_cons.1 h with heq | h
    · injection heq with h1 h2; subst h1; subst h2; simp [lookupEntry]
    · have := hw.1 _ h
      have hne : ¬ a = k := by simp at this; omega
      simp [lookupEntry, hne, ih hw.2 h]

theorem keys_putEntry {α : Type} (l : List (Nat × α)) (k : Nat) (v : α) (e : Nat × α) (h : e ∈ putEntry l k v) :
    e.1 = k ∨ e ∈ l := by
  induction l with
  | nil => simp [putEntry] at h; simp [h]
  | cons x rest ih =>
    obtain ⟨a, w⟩ := x
    unfold putEntry at h
    split at h
    · rcases List.mem_cons.1 h with rfl | h
      · simp
      · exact Or.inr h
    · split at h
      · rcases List.mem_cons.1 h with rfl | h
        · simp
        · exact Or.inr (List.mem_cons_of_mem _ h)
      · rcases List.mem_cons.1 h with rfl | h
        · simp
        · rcases ih h with h | h
          · exact Or.inl h
          · exact Or.inr (List.mem_cons_of_mem _ h)

theorem risingKeys_putEntry {α : Type} (l : List (Nat × α)) (k : Nat) (v : α) (h : risingKeys l = true) :
    risingKeys (putEntry l k v) = true := by
  induction l with
  | nil => rfl
  | cons x rest ih =>
    obtain ⟨a, w⟩ := x
    have hr := (risingKeys_cons a w rest).1 h
    unfold putEntry
    split
    · rename_i hlt
      rw [risingKeys_cons]
      refine ⟨?_, h⟩
      intro e he
      rcases List.mem_cons.1 he with rfl | he
      · exact hlt
      · exact lt_trans hlt (hr.1 e he)
    · split
      · rename_i _ hak
        rw [risingKeys_cons]
        exact ⟨fun e he => hak ▸ hr.1 e he, hr.2⟩
      · rename_i hlt hne
        rw [risingKeys_cons]
        refine ⟨?_, ih hr.2⟩
        intro e he
        rcases keys_putEntry rest k v e he with h | h
        · rw [h]; omega
        · exact hr.1 e h

@[simp] theorem wf_empty {α : Type} : (Table.empty : Table α).wf = true := rfl

theorem wf_put {α : Type} (t : Table α) (k : Nat) (v : α) (h : t.wf = true) : (t.put k v).wf = true :=
  risingKeys_putEntry t.entries k v h

theorem risingKeys_filter {α : Type} (p : Nat × α → Bool) (l : List (Nat × α)) (h : risingKeys l = true) :
    risingKeys (l.filter p) = true := by
  induction l with
  | nil => rfl
  | cons x rest ih =>
    obtain ⟨a, w⟩ := x
    have hr := (risingKeys_cons a w rest).1 h
    by_cases hp : p (a, w) = true
    · rw [List.filter_cons_of_pos hp, risingKeys_cons]
      exact ⟨fun e he => hr.1 e (List.mem_of_mem_filter he), ih hr.2⟩
    · rw [List.filter_cons_of_neg hp]
      exact ih hr.2

theorem wf_remove {α : Type} (t : Table α) (k : Nat) (h : t.wf = true) : (t.remove k).wf = true :=
  risingKeys_filter _ t.entries h

theorem risingKeys_keys {α β : Type} (l : List (Nat × α)) (l' : List (Nat × β)) (h : l.map (·.1) = l'.map (·.1)) :
    risingKeys l = risingKeys l' := by
  induction l generalizing l' with
  | nil => cases l' <;> simp_all [risingKeys]
  | cons x rest ih =>
    obtain ⟨a, w⟩ := x
    cases l' with
    | nil => simp at h
    | cons y rest' =>
      obtain ⟨b, w'⟩ := y
      simp at h
      obtain ⟨rfl, h⟩ := h
      have := ih rest' h
      cases rest with
      | nil => cases rest' <;> simp_all [risingKeys]
      | cons z r =>
        cases rest' with
        | nil => simp at h
        | cons z' r' =>
          obtain ⟨c, u⟩ := z
          obtain ⟨c', u'⟩ := z'
          simp at h
          obtain ⟨rfl, h⟩ := h
          simp [risingKeys, this]

@[simp] theorem keys_modify {α : Type} (t : Table α) (k : Nat) (f : α → α) :
    (t.modify k f).entries.map (·.1) = t.entries.map (·.1) := by
  unfold Table.modify
  rw [List.map_map]
  apply List.map_congr_left
  intro x _
  simp only [Function.comp]
  split <;> rfl

@[simp] theorem keys_mapValues {α : Type} (t : Table α) (f : α → α) :
    (t.mapValues f).entries.map (·.1) = t.entries.map (·.1) := by
  simp [Table.mapValues]

@[simp] theorem wf_modify {α : Type} (t : Table α) (k : Nat) (f : α → α) : (t.modify k f).wf = t.wf :=
  risingKeys_keys _ _ (keys_modify t k f)

@[simp] theorem wf_mapValues {α : Type} (t : Table α) (f : α → α) : (t.mapValues f).wf = t.wf :=
  risingKeys_keys _ _ (keys_mapValues t f)

/-- In a canonical table, a change of an entry depends only on what it makes of the value listed. -/
theorem modify_congr {α : Type} (t : Table α) (k : Nat) (v : α) (f g : α → α) (hw : t.wf = true)
    (hv : t.lookup k = some v) (h : f v = g v) : t.modify k f = t.modify k g := by
  unfold Table.modify
  congr 1
  apply List.map_congr_left
  rintro ⟨a, b⟩ he
  by_cases hk : a = k
  · subst hk
    have hb := lookup_of_mem t _ _ hw he
    rw [hv] at hb
    cases hb
    simp [h]
  · simp [hk]

@[simp] theorem modify_modify {α : Type} (t : Table α) (k : Nat) (f g : α → α) :
    (t.modify k f).modify k g = t.modify k fun v => g (f v) := by
  unfold Table.modify
  simp only [List.map_map]
  congr 1
  apply List.map_congr_left
  intro e _
  by_cases hk : e.1 = k <;> simp [hk]

/-! ### Sizes -/

@[simp] theorem size_modify {α : Type} (t : Table α) (k : Nat) (f : α → α) : (t.modify k f).size = t.size := by
  simp [Table.modify, Table.size]

@[simp] theorem size_mapValues {α : Type} (t : Table α) (f : α → α) : (t.mapValues f).size = t.size := by
  simp [Table.mapValues, Table.size]

theorem length_putEntry {α : Type} (l : List (Nat × α)) (k : Nat) (v : α) :
    (putEntry l k v).length ≤ l.length + 1 := by
  induction l with
  | nil => simp [putEntry]
  | cons x rest ih =>
    obtain ⟨a, w⟩ := x
    unfold putEntry
    split
    · simp
    · split
      · simp
      · simp; omega

theorem size_put {α : Type} (t : Table α) (k : Nat) (v : α) : (t.put k v).size ≤ t.size + 1 :=
  length_putEntry t.entries k v

/-- Removing what a lookup finds makes the table smaller. -/
theorem size_remove {α : Type} (t : Table α) (k : Nat) (v : α) (h : t.lookup k = some v) :
    (t.remove k).size < t.size := by
  have hm := mem_of_lookup t k v h
  unfold Table.remove Table.size
  apply List.length_filter_lt_length_iff_exists.2
  exact ⟨(k, v), hm, by simp⟩

theorem size_remove_le {α : Type} (t : Table α) (k : Nat) : (t.remove k).size ≤ t.size :=
  List.length_filter_le _ _

/-! ### Fixed families -/

@[simp] theorem quad_at_modify_self {α : Type} (q : Quad α) (l : LaneId) (f : α → α) :
    (q.modify l f).at l = f (q.at l) := by cases l <;> rfl

theorem quad_at_modify_other {α : Type} (q : Quad α) (l m : LaneId) (f : α → α) (h : l ≠ m) :
    (q.modify l f).at m = q.at m := by cases l <;> cases m <;> simp_all [Quad.modify, Quad.at]

@[simp] theorem quad_at_map {α β : Type} (q : Quad α) (f : α → β) (l : LaneId) : (q.map f).at l = f (q.at l) := by
  cases l <;> rfl

@[simp] theorem perRole_at_modify_self {α : Type} (q : PerRole α) (r : Role) (f : α → α) :
    (q.modify r f).at r = f (q.at r) := by cases r <;> rfl

theorem perRole_at_modify_other {α : Type} (q : PerRole α) (r x : Role) (f : α → α) (h : r ≠ x) :
    (q.modify r f).at x = q.at x := by cases r <;> cases x <;> simp_all [PerRole.modify, PerRole.at]

@[simp] theorem perRole_at_map {α β : Type} (q : PerRole α) (f : α → β) (r : Role) : (q.map f).at r = f (q.at r) := by
  cases r <;> rfl

@[simp] theorem pair_at_modify_self {α : Type} (q : Pair α) (b : BankId) (f : α → α) :
    (q.modify b f).at b = f (q.at b) := by cases b <;> rfl

theorem pair_at_modify_other {α : Type} (q : Pair α) (b c : BankId) (f : α → α) (h : b ≠ c) :
    (q.modify b f).at c = q.at c := by cases b <;> cases c <;> simp_all [Pair.modify, Pair.at]

@[simp] theorem pair_at_map {α β : Type} (q : Pair α) (f : α → β) (b : BankId) : (q.map f).at b = f (q.at b) := by
  cases b <;> rfl

end Sys2Proof.Machine
end

