-- ==== Sys2Proof/Laws/Ops.lean ====
section
/-! SUPPORT. What each shared operation can change: for each, the fields of State it leaves, and what it does to the
others. -/

namespace Sys2Proof.Machine

/-- A fold of steps that each keep a field keeps it. -/
theorem foldl_keeps {α β : Type} (field : State → β) (f : State → α → State) (h : ∀ s a, field (f s a) = field s)
    (l : List α) (s : State) : field (l.foldl f s) = field s := by
  induction l generalizing s with
  | nil => rfl
  | cons a rest ih => simp [ih, h]

/-! ### Offers (R181, R189) -/

theorem offer_disabled (s : State) (item : Nat) (body : EventBody) (h : s.enabled body.kind = false) :
    s.offer item body = s := by simp [State.offer, h]

theorem offer_stored (s : State) (item : Nat) (body : EventBody) (h : s.enabled body.kind = true)
    (room : s.roomForEvent = true) :
    s.offer item body =
      { s with queue := { s.queue with events := s.queue.events ++ [⟨s.line.clock, item, body⟩] } } := by
  simp [State.offer, h, room]

theorem offer_dropped (s : State) (item : Nat) (body : EventBody) (h : s.enabled body.kind = true)
    (room : s.roomForEvent = false) :
    s.offer item body = { s with queue := { s.queue with overrun := true } } := by
  simp [State.offer, h, room]

/-- Everything an offer can do: it changes the Event Queue alone. -/
theorem offer_changes_queue (s : State) (item : Nat) (body : EventBody) :
    ∃ q, s.offer item body = { s with queue := q } := by
  unfold State.offer
  split
  · split
    · exact ⟨_, rfl⟩
    · exact ⟨_, rfl⟩
  · exact ⟨s.queue, rfl⟩

/-- An offer keeps the law of the Event Queue (R188). -/
theorem offer_eventLaw (s : State) (item : Nat) (body : EventBody) (h : s.eventLaw = true) :
    (s.offer item body).eventLaw = true := by
  unfold State.eventLaw State.used State.live at *
  rw [decide_eq_true_iff] at *
  unfold State.offer
  split
  · split
    · rename_i room
      unfold State.roomForEvent State.used State.live at room
      rw [decide_eq_true_iff] at room
      simp only [List.length_append, List.length_singleton]
      omega
    · exact h
  · exact h

/-! ### `State.offer` -/

@[simp] theorem offer_port (s : State) (item : Nat) (body : EventBody) :
    (s.offer item body).port = s.port := by
  obtain ⟨q, h⟩ := offer_changes_queue s item body; rw [h]
@[simp] theorem offer_line (s : State) (item : Nat) (body : EventBody) :
    (s.offer item body).line = s.line := by
  obtain ⟨q, h⟩ := offer_changes_queue s item body; rw [h]
@[simp] theorem offer_returns (s : State) (item : Nat) (body : EventBody) :
    (s.offer item body).returns = s.returns := by
  obtain ⟨q, h⟩ := offer_changes_queue s item body; rw [h]
@[simp] theorem offer_lanes (s : State) (item : Nat) (body : EventBody) :
    (s.offer item body).lanes = s.lanes := by
  obtain ⟨q, h⟩ := offer_changes_queue s item body; rw [h]
@[simp] theorem offer_items (s : State) (item : Nat) (body : EventBody) :
    (s.offer item body).items = s.items := by
  obtain ⟨q, h⟩ := offer_changes_queue s item body; rw [h]
@[simp] theorem offer_bus (s : State) (item : Nat) (body : EventBody) :
    (s.offer item body).bus = s.bus := by
  obtain ⟨q, h⟩ := offer_changes_queue s item body; rw [h]
@[simp] theorem offer_plan (s : State) (item : Nat) (body : EventBody) :
    (s.offer item body).plan = s.plan := by
  obtain ⟨q, h⟩ := offer_changes_queue s item body; rw [h]
@[simp] theorem offer_sorter (s : State) (item : Nat) (body : EventBody) :
    (s.offer item body).sorter = s.sorter := by
  obtain ⟨q, h⟩ := offer_changes_queue s item body; rw [h]
@[simp] theorem offer_totes (s : State) (item : Nat) (body : EventBody) :
    (s.offer item body).totes = s.totes := by
  obtain ⟨q, h⟩ := offer_changes_queue s item body; rw [h]
@[simp] theorem offer_pending (s : State) (item : Nat) (body : EventBody) :
    (s.offer item body).pending = s.pending := by
  obtain ⟨q, h⟩ := offer_changes_queue s item body; rw [h]
@[simp] theorem offer_draws (s : State) (item : Nat) (body : EventBody) :
    (s.offer item body).draws = s.draws := by
  obtain ⟨q, h⟩ := offer_changes_queue s item body; rw [h]

/-! ### `State.offerLineState` -/

@[simp] theorem offerLineState_port (s : State) (cause : LineCause) :
    (s.offerLineState cause).port = s.port := by
  simp [State.offerLineState]
@[simp] theorem offerLineState_line (s : State) (cause : LineCause) :
    (s.offerLineState cause).line = s.line := by
  simp [State.offerLineState]
@[simp] theorem offerLineState_returns (s : State) (cause : LineCause) :
    (s.offerLineState cause).returns = s.returns := by
  simp [State.offerLineState]
@[simp] theorem offerLineState_lanes (s : State) (cause : LineCause) :
    (s.offerLineState cause).lanes = s.lanes := by
  simp [State.offerLineState]
@[simp] theorem offerLineState_items (s : State) (cause : LineCause) :
    (s.offerLineState cause).items = s.items := by
  simp [State.offerLineState]
@[simp] theorem offerLineState_bus (s : State) (cause : LineCause) :
    (s.offerLineState cause).bus = s.bus := by
  simp [State.offerLineState]
@[simp] theorem offerLineState_plan (s : State) (cause : LineCause) :
    (s.offerLineState cause).plan = s.plan := by
  simp [State.offerLineState]
@[simp] theorem offerLineState_sorter (s : State) (cause : LineCause) :
    (s.offerLineState cause).sorter = s.sorter := by
  simp [State.offerLineState]
@[simp] theorem offerLineState_totes (s : State) (cause : LineCause) :
    (s.offerLineState cause).totes = s.totes := by
  simp [State.offerLineState]
@[simp] theorem offerLineState_pending (s : State) (cause : LineCause) :
    (s.offerLineState cause).pending = s.pending := by
  simp [State.offerLineState]
@[simp] theorem offerLineState_draws (s : State) (cause : LineCause) :
    (s.offerLineState cause).draws = s.draws := by
  simp [State.offerLineState]

/-! ### `State.setPause` -/

@[simp] theorem setPause_port (s : State) (why : PauseCause) (cause : LineCause) :
    (s.setPause why cause).port = s.port := by
  unfold State.setPause; split <;> simp
@[simp] theorem setPause_returns (s : State) (why : PauseCause) (cause : LineCause) :
    (s.setPause why cause).returns = s.returns := by
  unfold State.setPause; split <;> simp
@[simp] theorem setPause_lanes (s : State) (why : PauseCause) (cause : LineCause) :
    (s.setPause why cause).lanes = s.lanes := by
  unfold State.setPause; split <;> simp
@[simp] theorem setPause_items (s : State) (why : PauseCause) (cause : LineCause) :
    (s.setPause why cause).items = s.items := by
  unfold State.setPause; split <;> simp
@[simp] theorem setPause_bus (s : State) (why : PauseCause) (cause : LineCause) :
    (s.setPause why cause).bus = s.bus := by
  unfold State.setPause; split <;> simp
@[simp] theorem setPause_plan (s : State) (why : PauseCause) (cause : LineCause) :
    (s.setPause why cause).plan = s.plan := by
  unfold State.setPause; split <;> simp
@[simp] theorem setPause_sorter (s : State) (why : PauseCause) (cause : LineCause) :
    (s.setPause why cause).sorter = s.sorter := by
  unfold State.setPause; split <;> simp
@[simp] theorem setPause_totes (s : State) (why : PauseCause) (cause : LineCause) :
    (s.setPause why cause).totes = s.totes := by
  unfold State.setPause; split <;> simp
@[simp] theorem setPause_pending (s : State) (why : PauseCause) (cause : LineCause) :
    (s.setPause why cause).pending = s.pending := by
  unfold State.setPause; split <;> simp
@[simp] theorem setPause_draws (s : State) (why : PauseCause) (cause : LineCause) :
    (s.setPause why cause).draws = s.draws := by
  unfold State.setPause; split <;> simp

/-! ### `State.endTest` -/

@[simp] theorem endTest_port (s : State) :
    (s.endTest).port = s.port := by
  unfold State.endTest; split <;> simp
@[simp] theorem endTest_returns (s : State) :
    (s.endTest).returns = s.returns := by
  unfold State.endTest; split <;> simp
@[simp] theorem endTest_lanes (s : State) :
    (s.endTest).lanes = s.lanes := by
  unfold State.endTest; split <;> simp
@[simp] theorem endTest_items (s : State) :
    (s.endTest).items = s.items := by
  unfold State.endTest; split <;> simp
@[simp] theorem endTest_bus (s : State) :
    (s.endTest).bus = s.bus := by
  unfold State.endTest; split <;> simp
@[simp] theorem endTest_plan (s : State) :
    (s.endTest).plan = s.plan := by
  unfold State.endTest; split <;> simp
@[simp] theorem endTest_sorter (s : State) :
    (s.endTest).sorter = s.sorter := by
  unfold State.endTest; split <;> simp
@[simp] theorem endTest_totes (s : State) :
    (s.endTest).totes = s.totes := by
  unfold State.endTest; split <;> simp
@[simp] theorem endTest_pending (s : State) :
    (s.endTest).pending = s.pending := by
  unfold State.endTest; split <;> simp
@[simp] theorem endTest_draws (s : State) :
    (s.endTest).draws = s.draws := by
  unfold State.endTest; split <;> simp

/-! ### `State.settleRa` -/

@[simp] theorem settleRa_port (s : State) (n : Nat) :
    (s.settleRa n).port = s.port := by
  unfold State.settleRa; split
  · rfl
  · split <;> simp
@[simp] theorem settleRa_queue (s : State) (n : Nat) :
    (s.settleRa n).queue = s.queue := by
  unfold State.settleRa; split
  · rfl
  · split <;> simp
@[simp] theorem settleRa_line (s : State) (n : Nat) :
    (s.settleRa n).line = s.line := by
  unfold State.settleRa; split
  · rfl
  · split <;> simp
@[simp] theorem settleRa_lanes (s : State) (n : Nat) :
    (s.settleRa n).lanes = s.lanes := by
  unfold State.settleRa; split
  · rfl
  · split <;> simp
@[simp] theorem settleRa_items (s : State) (n : Nat) :
    (s.settleRa n).items = s.items := by
  unfold State.settleRa; split
  · rfl
  · split <;> simp
@[simp] theorem settleRa_bus (s : State) (n : Nat) :
    (s.settleRa n).bus = s.bus := by
  unfold State.settleRa; split
  · rfl
  · split <;> simp
@[simp] theorem settleRa_plan (s : State) (n : Nat) :
    (s.settleRa n).plan = s.plan := by
  unfold State.settleRa; split
  · rfl
  · split <;> simp
@[simp] theorem settleRa_sorter (s : State) (n : Nat) :
    (s.settleRa n).sorter = s.sorter := by
  unfold State.settleRa; split
  · rfl
  · split <;> simp
@[simp] theorem settleRa_totes (s : State) (n : Nat) :
    (s.settleRa n).totes = s.totes := by
  unfold State.settleRa; split
  · rfl
  · split <;> simp
@[simp] theorem settleRa_pending (s : State) (n : Nat) :
    (s.settleRa n).pending = s.pending := by
  unfold State.settleRa; split
  · rfl
  · split <;> simp
@[simp] theorem settleRa_draws (s : State) (n : Nat) :
    (s.settleRa n).draws = s.draws := by
  unfold State.settleRa; split
  · rfl
  · split <;> simp

/-! ### `State.settle` -/

@[simp] theorem settle_port (s : State) (l : LaneId) (cause : EndCause) (retired : Nat) :
    (s.settle l cause retired).port = s.port := by
  simp [State.settle, foldl_keeps (fun x => x.port) State.settleRa (fun x n => settleRa_port x n)]
@[simp] theorem settle_items (s : State) (l : LaneId) (cause : EndCause) (retired : Nat) :
    (s.settle l cause retired).items = s.items := by
  simp [State.settle, foldl_keeps (fun x => x.items) State.settleRa (fun x n => settleRa_items x n)]
@[simp] theorem settle_bus (s : State) (l : LaneId) (cause : EndCause) (retired : Nat) :
    (s.settle l cause retired).bus = s.bus := by
  simp [State.settle, foldl_keeps (fun x => x.bus) State.settleRa (fun x n => settleRa_bus x n)]
@[simp] theorem settle_plan (s : State) (l : LaneId) (cause : EndCause) (retired : Nat) :
    (s.settle l cause retired).plan = s.plan := by
  simp [State.settle, foldl_keeps (fun x => x.plan) State.settleRa (fun x n => settleRa_plan x n)]
@[simp] theorem settle_sorter (s : State) (l : LaneId) (cause : EndCause) (retired : Nat) :
    (s.settle l cause retired).sorter = s.sorter := by
  simp [State.settle, foldl_keeps (fun x => x.sorter) State.settleRa (fun x n => settleRa_sorter x n)]
@[simp] theorem settle_totes (s : State) (l : LaneId) (cause : EndCause) (retired : Nat) :
    (s.settle l cause retired).totes = s.totes := by
  simp [State.settle, foldl_keeps (fun x => x.totes) State.settleRa (fun x n => settleRa_totes x n)]
@[simp] theorem settle_pending (s : State) (l : LaneId) (cause : EndCause) (retired : Nat) :
    (s.settle l cause retired).pending = s.pending := by
  simp [State.settle, foldl_keeps (fun x => x.pending) State.settleRa (fun x n => settleRa_pending x n)]
@[simp] theorem settle_draws (s : State) (l : LaneId) (cause : EndCause) (retired : Nat) :
    (s.settle l cause retired).draws = s.draws := by
  simp [State.settle, foldl_keeps (fun x => x.draws) State.settleRa (fun x n => settleRa_draws x n)]

/-! ### `State.settlementTest` -/

@[simp] theorem settlementTest_port (s : State) (l : LaneId) :
    (s.settlementTest l).port = s.port := by
  unfold State.settlementTest; split <;> simp
@[simp] theorem settlementTest_items (s : State) (l : LaneId) :
    (s.settlementTest l).items = s.items := by
  unfold State.settlementTest; split <;> simp
@[simp] theorem settlementTest_bus (s : State) (l : LaneId) :
    (s.settlementTest l).bus = s.bus := by
  unfold State.settlementTest; split <;> simp
@[simp] theorem settlementTest_plan (s : State) (l : LaneId) :
    (s.settlementTest l).plan = s.plan := by
  unfold State.settlementTest; split <;> simp
@[simp] theorem settlementTest_sorter (s : State) (l : LaneId) :
    (s.settlementTest l).sorter = s.sorter := by
  unfold State.settlementTest; split <;> simp
@[simp] theorem settlementTest_totes (s : State) (l : LaneId) :
    (s.settlementTest l).totes = s.totes := by
  unfold State.settlementTest; split <;> simp
@[simp] theorem settlementTest_pending (s : State) (l : LaneId) :
    (s.settlementTest l).pending = s.pending := by
  unfold State.settlementTest; split <;> simp
@[simp] theorem settlementTest_draws (s : State) (l : LaneId) :
    (s.settlementTest l).draws = s.draws := by
  unfold State.settlementTest; split <;> simp

/-! ### `State.closeRecord` -/

@[simp] theorem closeRecord_port (s : State) (n : Nat) (it : Item) (final : EventBody) :
    (s.closeRecord n it final).port = s.port := by
  rfl
@[simp] theorem closeRecord_line (s : State) (n : Nat) (it : Item) (final : EventBody) :
    (s.closeRecord n it final).line = s.line := by
  rfl
@[simp] theorem closeRecord_returns (s : State) (n : Nat) (it : Item) (final : EventBody) :
    (s.closeRecord n it final).returns = s.returns := by
  rfl
@[simp] theorem closeRecord_bus (s : State) (n : Nat) (it : Item) (final : EventBody) :
    (s.closeRecord n it final).bus = s.bus := by
  rfl
@[simp] theorem closeRecord_plan (s : State) (n : Nat) (it : Item) (final : EventBody) :
    (s.closeRecord n it final).plan = s.plan := by
  rfl
@[simp] theorem closeRecord_totes (s : State) (n : Nat) (it : Item) (final : EventBody) :
    (s.closeRecord n it final).totes = s.totes := by
  rfl
@[simp] theorem closeRecord_pending (s : State) (n : Nat) (it : Item) (final : EventBody) :
    (s.closeRecord n it final).pending = s.pending := by
  rfl
@[simp] theorem closeRecord_draws (s : State) (n : Nat) (it : Item) (final : EventBody) :
    (s.closeRecord n it final).draws = s.draws := by
  rfl

/-! ### `State.releaseBank` -/

@[simp] theorem releaseBank_port (s : State) (b : BankId) :
    (s.releaseBank b).port = s.port := by
  unfold State.releaseBank; dsimp only; split <;> simp
@[simp] theorem releaseBank_line (s : State) (b : BankId) :
    (s.releaseBank b).line = s.line := by
  unfold State.releaseBank; dsimp only; split <;> simp
@[simp] theorem releaseBank_returns (s : State) (b : BankId) :
    (s.releaseBank b).returns = s.returns := by
  unfold State.releaseBank; dsimp only; split <;> simp
@[simp] theorem releaseBank_lanes (s : State) (b : BankId) :
    (s.releaseBank b).lanes = s.lanes := by
  unfold State.releaseBank; dsimp only; split <;> simp
@[simp] theorem releaseBank_items (s : State) (b : BankId) :
    (s.releaseBank b).items = s.items := by
  unfold State.releaseBank; dsimp only; split <;> simp
@[simp] theorem releaseBank_bus (s : State) (b : BankId) :
    (s.releaseBank b).bus = s.bus := by
  unfold State.releaseBank; dsimp only; split <;> simp
@[simp] theorem releaseBank_sorter (s : State) (b : BankId) :
    (s.releaseBank b).sorter = s.sorter := by
  unfold State.releaseBank; dsimp only; split <;> simp
@[simp] theorem releaseBank_totes (s : State) (b : BankId) :
    (s.releaseBank b).totes = s.totes := by
  unfold State.releaseBank; dsimp only; split <;> simp
@[simp] theorem releaseBank_pending (s : State) (b : BankId) :
    (s.releaseBank b).pending = s.pending := by
  unfold State.releaseBank; dsimp only; split <;> simp
@[simp] theorem releaseBank_draws (s : State) (b : BankId) :
    (s.releaseBank b).draws = s.draws := by
  unfold State.releaseBank; dsimp only; split <;> simp

/-! ### `State.afterRetirement` -/

@[simp] theorem afterRetirement_port (s : State) (it : Item) (tell : Bool) :
    (s.afterRetirement it tell).port = s.port := by
  unfold State.afterRetirement; dsimp only; split <;> split <;> simp
@[simp] theorem afterRetirement_items (s : State) (it : Item) (tell : Bool) :
    (s.afterRetirement it tell).items = s.items := by
  unfold State.afterRetirement; dsimp only; split <;> split <;> simp
@[simp] theorem afterRetirement_bus (s : State) (it : Item) (tell : Bool) :
    (s.afterRetirement it tell).bus = s.bus := by
  unfold State.afterRetirement; dsimp only; split <;> split <;> simp
@[simp] theorem afterRetirement_sorter (s : State) (it : Item) (tell : Bool) :
    (s.afterRetirement it tell).sorter = s.sorter := by
  unfold State.afterRetirement; dsimp only; split <;> split <;> simp
@[simp] theorem afterRetirement_totes (s : State) (it : Item) (tell : Bool) :
    (s.afterRetirement it tell).totes = s.totes := by
  unfold State.afterRetirement; dsimp only; split <;> split <;> simp
@[simp] theorem afterRetirement_pending (s : State) (it : Item) (tell : Bool) :
    (s.afterRetirement it tell).pending = s.pending := by
  unfold State.afterRetirement; dsimp only; split <;> split <;> simp
@[simp] theorem afterRetirement_draws (s : State) (it : Item) (tell : Bool) :
    (s.afterRetirement it tell).draws = s.draws := by
  unfold State.afterRetirement; dsimp only; split <;> split <;> simp

/-! ### `State.withdraw` -/

@[simp] theorem withdraw_port (s : State) (n : Nat) (why : WithdrawReason) (tell : Bool) :
    (s.withdraw n why tell).port = s.port := by
  unfold State.withdraw; split <;> simp
@[simp] theorem withdraw_bus (s : State) (n : Nat) (why : WithdrawReason) (tell : Bool) :
    (s.withdraw n why tell).bus = s.bus := by
  unfold State.withdraw; split <;> simp
@[simp] theorem withdraw_totes (s : State) (n : Nat) (why : WithdrawReason) (tell : Bool) :
    (s.withdraw n why tell).totes = s.totes := by
  unfold State.withdraw; split <;> simp
@[simp] theorem withdraw_pending (s : State) (n : Nat) (why : WithdrawReason) (tell : Bool) :
    (s.withdraw n why tell).pending = s.pending := by
  unfold State.withdraw; split <;> simp
@[simp] theorem withdraw_draws (s : State) (n : Nat) (why : WithdrawReason) (tell : Bool) :
    (s.withdraw n why tell).draws = s.draws := by
  unfold State.withdraw; split <;> simp

/-! ### `State.abort` -/

@[simp] theorem abort_port (s : State) (l : LaneId) (why : WithdrawReason) (cause : EndCause) :
    (s.abort l why cause).port = s.port := by
  unfold State.abort; dsimp only; split <;>
    simp [foldl_keeps (fun x => x.port) (fun s n => s.withdraw n why false) (fun x n => withdraw_port x n why false)]
@[simp] theorem abort_bus (s : State) (l : LaneId) (why : WithdrawReason) (cause : EndCause) :
    (s.abort l why cause).bus = s.bus := by
  unfold State.abort; dsimp only; split <;>
    simp [foldl_keeps (fun x => x.bus) (fun s n => s.withdraw n why false) (fun x n => withdraw_bus x n why false)]
@[simp] theorem abort_totes (s : State) (l : LaneId) (why : WithdrawReason) (cause : EndCause) :
    (s.abort l why cause).totes = s.totes := by
  unfold State.abort; dsimp only; split <;>
    simp [foldl_keeps (fun x => x.totes) (fun s n => s.withdraw n why false) (fun x n => withdraw_totes x n why false)]
@[simp] theorem abort_pending (s : State) (l : LaneId) (why : WithdrawReason) (cause : EndCause) :
    (s.abort l why cause).pending = s.pending := by
  unfold State.abort; dsimp only; split <;>
    simp [foldl_keeps (fun x => x.pending) (fun s n => s.withdraw n why false) (fun x n => withdraw_pending x n why false)]
@[simp] theorem abort_draws (s : State) (l : LaneId) (why : WithdrawReason) (cause : EndCause) :
    (s.abort l why cause).draws = s.draws := by
  unfold State.abort; dsimp only; split <;>
    simp [foldl_keeps (fun x => x.draws) (fun s n => s.withdraw n why false) (fun x n => withdraw_draws x n why false)]

/-! ### `State.countFound` -/

@[simp] theorem countFound_port (s : State) (it : Item) (found : MatchResult × Option Found) :
    (s.countFound it found).port = s.port := by
  unfold State.countFound; split
  · split
    · split <;> simp
    all_goals rfl
  · rfl
@[simp] theorem countFound_queue (s : State) (it : Item) (found : MatchResult × Option Found) :
    (s.countFound it found).queue = s.queue := by
  unfold State.countFound; split
  · split
    · split <;> simp
    all_goals rfl
  · rfl
@[simp] theorem countFound_line (s : State) (it : Item) (found : MatchResult × Option Found) :
    (s.countFound it found).line = s.line := by
  unfold State.countFound; split
  · split
    · split <;> simp
    all_goals rfl
  · rfl
@[simp] theorem countFound_lanes (s : State) (it : Item) (found : MatchResult × Option Found) :
    (s.countFound it found).lanes = s.lanes := by
  unfold State.countFound; split
  · split
    · split <;> simp
    all_goals rfl
  · rfl
@[simp] theorem countFound_items (s : State) (it : Item) (found : MatchResult × Option Found) :
    (s.countFound it found).items = s.items := by
  unfold State.countFound; split
  · split
    · split <;> simp
    all_goals rfl
  · rfl
@[simp] theorem countFound_bus (s : State) (it : Item) (found : MatchResult × Option Found) :
    (s.countFound it found).bus = s.bus := by
  unfold State.countFound; split
  · split
    · split <;> simp
    all_goals rfl
  · rfl
@[simp] theorem countFound_plan (s : State) (it : Item) (found : MatchResult × Option Found) :
    (s.countFound it found).plan = s.plan := by
  unfold State.countFound; split
  · split
    · split <;> simp
    all_goals rfl
  · rfl
@[simp] theorem countFound_sorter (s : State) (it : Item) (found : MatchResult × Option Found) :
    (s.countFound it found).sorter = s.sorter := by
  unfold State.countFound; split
  · split
    · split <;> simp
    all_goals rfl
  · rfl
@[simp] theorem countFound_totes (s : State) (it : Item) (found : MatchResult × Option Found) :
    (s.countFound it found).totes = s.totes := by
  unfold State.countFound; split
  · split
    · split <;> simp
    all_goals rfl
  · rfl
@[simp] theorem countFound_pending (s : State) (it : Item) (found : MatchResult × Option Found) :
    (s.countFound it found).pending = s.pending := by
  unfold State.countFound; split
  · split
    · split <;> simp
    all_goals rfl
  · rfl
@[simp] theorem countFound_draws (s : State) (it : Item) (found : MatchResult × Option Found) :
    (s.countFound it found).draws = s.draws := by
  unfold State.countFound; split
  · split
    · split <;> simp
    all_goals rfl
  · rfl

/-! ### `State.offerFailure` -/

@[simp] theorem offerFailure_port (s : State) (n : Nat) (b : BankId) (x : Failure) :
    (s.offerFailure n b x).port = s.port := by
  simp [State.offerFailure]
@[simp] theorem offerFailure_line (s : State) (n : Nat) (b : BankId) (x : Failure) :
    (s.offerFailure n b x).line = s.line := by
  simp [State.offerFailure]
@[simp] theorem offerFailure_returns (s : State) (n : Nat) (b : BankId) (x : Failure) :
    (s.offerFailure n b x).returns = s.returns := by
  simp [State.offerFailure]
@[simp] theorem offerFailure_lanes (s : State) (n : Nat) (b : BankId) (x : Failure) :
    (s.offerFailure n b x).lanes = s.lanes := by
  simp [State.offerFailure]
@[simp] theorem offerFailure_items (s : State) (n : Nat) (b : BankId) (x : Failure) :
    (s.offerFailure n b x).items = s.items := by
  simp [State.offerFailure]
@[simp] theorem offerFailure_bus (s : State) (n : Nat) (b : BankId) (x : Failure) :
    (s.offerFailure n b x).bus = s.bus := by
  simp [State.offerFailure]
@[simp] theorem offerFailure_plan (s : State) (n : Nat) (b : BankId) (x : Failure) :
    (s.offerFailure n b x).plan = s.plan := by
  simp [State.offerFailure]
@[simp] theorem offerFailure_sorter (s : State) (n : Nat) (b : BankId) (x : Failure) :
    (s.offerFailure n b x).sorter = s.sorter := by
  simp [State.offerFailure]
@[simp] theorem offerFailure_totes (s : State) (n : Nat) (b : BankId) (x : Failure) :
    (s.offerFailure n b x).totes = s.totes := by
  simp [State.offerFailure]
@[simp] theorem offerFailure_pending (s : State) (n : Nat) (b : BankId) (x : Failure) :
    (s.offerFailure n b x).pending = s.pending := by
  simp [State.offerFailure]
@[simp] theorem offerFailure_draws (s : State) (n : Nat) (b : BankId) (x : Failure) :
    (s.offerFailure n b x).draws = s.draws := by
  simp [State.offerFailure]

/-! ### `State.decideItem` -/

@[simp] theorem decideItem_port (s : State) (n : Nat) :
    (s.decideItem n).port = s.port := by
  unfold State.decideItem; split
  · rfl
  · split
    · rfl
    · simp [foldl_keeps (fun x => x.port) (fun s x => s.offerFailure n _ x) (fun x y => offerFailure_port x n _ y)]
@[simp] theorem decideItem_bus (s : State) (n : Nat) :
    (s.decideItem n).bus = s.bus := by
  unfold State.decideItem; split
  · rfl
  · split
    · rfl
    · simp [foldl_keeps (fun x => x.bus) (fun s x => s.offerFailure n _ x) (fun x y => offerFailure_bus x n _ y)]
@[simp] theorem decideItem_plan (s : State) (n : Nat) :
    (s.decideItem n).plan = s.plan := by
  unfold State.decideItem; split
  · rfl
  · split
    · rfl
    · simp [foldl_keeps (fun x => x.plan) (fun s x => s.offerFailure n _ x) (fun x y => offerFailure_plan x n _ y)]
@[simp] theorem decideItem_sorter (s : State) (n : Nat) :
    (s.decideItem n).sorter = s.sorter := by
  unfold State.decideItem; split
  · rfl
  · split
    · rfl
    · simp [foldl_keeps (fun x => x.sorter) (fun s x => s.offerFailure n _ x) (fun x y => offerFailure_sorter x n _ y)]
@[simp] theorem decideItem_totes (s : State) (n : Nat) :
    (s.decideItem n).totes = s.totes := by
  unfold State.decideItem; split
  · rfl
  · split
    · rfl
    · simp [foldl_keeps (fun x => x.totes) (fun s x => s.offerFailure n _ x) (fun x y => offerFailure_totes x n _ y)]
@[simp] theorem decideItem_pending (s : State) (n : Nat) :
    (s.decideItem n).pending = s.pending := by
  unfold State.decideItem; split
  · rfl
  · split
    · rfl
    · simp [foldl_keeps (fun x => x.pending) (fun s x => s.offerFailure n _ x) (fun x y => offerFailure_pending x n _ y)]
@[simp] theorem decideItem_draws (s : State) (n : Nat) :
    (s.decideItem n).draws = s.draws := by
  unfold State.decideItem; split
  · rfl
  · split
    · rfl
    · simp [foldl_keeps (fun x => x.draws) (fun s x => s.offerFailure n _ x) (fun x y => offerFailure_draws x n _ y)]

/-! ### `State.testItem` -/

@[simp] theorem testItem_port (s : State) (n : Nat) :
    (s.testItem n).port = s.port := by
  unfold State.testItem; split
  · rfl
  · split <;> simp
@[simp] theorem testItem_bus (s : State) (n : Nat) :
    (s.testItem n).bus = s.bus := by
  unfold State.testItem; split
  · rfl
  · split <;> simp
@[simp] theorem testItem_plan (s : State) (n : Nat) :
    (s.testItem n).plan = s.plan := by
  unfold State.testItem; split
  · rfl
  · split <;> simp
@[simp] theorem testItem_sorter (s : State) (n : Nat) :
    (s.testItem n).sorter = s.sorter := by
  unfold State.testItem; split
  · rfl
  · split <;> simp
@[simp] theorem testItem_totes (s : State) (n : Nat) :
    (s.testItem n).totes = s.totes := by
  unfold State.testItem; split
  · rfl
  · split <;> simp
@[simp] theorem testItem_pending (s : State) (n : Nat) :
    (s.testItem n).pending = s.pending := by
  unfold State.testItem; split
  · rfl
  · split <;> simp
@[simp] theorem testItem_draws (s : State) (n : Nat) :
    (s.testItem n).draws = s.draws := by
  unfold State.testItem; split
  · rfl
  · split <;> simp

/-! ### `State.retest` -/

@[simp] theorem retest_port (s : State) (l : LaneId) :
    (s.retest l).port = s.port := by
  unfold State.retest; apply foldl_keeps (fun x => x.port); intro x n; split
  · rfl
  · split <;> simp
@[simp] theorem retest_bus (s : State) (l : LaneId) :
    (s.retest l).bus = s.bus := by
  unfold State.retest; apply foldl_keeps (fun x => x.bus); intro x n; split
  · rfl
  · split <;> simp
@[simp] theorem retest_plan (s : State) (l : LaneId) :
    (s.retest l).plan = s.plan := by
  unfold State.retest; apply foldl_keeps (fun x => x.plan); intro x n; split
  · rfl
  · split <;> simp
@[simp] theorem retest_sorter (s : State) (l : LaneId) :
    (s.retest l).sorter = s.sorter := by
  unfold State.retest; apply foldl_keeps (fun x => x.sorter); intro x n; split
  · rfl
  · split <;> simp
@[simp] theorem retest_totes (s : State) (l : LaneId) :
    (s.retest l).totes = s.totes := by
  unfold State.retest; apply foldl_keeps (fun x => x.totes); intro x n; split
  · rfl
  · split <;> simp
@[simp] theorem retest_pending (s : State) (l : LaneId) :
    (s.retest l).pending = s.pending := by
  unfold State.retest; apply foldl_keeps (fun x => x.pending); intro x n; split
  · rfl
  · split <;> simp
@[simp] theorem retest_draws (s : State) (l : LaneId) :
    (s.retest l).draws = s.draws := by
  unfold State.retest; apply foldl_keeps (fun x => x.draws); intro x n; split
  · rfl
  · split <;> simp

/-! ### `State.offerLotOpen` -/

@[simp] theorem offerLotOpen_port (s : State) (d : Nat) :
    (s.offerLotOpen d).port = s.port := by
  unfold State.offerLotOpen; split <;> simp
@[simp] theorem offerLotOpen_line (s : State) (d : Nat) :
    (s.offerLotOpen d).line = s.line := by
  unfold State.offerLotOpen; split <;> simp
@[simp] theorem offerLotOpen_returns (s : State) (d : Nat) :
    (s.offerLotOpen d).returns = s.returns := by
  unfold State.offerLotOpen; split <;> simp
@[simp] theorem offerLotOpen_lanes (s : State) (d : Nat) :
    (s.offerLotOpen d).lanes = s.lanes := by
  unfold State.offerLotOpen; split <;> simp
@[simp] theorem offerLotOpen_items (s : State) (d : Nat) :
    (s.offerLotOpen d).items = s.items := by
  unfold State.offerLotOpen; split <;> simp
@[simp] theorem offerLotOpen_bus (s : State) (d : Nat) :
    (s.offerLotOpen d).bus = s.bus := by
  unfold State.offerLotOpen; split <;> simp
@[simp] theorem offerLotOpen_plan (s : State) (d : Nat) :
    (s.offerLotOpen d).plan = s.plan := by
  unfold State.offerLotOpen; split <;> simp
@[simp] theorem offerLotOpen_sorter (s : State) (d : Nat) :
    (s.offerLotOpen d).sorter = s.sorter := by
  unfold State.offerLotOpen; split <;> simp
@[simp] theorem offerLotOpen_totes (s : State) (d : Nat) :
    (s.offerLotOpen d).totes = s.totes := by
  unfold State.offerLotOpen; split <;> simp
@[simp] theorem offerLotOpen_pending (s : State) (d : Nat) :
    (s.offerLotOpen d).pending = s.pending := by
  unfold State.offerLotOpen; split <;> simp
@[simp] theorem offerLotOpen_draws (s : State) (d : Nat) :
    (s.offerLotOpen d).draws = s.draws := by
  unfold State.offerLotOpen; split <;> simp

/-! ### `State.advance` -/

@[simp] theorem advance_port (s : State) (d : Nat) :
    (s.advance d).port = s.port := by
  unfold State.advance; split <;> simp
@[simp] theorem advance_line (s : State) (d : Nat) :
    (s.advance d).line = s.line := by
  unfold State.advance; split <;> simp
@[simp] theorem advance_returns (s : State) (d : Nat) :
    (s.advance d).returns = s.returns := by
  unfold State.advance; split <;> simp
@[simp] theorem advance_lanes (s : State) (d : Nat) :
    (s.advance d).lanes = s.lanes := by
  unfold State.advance; split <;> simp
@[simp] theorem advance_items (s : State) (d : Nat) :
    (s.advance d).items = s.items := by
  unfold State.advance; split <;> simp
@[simp] theorem advance_bus (s : State) (d : Nat) :
    (s.advance d).bus = s.bus := by
  unfold State.advance; split <;> simp
@[simp] theorem advance_plan (s : State) (d : Nat) :
    (s.advance d).plan = s.plan := by
  unfold State.advance; split <;> simp
@[simp] theorem advance_sorter (s : State) (d : Nat) :
    (s.advance d).sorter = s.sorter := by
  unfold State.advance; split <;> simp
@[simp] theorem advance_pending (s : State) (d : Nat) :
    (s.advance d).pending = s.pending := by
  unfold State.advance; split <;> simp
@[simp] theorem advance_draws (s : State) (d : Nat) :
    (s.advance d).draws = s.draws := by
  unfold State.advance; split <;> simp

/-! ### `State.stall` -/

@[simp] theorem stall_port (s : State) (d : Nat) (cause : ChainMode) (tote : Nat) :
    (s.stall d cause tote).port = s.port := by
  simp [State.stall]
@[simp] theorem stall_line (s : State) (d : Nat) (cause : ChainMode) (tote : Nat) :
    (s.stall d cause tote).line = s.line := by
  simp [State.stall]
@[simp] theorem stall_returns (s : State) (d : Nat) (cause : ChainMode) (tote : Nat) :
    (s.stall d cause tote).returns = s.returns := by
  simp [State.stall]
@[simp] theorem stall_lanes (s : State) (d : Nat) (cause : ChainMode) (tote : Nat) :
    (s.stall d cause tote).lanes = s.lanes := by
  simp [State.stall]
@[simp] theorem stall_items (s : State) (d : Nat) (cause : ChainMode) (tote : Nat) :
    (s.stall d cause tote).items = s.items := by
  simp [State.stall]
@[simp] theorem stall_bus (s : State) (d : Nat) (cause : ChainMode) (tote : Nat) :
    (s.stall d cause tote).bus = s.bus := by
  simp [State.stall]
@[simp] theorem stall_plan (s : State) (d : Nat) (cause : ChainMode) (tote : Nat) :
    (s.stall d cause tote).plan = s.plan := by
  simp [State.stall]
@[simp] theorem stall_sorter (s : State) (d : Nat) (cause : ChainMode) (tote : Nat) :
    (s.stall d cause tote).sorter = s.sorter := by
  simp [State.stall]
@[simp] theorem stall_pending (s : State) (d : Nat) (cause : ChainMode) (tote : Nat) :
    (s.stall d cause tote).pending = s.pending := by
  simp [State.stall]
@[simp] theorem stall_draws (s : State) (d : Nat) (cause : ChainMode) (tote : Nat) :
    (s.stall d cause tote).draws = s.draws := by
  simp [State.stall]

/-! ### `State.nextStep` -/

@[simp] theorem nextStep_port (s : State) (d : Nat) (t : Tote) :
    (s.nextStep d t).port = s.port := by
  unfold State.nextStep; split <;> simp
@[simp] theorem nextStep_line (s : State) (d : Nat) (t : Tote) :
    (s.nextStep d t).line = s.line := by
  unfold State.nextStep; split <;> simp
@[simp] theorem nextStep_returns (s : State) (d : Nat) (t : Tote) :
    (s.nextStep d t).returns = s.returns := by
  unfold State.nextStep; split <;> simp
@[simp] theorem nextStep_lanes (s : State) (d : Nat) (t : Tote) :
    (s.nextStep d t).lanes = s.lanes := by
  unfold State.nextStep; split <;> simp
@[simp] theorem nextStep_items (s : State) (d : Nat) (t : Tote) :
    (s.nextStep d t).items = s.items := by
  unfold State.nextStep; split <;> simp
@[simp] theorem nextStep_bus (s : State) (d : Nat) (t : Tote) :
    (s.nextStep d t).bus = s.bus := by
  unfold State.nextStep; split <;> simp
@[simp] theorem nextStep_plan (s : State) (d : Nat) (t : Tote) :
    (s.nextStep d t).plan = s.plan := by
  unfold State.nextStep; split <;> simp
@[simp] theorem nextStep_sorter (s : State) (d : Nat) (t : Tote) :
    (s.nextStep d t).sorter = s.sorter := by
  unfold State.nextStep; split <;> simp
@[simp] theorem nextStep_pending (s : State) (d : Nat) (t : Tote) :
    (s.nextStep d t).pending = s.pending := by
  unfold State.nextStep; split <;> simp
@[simp] theorem nextStep_draws (s : State) (d : Nat) (t : Tote) :
    (s.nextStep d t).draws = s.draws := by
  unfold State.nextStep; split <;> simp

/-! ### `State.takeIntoLot` -/

@[simp] theorem takeIntoLot_port (s : State) (d : Nat) (t : Tote) :
    (s.takeIntoLot d t).port = s.port := by
  unfold State.takeIntoLot; dsimp only; split <;> simp
@[simp] theorem takeIntoLot_line (s : State) (d : Nat) (t : Tote) :
    (s.takeIntoLot d t).line = s.line := by
  unfold State.takeIntoLot; dsimp only; split <;> simp
@[simp] theorem takeIntoLot_returns (s : State) (d : Nat) (t : Tote) :
    (s.takeIntoLot d t).returns = s.returns := by
  unfold State.takeIntoLot; dsimp only; split <;> simp
@[simp] theorem takeIntoLot_lanes (s : State) (d : Nat) (t : Tote) :
    (s.takeIntoLot d t).lanes = s.lanes := by
  unfold State.takeIntoLot; dsimp only; split <;> simp
@[simp] theorem takeIntoLot_items (s : State) (d : Nat) (t : Tote) :
    (s.takeIntoLot d t).items = s.items := by
  unfold State.takeIntoLot; dsimp only; split <;> simp
@[simp] theorem takeIntoLot_bus (s : State) (d : Nat) (t : Tote) :
    (s.takeIntoLot d t).bus = s.bus := by
  unfold State.takeIntoLot; dsimp only; split <;> simp
@[simp] theorem takeIntoLot_plan (s : State) (d : Nat) (t : Tote) :
    (s.takeIntoLot d t).plan = s.plan := by
  unfold State.takeIntoLot; dsimp only; split <;> simp
@[simp] theorem takeIntoLot_sorter (s : State) (d : Nat) (t : Tote) :
    (s.takeIntoLot d t).sorter = s.sorter := by
  unfold State.takeIntoLot; dsimp only; split <;> simp
@[simp] theorem takeIntoLot_pending (s : State) (d : Nat) (t : Tote) :
    (s.takeIntoLot d t).pending = s.pending := by
  unfold State.takeIntoLot; dsimp only; split <;> simp
@[simp] theorem takeIntoLot_draws (s : State) (d : Nat) (t : Tote) :
    (s.takeIntoLot d t).draws = s.draws := by
  unfold State.takeIntoLot; dsimp only; split <;> simp

/-! ### `State.complete` -/

@[simp] theorem complete_port (s : State) (d : Nat) (t : Tote) (why : CompletionReason) (item : Nat) :
    (s.complete d t why item).port = s.port := by
  simp [State.complete]
@[simp] theorem complete_line (s : State) (d : Nat) (t : Tote) (why : CompletionReason) (item : Nat) :
    (s.complete d t why item).line = s.line := by
  simp [State.complete]
@[simp] theorem complete_returns (s : State) (d : Nat) (t : Tote) (why : CompletionReason) (item : Nat) :
    (s.complete d t why item).returns = s.returns := by
  simp [State.complete]
@[simp] theorem complete_lanes (s : State) (d : Nat) (t : Tote) (why : CompletionReason) (item : Nat) :
    (s.complete d t why item).lanes = s.lanes := by
  simp [State.complete]
@[simp] theorem complete_items (s : State) (d : Nat) (t : Tote) (why : CompletionReason) (item : Nat) :
    (s.complete d t why item).items = s.items := by
  simp [State.complete]
@[simp] theorem complete_bus (s : State) (d : Nat) (t : Tote) (why : CompletionReason) (item : Nat) :
    (s.complete d t why item).bus = s.bus := by
  simp [State.complete]
@[simp] theorem complete_plan (s : State) (d : Nat) (t : Tote) (why : CompletionReason) (item : Nat) :
    (s.complete d t why item).plan = s.plan := by
  simp [State.complete]
@[simp] theorem complete_sorter (s : State) (d : Nat) (t : Tote) (why : CompletionReason) (item : Nat) :
    (s.complete d t why item).sorter = s.sorter := by
  simp [State.complete]
@[simp] theorem complete_pending (s : State) (d : Nat) (t : Tote) (why : CompletionReason) (item : Nat) :
    (s.complete d t why item).pending = s.pending := by
  simp [State.complete]
@[simp] theorem complete_draws (s : State) (d : Nat) (t : Tote) (why : CompletionReason) (item : Nat) :
    (s.complete d t why item).draws = s.draws := by
  simp [State.complete]

/-! ### `State.afterDrop` -/

@[simp] theorem afterDrop_port (s : State) (d : Nat) (t : Tote) (item : Nat) :
    (s.afterDrop d t item).port = s.port := by
  unfold State.afterDrop; split
  · simp
  · split <;> simp
@[simp] theorem afterDrop_line (s : State) (d : Nat) (t : Tote) (item : Nat) :
    (s.afterDrop d t item).line = s.line := by
  unfold State.afterDrop; split
  · simp
  · split <;> simp
@[simp] theorem afterDrop_returns (s : State) (d : Nat) (t : Tote) (item : Nat) :
    (s.afterDrop d t item).returns = s.returns := by
  unfold State.afterDrop; split
  · simp
  · split <;> simp
@[simp] theorem afterDrop_lanes (s : State) (d : Nat) (t : Tote) (item : Nat) :
    (s.afterDrop d t item).lanes = s.lanes := by
  unfold State.afterDrop; split
  · simp
  · split <;> simp
@[simp] theorem afterDrop_items (s : State) (d : Nat) (t : Tote) (item : Nat) :
    (s.afterDrop d t item).items = s.items := by
  unfold State.afterDrop; split
  · simp
  · split <;> simp
@[simp] theorem afterDrop_bus (s : State) (d : Nat) (t : Tote) (item : Nat) :
    (s.afterDrop d t item).bus = s.bus := by
  unfold State.afterDrop; split
  · simp
  · split <;> simp
@[simp] theorem afterDrop_plan (s : State) (d : Nat) (t : Tote) (item : Nat) :
    (s.afterDrop d t item).plan = s.plan := by
  unfold State.afterDrop; split
  · simp
  · split <;> simp
@[simp] theorem afterDrop_sorter (s : State) (d : Nat) (t : Tote) (item : Nat) :
    (s.afterDrop d t item).sorter = s.sorter := by
  unfold State.afterDrop; split
  · simp
  · split <;> simp
@[simp] theorem afterDrop_pending (s : State) (d : Nat) (t : Tote) (item : Nat) :
    (s.afterDrop d t item).pending = s.pending := by
  unfold State.afterDrop; split
  · simp
  · split <;> simp
@[simp] theorem afterDrop_draws (s : State) (d : Nat) (t : Tote) (item : Nat) :
    (s.afterDrop d t item).draws = s.draws := by
  unfold State.afterDrop; split
  · simp
  · split <;> simp

/-! ### The port beside a block's act (R184 to R187) -/

/-- An offer does not look at the Message Port. -/
theorem offer_with_port (s : State) (p : Port) (item : Nat) (body : EventBody) :
    State.offer { s with port := p } item body = { State.offer s item body with port := p } := by
  by_cases h1 : s.enabled body.kind = true
  · have h1' : State.enabled { s with port := p } body.kind = true := h1
    by_cases h2 : s.roomForEvent = true
    · have h2' : State.roomForEvent { s with port := p } = true := h2
      simp only [State.offer, h1, h2, h1', h2', if_true]
    · have h2' : ¬ State.roomForEvent { s with port := p } = true := h2
      simp only [State.offer, h1, h2, h1', h2', if_true, if_false, Bool.false_eq_true]
  · have h1' : ¬ State.enabled { s with port := p } body.kind = true := h1
    simp only [State.offer, h1, h1', if_false, Bool.false_eq_true]

/-- A request that is taken into service, whose act leaves the port alone and answers with `st` and `d` in state `t`, ends in
`t` with the port's answer. -/
theorem serve_taken (s t : State) (tag kind : Nat) (act : State → Answer) (st : Status) (d : ReplyData)
    (h : s.serving = false) (ha : act s.frameTaken = ⟨{ t with port := s.frameTaken.port }, st, d⟩) :
    s.serve tag kind act = { t with port := s.port.answered ⟨tag, kind, st, d⟩ } := by
  unfold State.serve
  have h' : s.frameTaken.port.service.isSome = false := h
  simp only [h', ha]
  simp only [Bool.false_eq_true, if_false, State.reply, Port.answered, State.frameTaken]
  cases s.port.sending <;> simp

/-! ### Slots -/

/-- Two changes of one slot are one change. -/
@[simp] theorem modSlot_modSlot (s : State) (x : SlotId) (f g : Slot → Slot) :
    (s.modSlot x f).modSlot x g = s.modSlot x fun y => g (f y) := by
  rcases x with ⟨l, r⟩; cases l <;> cases r <;> rfl

/-- A change of a slot depends only on what it makes of that slot. -/
theorem modSlot_congr (s : State) (x : SlotId) (f g : Slot → Slot) (h : f (s.slot x) = g (s.slot x)) :
    s.modSlot x f = s.modSlot x g := by
  rcases x with ⟨l, r⟩
  cases l <;> cases r <;>
    simp [State.modSlot, State.slot, Quad.at, PerRole.at, Quad.modify, PerRole.modify] at h ⊢ <;> exact h

/-! ### One destination, item or record -/

@[simp] theorem modDest_modDest (s : State) (d : Nat) (f g : Destination → Destination) :
    (s.modDest d f).modDest d g = s.modDest d fun x => g (f x) := by simp [State.modDest]

/-- A change of a destination depends only on what it makes of that destination. -/
theorem modDest_congr (s : State) (d : Nat) (x : Destination) (f g : Destination → Destination)
    (hw : s.totes.dests.wf = true) (hx : s.totes.dests.lookup d = some x) (h : f x = g x) :
    s.modDest d f = s.modDest d g := by
  simp only [State.modDest, modify_congr _ _ _ f g hw hx h]

theorem modItem_congr (s : State) (n : Nat) (it : Item) (f g : Item → Item) (hw : s.items.records.wf = true)
    (hx : s.item n = some it) (h : f it = g it) : s.modItem n f = s.modItem n g := by
  simp only [State.modItem, modify_congr _ _ _ f g hw hx h]

theorem modRa_congr (s : State) (n : Nat) (r : Ra) (f g : Ra → Ra) (hw : s.returns.records.wf = true)
    (hx : s.ra n = some r) (h : f r = g r) : s.modRa n f = s.modRa n g := by
  simp only [State.modRa, modify_congr _ _ _ f g hw hx h]

theorem dest_of_lookup (s : State) (d : Nat) (x : Destination) (h : s.totes.dests.lookup d = some x) : s.dest d = x := by
  simp [State.dest, h]

theorem dest_modDest (s : State) (d : Nat) (x : Destination) (f : Destination → Destination)
    (h : s.totes.dests.lookup d = some x) : (s.modDest d f).dest d = f x := by
  simp [State.dest, State.modDest, h]

/-- The sixteen destinations stand in a canonical table (R151). -/
theorem canonical_dests (s : State) (h : s.canonical = true) : s.totes.dests.wf = true := by
  simp only [State.canonical, Bool.and_eq_true, decide_eq_true_eq] at h
  have e : risingKeys s.totes.dests.entries = risingKeys ((List.range 16).map fun k => (k, ())) :=
    risingKeys_keys _ _ (by rw [h.2]; decide)
  exact e.trans (by decide)

/-! ### Counters (R2, R3) -/

/-- One place on from the start is the next place. -/
theorem counterAt_wrapNext (lo hi start i : Nat) :
    counterAt lo hi (wrapNext lo hi start) i = counterAt lo hi start (i + 1) := by
  induction i with
  | zero => rfl
  | succ i ih => simp only [counterAt, ih]; rfl

/-- What the search of a counter finds: a free value, the first from the start on. -/
theorem firstFree_spec (taken : Nat → Bool) (lo hi fuel : Nat) : ∀ start n, firstFree taken lo hi fuel start = some n →
    taken n = false ∧ ∃ j, n = counterAt lo hi start j ∧ ∀ i, i < j → taken (counterAt lo hi start i) = true := by
  induction fuel with
  | zero => intro start n h; simp [firstFree] at h
  | succ fuel ih =>
    intro start n h
    unfold firstFree at h
    by_cases ht : taken start = true
    · simp [ht] at h
      obtain ⟨free, j, hj, before⟩ := ih _ _ h
      refine ⟨free, j + 1, by rw [hj, counterAt_wrapNext], ?_⟩
      intro i hi
      cases i with
      | zero => exact ht
      | succ i => rw [← counterAt_wrapNext]; exact before i (by omega)
    · simp [ht] at h
      subst h
      exact ⟨by simpa using ht, 0, rfl, by simp⟩

/-! ### Free orders (log entry 3) -/

/-- Whatever the number, the order it names lists the same entries. -/
theorem permuteBy_perm {α : Type} : ∀ (fuel k : Nat) (l : List α), (permuteBy fuel k l).Perm l := by
  intro fuel
  induction fuel with
  | zero =>
    intro k l
    match l with
    | [] => exact .refl _
    | [_] => exact .refl _
    | _ :: _ :: _ => exact .refl _
  | succ fuel ih =>
    intro k l
    match l with
    | [] => exact .refl _
    | [_] => exact .refl _
    | x :: y :: rest =>
      have hk : k % (x :: y :: rest).length < (x :: y :: rest).length := Nat.mod_lt _ (by simp)
      have hd : (x :: y :: rest).getD (k % (x :: y :: rest).length) x =
          (x :: y :: rest)[k % (x :: y :: rest).length] := by
        rw [List.getD_eq_getElem _ _ hk]
      show List.Perm (_ :: permuteBy fuel _ _) _
      rw [hd]
      exact (List.Perm.cons _ (ih _ _)).trans (List.getElem_cons_eraseIdx_perm hk)

/-- A free order takes every act once. -/
theorem freeOrder_perm {α : Type} (s : State) (acts : List α) : (s.freeOrder acts).Perm acts := permuteBy_perm _ _ _

end Sys2Proof.Machine
end

