-- ==== Sys2Proof/WellFormed.lean ====
section
/-! DEFINITION. Which terms of `Instr` stand for something that can be sent: every number fits its field (R196), a code beyond
a list is beyond it, and a body or an answer fits its length (R184, section 10.6). -/

namespace Sys2Proof

/-- The number fits `k` bytes. -/
def fits (k n : Nat) : Bool := decide (n < 256 ^ k)

/-- A code beyond a list of `values` values is above them, and one byte. -/
def Coded.fits {α : Type} (values : Nat) : Coded α → Bool
  | .known _ => true
  | .beyond c => decide (values ≤ c) && decide (c < 256)

def TagCode.fits (c : TagCode) : Bool := Sys2Proof.fits 3 c.sku && Sys2Proof.fits 5 c.serial

/-- The request kinds (R196). -/
def requestKinds : List Nat :=
  [16, 17, 18, 32, 33, 34, 35, 36, 48, 49, 50, 64, 65, 66, 80, 81, 82, 83, 84, 85, 86, 87, 88, 128, 129, 130, 131, 132,
    133, 144, 145, 146, 147, 148, 149, 150, 151, 160]

def AnswerHead.fits (a : AnswerHead) : Bool :=
  Sys2Proof.fits 1 a.address && Sys2Proof.fits 1 a.echo && Sys2Proof.fits 1 a.ticket

def LineLoad.fits (l : LineLoad) : Bool :=
  Sys2Proof.fits 4 l.sku && Sys2Proof.fits 1 l.category && Sys2Proof.fits 1 l.quantity && Sys2Proof.fits 1 l.pieces &&
    Sys2Proof.fits 2 l.refWeight && decide (l.tags.length < 256) && l.tags.all TagCode.fits

/-- The length of a LOAD RETURN's body. -/
def ReturnLoad.length (r : ReturnLoad) : Nat := 11 + (r.lines.map fun l => 10 + 8 * l.tags.length).sum

def ReturnLoad.fits (r : ReturnLoad) : Bool :=
  Sys2Proof.fits 4 r.ra && Sys2Proof.fits 4 r.account && Sys2Proof.fits 1 r.label && Sys2Proof.fits 1 r.reason &&
    decide (r.lines.length < 256) && r.lines.all LineLoad.fits && decide (r.length ≤ 1024)

def FailAction.fits : FailAction → Bool
  | .penalty n => Sys2Proof.fits 1 n
  | .capB => true
  | .capC => true
  | .capD => true
  | .quarantine => true

def CheckFields.fits (f : CheckFields) : Bool :=
  f.source.fits 11 && f.scope.fits 2 && f.test.fits 5 && Sys2Proof.fits 2 f.lower && Sys2Proof.fits 2 f.upper &&
    f.action.fits 5 && (match f.action with | .known x => x.fits | .beyond _ => true) && f.missing.fits 3

def SettingName.fits : SettingName → Bool
  | .manifestWait => true
  | .decisionWait => true
  | .sweepPeriod => true
  | .downThreshold => true
  | .lapLimit => true
  | .gatePosition g => Sys2Proof.fits 1 g
  | .chainMode d => Sys2Proof.fits 1 d
  | .eventEnable k => Sys2Proof.fits 1 k
  | .beyond c => decide (8 ≤ c) && decide (c < 256)

/-- The value is of the setting's own form (R178, R196). -/
def SettingValue.fits : SettingName → SettingValue → Bool
  | .manifestWait, .num n => Sys2Proof.fits 2 n
  | .decisionWait, .num n => Sys2Proof.fits 1 n
  | .sweepPeriod, .num n => Sys2Proof.fits 1 n
  | .downThreshold, .num n => Sys2Proof.fits 1 n
  | .lapLimit, .num n => Sys2Proof.fits 1 n
  | .gatePosition _, .num n => Sys2Proof.fits 1 n
  | .gatePosition _, .unset => true
  | .chainMode _, .mode m => m.fits 2
  | .eventEnable _, .enable v => v.fits 2
  | .beyond _, .unset => true
  | _, _ => false

def PieceScores.fits (p : PieceScores) : Bool :=
  Sys2Proof.fits 1 p.stain && Sys2Proof.fits 1 p.tear && Sys2Proof.fits 1 p.wear && Sys2Proof.fits 1 p.crease &&
    Sys2Proof.fits 1 p.swingTag && Sys2Proof.fits 1 p.colour

def fitsOption (k : Nat) : Option Nat → Bool
  | none => true
  | some n => fits k n

/-- A command that can be sent. -/
def Instr.wellFormed : Instr → Bool
  | .coldReset _ _ => true
  | .warmReset tag => fits 1 tag
  | .warmResetActs => true
  | .hold _ => true
  | .pitch => true
  | .index => true
  | .sweepTimer => true
  | .turnTimeout _ => true
  | .manifestWaitExpiry ra => fits 4 ra && decide (ra ≠ 0)
  | .decisionWaitExpiry _ => true
  | .interbyteTimeout => true
  | .frameDiscarded held => decide (held.head? = some 0xA5)
  | .unknownRequest tag kind => fits 1 tag && fits 1 kind && !requestKinds.contains kind
  | .busy tag kind => fits 1 tag && fits 1 kind
  | .replySent => true
  | .readItem tag item => fits 1 tag && fits 2 item
  | .withdrawItem tag item => fits 1 tag && fits 2 item
  | .forceGrade tag item grade => fits 1 tag && fits 2 item && grade.fits 5
  | .loadReturn tag load => fits 1 tag && load.fits
  | .addTags tag ra line codes =>
    fits 1 tag && fits 4 ra && fits 1 line && codes.all TagCode.fits && decide (6 + 8 * codes.length ≤ 1024)
  | .amendReturn tag ra label reason quantity =>
    fits 1 tag && fits 4 ra && fitsOption 1 label && fitsOption 1 reason && fitsOption 1 (quantity.map (·.1)) &&
      fitsOption 1 (quantity.map (·.2))
  | .removeReturn tag ra => fits 1 tag && fits 4 ra
  | .readReturn tag ra line => fits 1 tag && fits 4 ra && fitsOption 1 line
  | .openParcel tag lane account pairs =>
    fits 1 tag && fits 1 lane && fits 4 account && (pairs.all fun p => fits 4 p.1 && fits 1 p.2) &&
      decide (6 + 5 * pairs.length ≤ 1024)
  | .closeParcel tag lane => fits 1 tag && fits 1 lane
  | .abortLane tag lane => fits 1 tag && fits 1 lane
  | .enrolStation tag lane role address => fits 1 tag && fits 1 lane && role.fits 5 && fits 1 address
  | .retireStation tag lane role => fits 1 tag && fits 1 lane && role.fits 5
  | .readStation tag lane role => fits 1 tag && fits 1 lane && role.fits 5
  | .writeCheck tag number fields => fits 1 tag && fits 1 number && fields.fits
  | .writeList tag number entries => fits 1 tag && fits 1 number && entries.all (fits 1) && decide (entries.length < 256)
  | .writeProgram tag category list group nominal pieces =>
    fits 1 tag && fits 1 category && fits 1 list && fits 1 group && fits 2 nominal && fits 1 pieces
  | .writeThresholds tag t1 t2 t3 => fits 1 tag && fits 2 t1 && fits 2 t2 && fits 2 t3
  | .writeMap tag cells => fits 1 tag && (cells.all fun c => fits 1 c.1 && fits 1 c.2) && decide (cells.length < 256)
  | .clearBank tag => fits 1 tag
  | .validatePlan tag => fits 1 tag
  | .switchPlan tag => fits 1 tag
  | .setShadow tag value => fits 1 tag && value.fits 2
  | .addTote tag dest tote capacity weightLimit warnAt pause lotEnd =>
    fits 1 tag && fits 1 dest && fits 4 tote && fits 1 capacity && fits 2 weightLimit && fits 1 warnAt && pause.fits 2 &&
      lotEnd.fits 2
  | .confirmSwap tag dest => fits 1 tag && fits 1 dest
  | .setLimit tag dest limit => fits 1 tag && fits 1 dest && fitsOption 4 limit
  | .closeTote tag dest tote => fits 1 tag && fits 1 dest && fits 4 tote
  | .dropChain tag dest => fits 1 tag && fits 1 dest
  | .readDestination tag dest => fits 1 tag && fits 1 dest
  | .startLine tag => fits 1 tag
  | .pauseLine tag => fits 1 tag
  | .resumeLine tag => fits 1 tag
  | .stopLine tag kind => fits 1 tag && kind.fits 2
  | .configure tag name value => fits 1 tag && name.fits && SettingValue.fits name value
  | .readSetting tag name => fits 1 tag && name.fits
  | .readStatus tag => fits 1 tag
  | .fetchEvents tag count => fits 1 tag && fits 1 count
  | .nothing a => a.fits
  | .presented a => a.fits
  | .parcelDone a => a.fits
  | .atEnd a => a.fits
  | .tagReading a codes =>
    a.fits && (codes.all fun c => c.1.fits && c.2.fits 2) && decide (1 + 9 * codes.length < 256)
  | .weight a grams => a.fits && fits 2 grams
  | .vision a pieces => a.fits && pieces.all PieceScores.fits && decide (1 + 6 * pieces.length < 256)
  | .garbledAnswer => true
  | .malformedRequest tag kind => fits 1 tag && requestKinds.contains kind
  | .sweepFrameSent => true
  | .answerOutsideTurn => true

end Sys2Proof
end

