-- ==== Sys2Proof/Tests/Slice0.lean ====
section
/-! SUPPORT. Tests: terms the well-formedness check refuses; a state for the hypotheses of every statement of
Sys2Proof/Certificates; a few byte layouts. -/

namespace Sys2Proof.Tests

open Sys2Proof.Machine

/-! ### Well-formedness: one ill-formed term for each check -/

theorem test_wf_numbers :
    (Instr.warmReset 256).wellFormed = false ∧ (Instr.readItem 0 65536).wellFormed = false ∧
    (Instr.closeTote 0 0 4294967296).wellFormed = false ∧ (Instr.weight ⟨1, 256, 0⟩ 0).wellFormed = false ∧
    (Instr.setLimit 0 0 (some 4294967296)).wellFormed = false ∧ (Instr.manifestWaitExpiry 0).wellFormed = false ∧
    (Instr.amendReturn 0 1 none none (some (256, 1))).wellFormed = false ∧
    (Instr.weight ⟨1, 0, 0⟩ 65536).wellFormed = false := by decide

theorem test_wf_codes :
    (Instr.forceGrade 0 1 (.beyond 4)).wellFormed = false ∧ (Instr.setShadow 0 (.beyond 256)).wellFormed = false ∧
    (Instr.stopLine 0 (.beyond 1)).wellFormed = false ∧ (Instr.readSetting 0 (.beyond 7)).wellFormed = false ∧
    (Instr.unknownRequest 0 16).wellFormed = false ∧ (Instr.malformedRequest 0 19).wellFormed = false ∧
    (Instr.writeCheck 0 0 ⟨.beyond 10, .known .item, .known .atMost, 0, 0, .known .capB, .known .pass⟩).wellFormed =
      false ∧
    (Instr.writeCheck 0 0 ⟨.known .stain, .known .item, .known .atMost, 0, 0, .known (.penalty 256),
      .known .pass⟩).wellFormed = false := by decide

set_option maxRecDepth 8192 in
theorem test_wf_lengths :
    (Instr.frameDiscarded [0x5A]).wellFormed = false ∧ (Instr.frameDiscarded []).wellFormed = false ∧
    (Instr.writeList 0 0 (List.replicate 256 0)).wellFormed = false ∧
    (Instr.writeMap 0 [(0, 256)]).wellFormed = false ∧
    (Instr.openParcel 0 1 5 (List.replicate 204 (1, 0))).wellFormed = false ∧
    (Instr.addTags 0 1 1 (List.replicate 128 ⟨0, 0⟩)).wellFormed = false ∧
    (Instr.addTags 0 1 1 [⟨16777216, 0⟩]).wellFormed = false ∧
    (Instr.vision ⟨1, 0, 0⟩ (List.replicate 43 ⟨0, 0, 0, 0, 0, 0⟩)).wellFormed = false ∧
    (Instr.tagReading ⟨1, 0, 0⟩ (List.replicate 29 (⟨0, 0⟩, .known .good))).wellFormed = false := by decide

set_option maxRecDepth 8192 in
theorem test_wf_forms :
    (Instr.configure 0 .lapLimit .unset).wellFormed = false ∧
    (Instr.configure 0 (.gatePosition 256) .unset).wellFormed = false ∧
    (Instr.loadReturn 0 ⟨1, 1, 0, 0, [⟨0, 0, 256, 0, 0, []⟩]⟩).wellFormed = false ∧
    (Instr.loadReturn 0 ⟨1, 1, 0, 0, List.replicate 102 ⟨0, 0, 0, 0, 0, []⟩⟩).wellFormed = false ∧
    (Instr.loadReturn 0 ⟨1, 1, 0, 0, [⟨7, 1, 1, 1, 0, [⟨7, 1⟩]⟩]⟩).wellFormed = true ∧
    (Instr.configure 0 (.gatePosition 16) .unset).wellFormed = true := by decide

/-! ### The states the tests use -/

/-- A head that is UP and whose outcome in the open sweep is still SILENT. -/
def head (address : Nat) : Slot :=
  { state := .up, address := some address, score := 0, maxScore := 0, lastValid := none, outcome := some .silent }

def benchSlots : List SlotId := allRoles.map fun r => ⟨.l1, r⟩

/-- A sweep of lane 1's five heads, in its turn `k`. -/
def sweepAt (k : Nat) : Sweep :=
  { roll := benchSlots, addresses := [1, 2, 3, 4, 5], verdicts := Quad.all .none,
    lamps := Quad.all { state := .opened, suspended := false }, phase := .turn k }

def busAt (k : Nat) : StationBus :=
  { roster := ⟨⟨head 1, head 2, head 3, head 4, head 5⟩, PerRole.all Slot.vacant, PerRole.all Slot.vacant,
      PerRole.all Slot.vacant⟩,
    number := 9, timer := 20, sweep := some (sweepAt k) }

/-- An item of lane 1 that awaits its three measurements. -/
def newItem : Item :=
  { lane := .l1, ticket := 7, parcel := 1, bank := .b0, state := .measuring, created := 0, decidedTime := none,
    loadedTime := none, tagStatus := .awaited, scaleStatus := .awaited, visionStatus := .awaited, tagState := .noTag,
    weight := none, pieces := [], result := none, matched := none, category := none, expectedPieces := 1, penalty := 0,
    cap := .noCap, quarantine := false, failed := [], grade := none, shadow := none, forced := false, route := none,
    carrier := none, laps := 0 }

/-- The same item decided, graded A and destined for tote gate 0. -/
def graded : Item :=
  { newItem with
    state := .decided, tagStatus := .taken, scaleStatus := .taken, visionStatus := .taken, weight := some 400
    result := some .unread, category := some 31, grade := some .a, decidedTime := some 0, route := some (.tote 0) }

/-- The same item on carrier `c` with a route. -/
def riding (c : Nat) (route : Route) : Item :=
  { graded with state := .sorting, carrier := some c, loadedTime := some 0, route := some route }

def line7 : Line :=
  { sku := 7, category := 4, quantity := 2, received := 0, pieces := 1, refWeight := 420, tags := [⟨⟨7, 1⟩, false⟩] }

def boundRa : Ra :=
  { account := 5, label := 2, reason := 3, state := .bound, mismatch := false, closed := false, boundLane := some .l1,
    matched := 0, timer := none, lines := [line7] }

def expectedRa : Ra := { boundRa with state := .expected, timer := some 1, lines := [] }

def loadedRa : Ra := { boundRa with state := .loaded, boundLane := none }

def activeBank : Bank :=
  { checks := ⟨[(0, ⟨.tagState, .item, .equals 0, .penalty 45, .pass⟩)]⟩, lists := ⟨[(0, [0])]⟩,
    programs := ⟨[(4, ⟨0, 1, 450, 1⟩), (31, ⟨0, 0, 450, 1⟩)]⟩, thresholds := some ⟨10, 30, 60⟩,
    map := ⟨(List.range 20).map fun k => (k, if k < 16 then Dest.gate k else .gateE)⟩, state := .active, valid := true,
    bound := 1 }

def tote100 : Tote :=
  { id := 100, capacity := 3, weightLimit := 3000, warnAt := 2, pause := false, lotEnd := false, count := 1,
    weight := 400, firstDrop := some 0 }

def openLane : Lane :=
  { state := .opened, parcelCounter := 1, account := some 5, boundRas := [100], closeCause := none, queue := [1],
    nextTicket := 8, verdict := .none, timer := none }

/-- The line is RUNNING with all gates placed, lane 1 is OPEN with item `it` in its queue, and the open sweep is in turn
`k`. -/
def bench (k : Nat) (it : Item) : State :=
  { State.reset with
    line := { LineControl.cold false with
      mode := .running, clock := 1000, gatePositions := ⟨(List.range 17).map fun g => (g, 5 * g + 5)⟩ }
    returns := { records := ⟨[(100, boundRa)]⟩ }
    lanes := ⟨openLane, Lane.cold, Lane.cold, Lane.cold⟩
    items := { records := ⟨[(1, it)]⟩, nextNumber := 2 }
    bus := busAt k
    plan := { banks := ⟨activeBank, Bank.cold⟩, shadow := .off }
    sorter := { Sorter.cold with aligned := true }
    totes := { dests := ToteStore.cold.dests.put 0 { Destination.cold with state := .active tote100 } } }

/-- Item 1 rides carrier `c` with a route; lane 1's queue is empty. -/
def ringState (c : Nat) (route : Route) : State :=
  { bench 0 (riding c route) with
    lanes := ⟨{ openLane with queue := [] }, Lane.cold, Lane.cold, Lane.cold⟩
    sorter := { Sorter.cold with aligned := true, carriers := ⟨[(c, 1)]⟩ } }

/-- A request of tag 1 is in service, and its reply is being sent. -/
def inService (s : State) (kind : Nat) (stage : ReplyStage) (sending : Option Sending) (waiting : List Reply) : State :=
  { s with port := { s.port with service := some ⟨1, kind, stage⟩, sending := sending, waiting := waiting } }

def busyReply : Reply := ⟨2, 16, .busy, .headOnly⟩

def headOf (k : Nat) : AnswerHead := ⟨k + 1, 9, 7⟩

theorem test_bench_is_lawful :
    (bench 0 newItem).eventLaw = true ∧ (bench 0 newItem).canonical = true ∧ (bench 0 newItem).itemsPlaced = true ∧
    (bench 0 newItem).returnsLawful = true ∧ (bench 0 newItem).bindingsLawful = true ∧
    (bench 0 newItem).lanesLawful = true ∧ (bench 0 newItem).rosterLawful = true ∧
    (bench 0 newItem).planLawful = true ∧ (bench 0 newItem).totesLawful = true ∧ (bench 0 newItem).sorter.lawful = true ∧
    (bench 0 newItem).line.lawful = true ∧ (bench 0 newItem).port.lawful = true := by decide

theorem test_ring_is_lawful :
    (ringState 4 (.tote 0)).itemsPlaced = true ∧ (ringState 4 (.tote 0)).totesLawful = true ∧
    (ringState 84 (.exception .laps)).itemsPlaced = true ∧ (ringState 4 (.tote 0)).sorter.lawful = true := by decide

/-! ### Witnesses: steps, requests and replies -/

/-- Timers of every kind one millisecond before their end. -/
def timersOut (it : Item) : State :=
  { bench 0 { it with state := .waiting } with
    lanes := ⟨{ openLane with timer := some ⟨1, 1⟩ }, Lane.cold, Lane.cold, Lane.cold⟩
    returns := { records := ⟨[(100, expectedRa)]⟩ }
    bus := { busAt 0 with timer := 1 } }

/-- The same state with the line paused. -/
def paused (s : State) : State := { s with line := { s.line with pause := some .host } }

theorem test_EmptyQueueIsOneMillisecond :
    (timersOut newItem).pending = [] ∧ (timersOut newItem).suspended = false ∧ (timersOut newItem).bus.timer ≤ 1 ∧
    ((timersOut newItem).lanes.at .l1).timer = some ⟨1, 1⟩ ∧ expectedRa.timer = some 1 ∧
    (paused (timersOut newItem)).pending = [] ∧ (paused (timersOut newItem)).suspended = true := by decide

theorem test_RequestsNotDoneChangeNothing :
    ∃ act, requestAct (.withdrawItem 1 9) = some (1, 17, act) ∧ State.reset.serving = false ∧
      (act State.reset.frameTaken).status ≠ .done := ⟨_, rfl, rfl, by decide⟩

theorem test_FramesAnsweredByThePortAlone :
    ((inService .reset 16 .sending (some (.service busyReply)) []).serving = true ∧
      (inService .reset 16 .sending (some (.service busyReply)) []).port.waiting.length < 4 ∧
      (inService .reset 16 .sending (some (.service busyReply)) []).port.sending.isSome = true) ∧
    ((inService .reset 151 .sent none []).serving = true ∧ (inService .reset 151 .sent none []).port.sending = none) ∧
    (inService .reset 16 .sending (some (.service busyReply)) (List.replicate 4 busyReply)).port.waiting.length = 4 ∧
    requestAct (.readStatus 5) = some (5, 150, readStatus) ∧ State.reset.serving = false ∧
    ∀ x ∈ [(1 : Byte), 2], x ≠ startByte := ⟨by decide, by decide, by decide, rfl, by decide, by decide⟩

def doneReply (kind : Nat) : Reply := ⟨1, kind, .done, .headOnly⟩

theorem test_ReplySentStartsTheNext :
    ((inService .reset 16 .sending (some (.service (doneReply 16))) [busyReply]).port.sending =
        some (.service (doneReply 16)) ∧ ¬ ((doneReply 16).kind = 151 ∧ (doneReply 16).status = .done)) ∧
    ((inService .reset 151 .sending (some (.service (doneReply 151))) []).port.service = some ⟨1, 151, .sending⟩ ∧
      (doneReply 151).kind = 151 ∧ (doneReply 151).status = .done) ∧
    ((inService .reset 16 (.waiting (doneReply 16)) (some (.busy busyReply)) []).port.service =
        some ⟨1, 16, .waiting (doneReply 16)⟩) ∧
    ({ Port.cold .baud115200 with sending := some (.busy busyReply), waiting := [busyReply] }).service = none := by
  decide

theorem test_WarmResetReplySentBeforeBusyReplies :
    ((inService .reset 151 .sending (some (.service (doneReply 151))) [busyReply]).port.service =
        some ⟨1, 151, .sending⟩ ∧ (doneReply 151).kind = 151 ∧ (doneReply 151).status = .done) ∧
    (∀ tag kind r, (inService .reset 151 .sent (some (.busy busyReply)) []).port.service ≠
      some ⟨tag, kind, .waiting r⟩) ∧
    ∀ tag kind r, (inService .reset 151 .sent (some (.busy busyReply)) [busyReply]).port.service ≠
      some ⟨tag, kind, .waiting r⟩ :=
  ⟨by decide, (fun _ _ _ h => nomatch h), (fun _ _ _ h => nomatch h)⟩

theorem test_ReadItemAndReadReturnReport :
    (bench 0 newItem).serving = false ∧ (bench 0 newItem).item 1 = some newItem ∧
    (bench 0 newItem).ra 100 = some boundRa ∧ boundRa.lines[1 - 1]? = some line7 ∧ boundRa.lines.length < 2 ∧
    (bench 0 newItem).ra 101 = none := by decide

theorem test_ReadDestinationSettingStatusReport :
    State.reset.serving = false ∧ (bench 0 newItem).totes.dests.lookup 15 = some Destination.cold ∧
    State.reset.line.enables.lookup 1 = some true ∧ State.reset.line.enables.lookup 22 = some true ∧
    State.reset.line.enables.lookup 5 = some false := by decide

/-- The Event Queue holds 256 records. -/
def queueFull (s : State) : State :=
  { s with queue := { s.queue with events := List.replicate 256 ⟨0, 0, .destinationStarved 0⟩ } }

set_option maxRecDepth 8192 in
theorem test_EventsAreOfferedAndFetched :
    State.reset.enabled .itemGraded = false ∧ State.reset.enabled .lineState = true ∧
    State.reset.used + State.reset.live < 256 ∧ (queueFull .reset).enabled .lineState = true ∧
    256 ≤ (queueFull .reset).used + (queueFull .reset).live ∧ (queueFull .reset).serving = false := by decide

/-! ### Witnesses: items and return authorisations -/

/-- Bank 0 is DRAINING with one item bound to it, and bank 1 is ACTIVE. -/
def lastOfItsBank : State :=
  { bench 0 newItem with
    plan := { banks := ⟨{ activeBank with state := .draining }, { activeBank with bound := 0 }⟩, shadow := .off } }

theorem test_WithdrawItemRetiresOrRedirects :
    (lastOfItsBank.item 1 = some newItem ∧ lastOfItsBank.activeBank = some .b1 ∧
      (lastOfItsBank.plan.banks.at newItem.bank).state = .draining ∧ (lastOfItsBank.plan.banks.at newItem.bank).bound ≤ 1 ∧
      lastOfItsBank.enabled .planDrained = true ∧ lastOfItsBank.used + lastOfItsBank.live < 256) ∧
    (bench 0 newItem).item 1 = some newItem ∧ newItem.state ≠ .sorting ∧
    (ringState 4 (.tote 0)).item 1 = some (riding 4 (.tote 0)) ∧ (riding 4 (.tote 0)).state = .sorting ∧
    (ringState 4 (.tote 0)).serving = false := by decide

/-- A lane state, a close cause and a mode in which the retirement of item 1 settles the parcel and ends the stop. -/
def lastOfAll : State :=
  { bench 0 newItem with
    lanes := ⟨{ openLane with state := .closing, closeCause := some .key }, Lane.cold, Lane.cold, Lane.cold⟩
    line := { LineControl.cold false with mode := .draining .drain } }

theorem test_TheLastWithdrawalSettlesTheParcel :
    ((lastOfAll.lanes.at newItem.lane).state = .closing ∧ newItem.decided = false ∧
      (∀ e ∈ lastOfAll.items.records.entries, e.1 ≠ 1 → lastOfAll.undecidedOf newItem.lane e.2 = false) ∧
      (lastOfAll.lanes.at newItem.lane).closeCause = some .key ∧ lastOfAll.enabled .parcelClosed = true ∧
      lastOfAll.used + lastOfAll.live ≤ 254 ∧ lastOfAll.line.mode.isDraining = true) ∧
    ((withdrawItem 1 lastOfAll).state.live = 0 ∧ (withdrawItem 1 lastOfAll).state.line.mode = .setup ∧
      (withdrawItem 1 lastOfAll).state.queue.events.map (fun e => e.body.kind) =
        [.itemWithdrawn, .parcelClosed, .lineState]) ∧
    ((bench 0 newItem).lanes.at newItem.lane).state ≠ .closing ∧ graded.decided = true := by decide

theorem test_ForceGradeReplacesOrDecides :
    ((bench 0 graded).item 1 = some graded ∧ graded.grade.isSome = true ∧
      ((bench 0 graded).plan.banks.at graded.bank).programs.lookup (graded.category.getD 31) = some ⟨0, 0, 450, 1⟩ ∧
      ((bench 0 graded).plan.banks.at graded.bank).map.lookup (4 * gradePlace .q + 0) = some .gateE) ∧
    (newItem.grade = none ∧ newItem.state = .measuring ∧
      ((bench 0 newItem).plan.banks.at newItem.bank).programs.lookup 31 = some ⟨0, 0, 450, 1⟩ ∧
      ((bench 0 newItem).plan.banks.at newItem.bank).map.lookup (4 * gradePlace .a + 0) = some (.gate 0) ∧
      ((bench 0 newItem).lanes.at newItem.lane).state ≠ .closing) := by decide

theorem test_ItemAndLaneRequestsRefused :
    State.reset.serving = false ∧ State.reset.item 1 = none ∧ (bench 0 newItem).item 1 = some newItem := by decide

def load (ra account label : Nat) : ReturnLoad := ⟨ra, account, label, 3, [⟨7, 4, 2, 1, 420, [⟨7, 1⟩]⟩]⟩

theorem load_admissible : loadAdmissible (load 100 5 2) := by
  unfold loadAdmissible; decide

/-- An undecided item whose measurements are settled, with a READ tag. -/
def measured (c : TagCode) : Item :=
  { newItem with tagStatus := .taken, scaleStatus := .taken, visionStatus := .taken, tagState := .read c }

/-- RA 100 is an EXPECTED placeholder of lane 1's parcel. -/
def awaiting (it : Item) : State := { bench 0 it with returns := { records := ⟨[(100, expectedRa)]⟩ } }

theorem test_LoadReturnCreatesOrFills :
    loadAdmissible (load 100 5 2) ∧ ((load 100 5 2).lines.flatMap fun l => l.tags).Nodup ∧
    (load 100 5 2).lines.length ≤ State.reset.linesFree ∧
    ((load 100 5 2).lines.flatMap fun l => l.tags).length ≤ State.reset.tagsFree ∧
    (State.reset.ra 100 = none ∧ State.reset.returns.records.size < 1024) ∧
    ((awaiting graded).ra 100 = some expectedRa ∧ expectedRa.account = 5 ∧ expectedRa.boundLane = some .l1 ∧
      (awaiting graded).anyUndecided .l1 = false) ∧
    ((awaiting (measured ⟨7, 1⟩)).undecidedOf .l1 (measured ⟨7, 1⟩) = true ∧ (measured ⟨7, 1⟩).measured = true ∧
      ((awaiting (measured ⟨7, 1⟩)).modRa 100 fun _ => boundRa).raSettled (measured ⟨7, 1⟩) = true) :=
  ⟨load_admissible, by decide, by decide, by decide, by decide, by decide, by decide⟩

/-- A Return Table of 1024 records. -/
def tableFull (s : State) : State :=
  { s with returns := { records := ⟨(List.range 1024).map fun k => (k + 1000, loadedRa)⟩ } }

/-- The tag pool is full. -/
def tagsFull : State :=
  { State.reset with
    returns := { records := ⟨(100, loadedRa) :: (List.range 1024).map fun k =>
      (k + 1000, { loadedRa with lines := [{ line7 with tags := List.replicate 8 ⟨⟨7, 1⟩, false⟩ }] })⟩ } }

set_option maxRecDepth 16384 in
theorem test_AddTagsAndAmendReturnRefused :
    (State.reset.serving = false ∧ (bench 0 newItem).ra 100 = some boundRa ∧ boundRa.lines.length < 2 ∧
      boundRa.lines[1 - 1]? = some line7 ∧ (⟨8, 2⟩ : TagCode).sku ≠ line7.sku ∧
      line7.quantity < line7.tags.length + 2 ∧ line7.tags.length + 1 ≤ line7.quantity ∧
      ∃ x ∈ line7.tags, x.code = ⟨7, 1⟩) ∧
    (tagsFull.ra 100 = some loadedRa ∧ tagsFull.tagsFree < 1 ∧ [(⟨7, 2⟩ : TagCode)].Nodup ∧
      ∀ m ∈ loadedRa.lines, ∀ x ∈ m.tags, x.code ≠ ⟨7, 2⟩) ∧
    ¬ [(⟨7, 2⟩ : TagCode), ⟨7, 2⟩].Nodup ∧
    ((tagsFull.ra 100 = some loadedRa ∧ loadedRa.state = .loaded) ∧ 0 < line7.tags.length) := by decide

set_option maxRecDepth 16384 in
theorem test_ReturnRequestsRefused :
    ¬ loadAdmissible (load 0 5 2) ∧ loadAdmissible (load 100 5 2) ∧
    ¬ ((⟨100, 5, 2, 3, [⟨7, 4, 2, 1, 420, [⟨7, 1⟩, ⟨7, 1⟩]⟩]⟩ : ReturnLoad).lines.flatMap fun l => l.tags).Nodup ∧
    ((bench 0 newItem).ra 100 = some boundRa ∧ boundRa.state ≠ .expected ∧ boundRa.state ≠ .overdue) ∧
    ((awaiting newItem).ra 100 = some expectedRa ∧ expectedRa.state = .expected ∧ expectedRa.account ≠ 6) ∧
    ((tableFull .reset).ra 100 = none ∧ 1024 ≤ (tableFull .reset).returns.records.size) ∧
    (State.reset.ra 100 = none ∧ boundRa.state = .bound) := by
  refine ⟨fun h => h.1 rfl, load_admissible, ?_, ?_, ?_, ?_, ?_⟩ <;> decide

/-- RA 100 is loaded, in state `x`. -/
def loadedIn (x : RaState) : State :=
  { State.reset with returns := { records := ⟨[(100, { loadedRa with state := x })]⟩ } }

theorem test_AddTagsAmendAndRemoveReturn :
    ((bench 0 newItem).ra 100 = some boundRa ∧ boundRa.lines[1 - 1]? = some line7 ∧
      (∀ c ∈ [(⟨7, 2⟩ : TagCode)], c.sku = line7.sku) ∧ line7.tags.length + 1 ≤ line7.quantity ∧
      [(⟨7, 2⟩ : TagCode)].Nodup ∧ (∀ c ∈ [(⟨7, 2⟩ : TagCode)], ∀ m ∈ boundRa.lines, ∀ x ∈ m.tags, x.code ≠ c) ∧
      1 ≤ (bench 0 newItem).tagsFree) ∧
    ((loadedIn .loaded).ra 100 = some { loadedRa with state := .loaded } ∧ (loadedIn .loaded).serving = false) ∧
    ((loadedIn .short).ra 100 = some { loadedRa with state := .short } ∧ line7.received ≤ 1 ∧ line7.tags.length ≤ 1) := by
  decide

/-! ### Witnesses: lanes -/

/-- Lane 1 is IDLE with RA 100 in state `x`. -/
def idleLane (x : RaState) : State :=
  { bench 0 graded with
    lanes := ⟨{ openLane with state := .idle, account := none, boundRas := [] }, Lane.cold, Lane.cold, Lane.cold⟩
    returns := { records := ⟨[(100, { loadedRa with state := x })]⟩ } }

theorem test_OpenParcelBindsAll :
    (idleLane .short).serving = false ∧ laneOf 1 = some .l1 ∧ ((idleLane .short).lanes.at .l1).state = .idle ∧
    (idleLane .short).usable .l1 = true ∧ (idleLane .short).line.mode = .running ∧
    ([(100, 2), (200, 9)].map fun p => p.1).Nodup ∧
    ((idleLane .short).ra 100 = some { loadedRa with state := .short } ∧ loadedRa.account = 5 ∧ loadedRa.label = 2) ∧
    ((idleLane .short).ra 200 = none ∧ (idleLane .short).returns.records.size + 2 ≤ 1024) := by decide

set_option maxRecDepth 16384 in
theorem test_OpenParcelRefusals :
    laneOf 5 = none ∧ ((bench 0 newItem).lanes.at .l1).state ≠ .idle ∧ (bench 0 newItem).usable .l2 = false ∧
    { LineControl.cold false with mode := .draining .drain }.mode ≠ .running ∧
    ¬ ([(100, 2), (100, 2)].map fun p => p.1).Nodup ∧
    ((tableFull (idleLane .loaded)).ra 100 = none ∧ 1024 ≤ (tableFull (idleLane .loaded)).returns.records.size ∧
      (tableFull (idleLane .loaded)).usable .l1 = true) ∧
    ((idleLane .loaded).ra 100 = some { loadedRa with state := .loaded } ∧ loadedRa.account ≠ 6 ∧ loadedRa.label ≠ 3) ∧
    ((idleLane .bound).ra 100 = some { loadedRa with state := .bound }) ∧
    ((idleLane .complete).ra 100 = some { loadedRa with state := .complete }) := by decide

theorem test_ALeftItemOfALoad :
    ((awaiting newItem).item 1 = some newItem ∧ (awaiting newItem).undecidedOf .l1 newItem = true ∧
      newItem.measured = false) ∧
    ((awaiting (measured ⟨7, 1⟩)).item 1 = some (measured ⟨7, 1⟩) ∧
      (awaiting (measured ⟨7, 1⟩)).raSettled (measured ⟨7, 1⟩) = false) := by decide

/-- RA 100 and 1022 other records: room for one placeholder. -/
def roomForOne : State :=
  { idleLane .loaded with
    returns := { records := ⟨(100, loadedRa) :: (List.range 1022).map fun k => (k + 1000, loadedRa)⟩ } }

set_option maxRecDepth 16384 in
theorem test_TheLastPlaceholder :
    (roomForOne.ra 200 = none ∧ roomForOne.ra 100 = some loadedRa ∧ loadedRa.state = .loaded ∧
      roomForOne.returns.records.size +
        ([(100, 2), (200, 9)].filter fun (q : Nat × Nat) => (roomForOne.ra q.1).isNone).length ≤ 1024) ∧
    (roomForOne.ra 300 = none ∧ 1024 ≤ roomForOne.returns.records.size +
      ([(100, 2), (200, 9)].filter fun (q : Nat × Nat) => (roomForOne.ra q.1).isNone).length) ∧
    (roomForOne.lanes.at .l1).state = .idle ∧ roomForOne.usable .l1 = true ∧ roomForOne.line.mode = .running := by decide

/-- Lane 1 is CLOSING. -/
def closing (it : Item) : State :=
  { bench 0 it with
    lanes := ⟨{ openLane with state := .closing, closeCause := some .key }, Lane.cold, Lane.cold, Lane.cold⟩ }

theorem test_ForceGradeInAClosingLane :
    (closing newItem).serving = false ∧ (closing newItem).item 1 = some newItem ∧
    ((closing newItem).lanes.at newItem.lane).state = .closing ∧
    (((forceGrade 1 (.known .a) (closing newItem)).state.lanes.at .l1).state = .idle ∧
      (forceGrade 1 (.known .a) (closing newItem)).state.queue.events.map (fun e => e.body.kind) = [.parcelClosed]) := by
  decide

theorem test_ClosingAndSettlingAParcel :
    ((bench 0 newItem).anyUndecided .l1 = true ∧ (bench 0 graded).anyUndecided .l1 = false ∧
      ((bench 0 graded).lanes.at .l1).state = .opened) ∧
    (((closing graded).lanes.at .l1).state = .closing ∧ (closing graded).anyUndecided .l1 = false ∧
      ((closing graded).lanes.at .l1).closeCause = some .key) ∧
    ((bench 0 newItem).turnFor ⟨.l1, .entry⟩ (headOf 0) = true ∧ (bench 0 graded).turnFor ⟨.l1, .entry⟩ (headOf 0) = true ∧
      (closing graded).turnFor ⟨.l1, .entry⟩ (headOf 0) = true) := by decide

theorem test_AbortLaneClearsTheLane :
    (bench 0 newItem).itemsPlaced = true ∧ (bench 0 newItem).serving = false ∧
    ((bench 0 newItem).lanes.at .l1).state ≠ .idle ∧ (idleLane .loaded).itemsPlaced = true ∧
    ((idleLane .loaded).lanes.at .l1).state = .idle ∧ (bench 0 newItem).enabled .parcelClosed = true ∧
    (bench 0 newItem).used + (bench 0 newItem).live ≤ 253 := by decide

/-- The measurement slots of lane 1 are DOWN. -/
def headsDown : State :=
  { bench 0 newItem with
    bus := { busAt 0 with
      roster := ⟨⟨head 1, { head 2 with state := .down }, { head 3 with state := .down }, { head 4 with state := .down },
        head 5⟩, PerRole.all Slot.vacant, PerRole.all Slot.vacant, PerRole.all Slot.vacant⟩ } }

theorem test_PresentedIsAdmitted :
    (∀ ticket, ((bench 0 newItem).lanes.at .l1).verdict ≠ .accept ticket) ∧
    ((bench 0 newItem).turnFor ⟨.l1, .entry⟩ (headOf 0) = true ∧ ((bench 0 newItem).lanes.at .l1).state = .opened ∧
      (bench 0 newItem).line.mode = .running ∧ (bench 0 newItem).suspended = false ∧
      ((bench 0 newItem).lanes.at .l1).queue.length < 6 ∧ (bench 0 newItem).used + (bench 0 newItem).live < 256 ∧
      ((bench 0 newItem).slot ⟨.l1, .entry⟩).state = .up ∧ ((bench 0 newItem).slot ⟨.l1, .laneEnd⟩).state = .up ∧
      (bench 0 newItem).activeBank = some .b0 ∧ (bench 0 newItem).issueTicket .l1 = some 8) ∧
    (bench 0 newItem).issueNumber = some 2 ∧
    (headsDown.turnFor ⟨.l1, .entry⟩ (headOf 0) = true ∧ (headsDown.slot ⟨.l1, .tag⟩).state ≠ .up ∧
      (headsDown.slot ⟨.l1, .scale⟩).state ≠ .up ∧ (headsDown.slot ⟨.l1, .vision⟩).state ≠ .up) :=
  ⟨(fun _ h => nomatch h), by decide, by decide, by decide⟩

def withLane (x : Lane) (s : State) : State := { s with lanes := ⟨x, Lane.cold, Lane.cold, Lane.cold⟩ }

def withSlots (entry laneEnd : Slot) (s : State) : State :=
  { s with bus := { s.bus with roster := { s.bus.roster with l1 := ⟨entry, head 2, head 3, head 4, laneEnd⟩ } } }

set_option maxRecDepth 8192 in
theorem test_PresentedIsRefused :
    (withLane { openLane with verdict := .accept 7 } (bench 0 newItem)).turnFor ⟨.l1, .entry⟩ (headOf 0) = true ∧
    ((closing graded).lanes.at .l1).state ≠ .opened ∧ (paused (bench 0 newItem)).suspended = true ∧
    6 ≤ ((withLane { openLane with queue := [1, 2, 3, 4, 5, 6] } (bench 0 newItem)).lanes.at .l1).queue.length ∧
    256 ≤ (queueFull (bench 0 newItem)).used + (queueFull (bench 0 newItem)).live ∧
    ((withSlots { head 1 with state := .down } (head 5) (bench 0 newItem)).slot ⟨.l1, .entry⟩).state ≠ .up ∧
    ((withSlots (head 1) { head 5 with state := .down } (bench 0 newItem)).slot ⟨.l1, .laneEnd⟩).state ≠ .up ∧
    (withSlots (head 1) { head 5 with state := .down } (bench 0 newItem)).turnFor ⟨.l1, .entry⟩ (headOf 0) = true := by
  decide

/-- Item 2 stands before item 1 in lane 1's queue; `it` is the record of item 1. -/
def queuedBehind (it : Item) : State :=
  { bench 4 it with
    items := { records := ⟨[(1, it), (2, { newItem with ticket := 6 })]⟩, nextNumber := 3 }
    lanes := ⟨{ openLane with queue := [2, 1] }, Lane.cold, Lane.cold, Lane.cold⟩ }

def twoQueued : State := queuedBehind newItem

theorem test_AtEndOfADecidedItemBehindTheHead :
    (queuedBehind graded).turnFor ⟨.l1, .laneEnd⟩ (headOf 4) = true ∧ (queuedBehind graded).itemsPlaced = true ∧
    ((queuedBehind graded).lanes.at .l1).queue = [2] ++ 1 :: [] ∧ (queuedBehind graded).item 1 = some graded ∧
    graded.ticket = (headOf 4).ticket ∧ graded.state ≠ .measuring ∧
    (queuedBehind graded).item 2 = some { newItem with ticket := 6 } := by decide

theorem test_AtEndArrivesSkipsOrIsAnOrphan :
    ((bench 4 newItem).turnFor ⟨.l1, .laneEnd⟩ (headOf 4) = true ∧ ((bench 4 newItem).lanes.at .l1).queue = [1] ∧
      newItem.ticket = (headOf 4).ticket ∧ newItem.state = .measuring ∧ graded.ticket = 7 ∧ graded.state = .decided) ∧
    (twoQueued.turnFor ⟨.l1, .laneEnd⟩ (headOf 4) = true ∧ twoQueued.itemsPlaced = true ∧
      (twoQueued.lanes.at .l1).queue = [2] ++ 1 :: [] ∧ twoQueued.item 1 = some newItem) ∧
    (∀ m ∈ [2], ∀ y, twoQueued.item m = some y → y.ticket ≠ (headOf 4).ticket) ∧
    (∀ n ∈ ((bench 4 newItem).lanes.at .l1).queue, ∀ it, (bench 4 newItem).item n = some it → it.ticket ≠ 9) := by
  refine ⟨by decide, by decide, ?_, ?_⟩
  · intro m hm y h
    rcases List.mem_singleton.mp hm with rfl
    cases h
    decide
  · intro n hn it h
    rcases List.mem_singleton.mp hn with rfl
    cases h
    decide

/-! ### Witnesses: timers and the Station Bus -/

theorem test_TimerExpiries :
    (((timersOut newItem).lanes.at .l1).timer = some ⟨1, 1⟩ ∧ (timersOut newItem).suspended = false ∧
      (timersOut newItem).item 1 = some { newItem with state := .waiting } ∧ newItem.decided = false) ∧
    ((timersOut graded).item 1 = some { graded with state := .waiting } ∧ graded.decided = true) ∧
    ((awaiting graded).ra 100 = some expectedRa ∧ expectedRa.state = .expected ∧ expectedRa.timer = some 1 ∧
      expectedRa.boundLane = some .l1 ∧ (awaiting graded).suspended = false ∧
      (awaiting graded).anyUndecided .l1 = false) ∧
    ((awaiting (measured ⟨8, 1⟩)).undecidedOf .l1 (measured ⟨8, 1⟩) = true ∧
      ((awaiting (measured ⟨8, 1⟩)).modRa 100 fun x => { x with state := .overdue, timer := none }).raSettled
        (measured ⟨8, 1⟩) = true) ∧
    (((bench 0 newItem).lanes.at .l1).timer = none ∧ (paused (timersOut newItem)).suspended = true ∧
      boundRa.timer = none) := by decide

theorem test_RosterRequests :
    (State.reset.serving = false ∧ laneOf 1 = some .l1 ∧ (State.reset.lanes.at .l1).state = .idle ∧
      (State.reset.slot ⟨.l1, .laneEnd⟩).state = .vacant) ∧
    (∀ x, (State.reset.slot x).address ≠ some 62) ∧
    (((idleLane .loaded).lanes.at .l1).state = .idle ∧ ((idleLane .loaded).slot ⟨.l1, .tag⟩).state ≠ .vacant) ∧
    (((bench 0 newItem).lanes.at .l1).state ≠ .idle ∧ ((bench 0 newItem).slot ⟨.l1, .tag⟩).state ≠ .vacant) ∧
    (((bench 0 newItem).lanes.at .l2).state = .idle ∧ ((bench 0 newItem).slot ⟨.l2, .entry⟩).state = .vacant ∧
      ((bench 0 newItem).slot ⟨.l1, .laneEnd⟩).address = some 5) ∧
    (laneOf 0 = none ∧ laneOf 5 = none ∧ (bench 0 newItem).usable .l1 = true ∧ (bench 0 newItem).usable .l2 = false) := by
  refine ⟨by decide, ?_, by decide, by decide, by decide, by decide⟩
  rintro ⟨l, r⟩
  cases l <;> cases r <;> decide

theorem test_SweepTimerBeginsASweep :
    State.reset.bus.sweep = none ∧ (∀ x, (State.reset.slot x).state = .vacant) ∧
    ({ bench 0 newItem with bus := { busAt 0 with sweep := none } }).bus.sweep = none ∧
    (({ bench 0 newItem with bus := { busAt 0 with sweep := none } }).slot ⟨.l1, .entry⟩).state ≠ .vacant := by
  refine ⟨rfl, ?_, rfl, by decide⟩
  rintro ⟨l, r⟩
  cases l <;> cases r <;> rfl

/-- Lane 1's TAG slot is one missed turn from going DOWN. -/
def tagFailing : State :=
  { bench 0 newItem with
    bus := { busAt 5 with
      roster := ⟨⟨head 1, { head 2 with score := 40, maxScore := 40 }, head 3, head 4, head 5⟩,
        PerRole.all Slot.vacant, PerRole.all Slot.vacant, PerRole.all Slot.vacant⟩ } }

theorem test_SweepCloseScoresTheRoll :
    tagFailing.bus.sweep = some (sweepAt 5) ∧ (tagFailing.slot ⟨.l1, .tag⟩).outcome = some .silent ∧
    (tagFailing.slot ⟨.l2, .tag⟩).outcome = none ∧ (tagFailing.slot ⟨.l1, .tag⟩).state = .up ∧
    tagFailing.line.downThreshold ≤ (tagFailing.slot ⟨.l1, .tag⟩).score + 8 ∧
    1 ∈ (tagFailing.lanes.at .l1).queue ∧ newItem.decided = false ∧ newItem.status .tag = .awaited ∧
    (tagFailing.slot ⟨.l1, .tag⟩).address = some 2 ∧
    { head 1 with score := 247 }.newScore .silent = 255 ∧ { head 1 with score := 248 }.newScore .garbled = 255 ∧
    { head 1 with state := .down, score := 1 }.newScore .valid = 0 ∧ { head 1 with score := 32 }.newScore .silent = 40 := by
  decide

theorem test_LoseRoleByItsCases :
    ((bench 0 newItem).item 1 = some newItem ∧ newItem.status .vision = .awaited ∧ newItem.decided = false ∧
      { newItem with visionStatus := .missing }.tagStatus = .awaited) ∧
    ({ measured ⟨7, 1⟩ with tagStatus := .awaited }.status .tag = .awaited ∧
      (bench 0 { measured ⟨7, 1⟩ with tagStatus := .awaited }).raSettled
        { measured ⟨7, 1⟩ with tagStatus := .awaited } = true) ∧
    newItem.status .entry ≠ .awaited ∧ graded.decided = true := by decide

/-- An ENTRY head that is DOWN answers validly for the last time it needs, and another missed a turn. -/
theorem test_STATION_UP_is_offered :
    ((withSlots { head 1 with state := .down, score := 1, maxScore := 48, outcome := some .valid } (head 5)
      tagFailing).slot ⟨.l1, .entry⟩).state = .down ∧
    (((withSlots { head 1 with state := .down, score := 1, maxScore := 48, outcome := some .valid } (head 5)
      tagFailing).scoreSlot ⟨.l1, .entry⟩).queue.events.map fun e => e.body) = [.stationUp ⟨.l1, .entry⟩ 1 48 9] := by
  decide

theorem test_TurnsOfASweep :
    (({ bench 0 newItem with bus := { busAt 0 with sweep := some { sweepAt 0 with phase := .sendingFrame } } }).bus.sweep =
        some { sweepAt 0 with phase := .sendingFrame } ∧ (sweepAt 0).roll ≠ []) ∧
    ((sweepAt 4).roll[4]? = some ⟨.l1, .laneEnd⟩ ∧ ((bench 4 newItem).slot ⟨.l1, .laneEnd⟩).outcome.isSome = true ∧
      (bench 4 newItem).turnFor ⟨.l1, .laneEnd⟩ (headOf 4) = true ∧
      ((bench 4 newItem).slot ⟨.l1, .laneEnd⟩).address ≠ some 9) ∧
    ((withSlots Slot.vacant (head 5) (bench 0 newItem)).slot ⟨.l1, .entry⟩).outcome = none ∧
    State.reset.currentTurn = none := by decide

theorem test_GarbledByKindOrData :
    (answersWith (headOf 4) (.weight (headOf 4) 30001) ∧ answersWith (headOf 4) (.nothing (headOf 4))) ∧
    ((bench 1 newItem).currentTurn = some ⟨.l1, .tag⟩ ∧ ((bench 1 newItem).slot ⟨.l1, .tag⟩).outcome.isSome = true ∧
      4 < (List.replicate 5 ((⟨7, 1⟩ : TagCode), Coded.known CheckResult.good)).length) ∧
    ((bench 3 newItem).currentTurn = some ⟨.l1, .vision⟩ ∧
      (((bench 3 newItem).slot ⟨.l1, .vision⟩).outcome.isSome = true ∧ 100 < (⟨0, 0, 0, 0, 1, 101⟩ : PieceScores).colour)) ∧
    ((bench 4 newItem).bus.number ≠ 8 ∧ (Role.laneEnd ≠ .entry ∧ Role.laneEnd ≠ .scale)) :=
  ⟨⟨rfl, rfl⟩, by decide, by decide, by decide⟩

theorem test_MeasurementsAreDelivered :
    ((bench 1 newItem).turnFor ⟨.l1, .tag⟩ (headOf 1) = true ∧ (bench 1 newItem).items.records.wf = true ∧
      (bench 1 newItem).itemByTicket .l1 7 = some (1, newItem) ∧ newItem.status .tag = .awaited ∧
      newItem.scaleStatus = .awaited) ∧
    ((bench 2 newItem).turnFor ⟨.l1, .scale⟩ (headOf 2) = true ∧ newItem.status .scale = .awaited) ∧
    ((bench 3 newItem).turnFor ⟨.l1, .vision⟩ (headOf 3) = true ∧ newItem.status .vision = .awaited ∧
      ∀ p ∈ [(⟨100, 0, 0, 0, 1, 100⟩ : PieceScores)], p.stain ≤ 100 ∧ p.tear ≤ 100 ∧ p.wear ≤ 100 ∧ p.crease ≤ 100 ∧
        p.swingTag ≤ 1 ∧ p.colour ≤ 100) := by decide

/-- Item 1 awaits its tag only, its weight only, or its pieces only. -/
def awaitsTag : Item := { newItem with scaleStatus := .taken, visionStatus := .taken }
def awaitsWeight (c : TagCode) : Item := { measured c with scaleStatus := .awaited }
def awaitsPieces (c : TagCode) : Item := { measured c with visionStatus := .awaited }

def fullScores : PieceScores := ⟨100, 100, 100, 100, 1, 100⟩

theorem test_TheLastMeasurementDecides :
    ((bench 1 awaitsTag).turnFor ⟨.l1, .tag⟩ (headOf 1) = true ∧
      awaitsTag.measuredBy (.tagReading (headOf 1) [(⟨7, 1⟩, .known .good)]) = measured ⟨7, 1⟩ ∧
      (bench 1 awaitsTag).raSettled (measured ⟨7, 1⟩) = true ∧ (awaiting awaitsTag).raSettled (measured ⟨8, 1⟩) = false) ∧
    ((bench 2 (awaitsWeight ⟨7, 1⟩)).turnFor ⟨.l1, .scale⟩ (headOf 2) = true ∧
      (bench 2 (awaitsWeight ⟨7, 1⟩)).raSettled
        ((awaitsWeight ⟨7, 1⟩).measuredBy (.weight (headOf 2) 30000)) = true) ∧
    ((bench 3 (awaitsPieces ⟨7, 1⟩)).turnFor ⟨.l1, .vision⟩ (headOf 3) = true ∧
      (bench 3 (awaitsPieces ⟨7, 1⟩)).raSettled
        ((awaitsPieces ⟨7, 1⟩).measuredBy (.vision (headOf 3) [fullScores])) = true) ∧
    (awaiting (awaitsWeight ⟨8, 1⟩)).raSettled ((awaitsWeight ⟨8, 1⟩).measuredBy (.weight (headOf 2) 0)) = false := by decide

/-- The measurements of the three roles, at the ends of their ranges. -/
theorem test_ReportsMeasurement :
    reportsMeasurement (headOf 1) .tag .tagReading (.tagReading (headOf 1) []) ∧
    reportsMeasurement (headOf 1) .tag .tagReading
      (.tagReading (headOf 1) (List.replicate 4 (⟨7, 1⟩, .known .bad))) ∧
    reportsMeasurement (headOf 2) .scale .weight (.weight (headOf 2) 30000) ∧
    reportsMeasurement (headOf 3) .vision .vision (.vision (headOf 3) (List.replicate 8 fullScores)) := by
  refine ⟨⟨rfl, rfl, rfl, by decide, by simp⟩, ⟨rfl, rfl, rfl, by decide, ?_⟩, ⟨rfl, rfl, rfl, by decide⟩,
    ⟨rfl, rfl, rfl, by decide, by decide, by decide⟩⟩
  intro e he
  rw [List.eq_of_mem_replicate he]
  exact ⟨.bad, rfl⟩

theorem test_LateMeasurementsAndOrphans :
    (bench 2 newItem).itemByTicket .l1 9 = none ∧ (bench 2 graded).itemByTicket .l1 7 = some (1, graded) ∧
    graded.decided = true ∧ { newItem with scaleStatus := .missing }.status .scale = .missing ∧
    { newItem with tagStatus := .taken }.status .tag = .taken ∧
    (bench 2 { newItem with scaleStatus := .missing }).turnFor ⟨.l1, .scale⟩ (headOf 2) = true ∧
    (bench 1 { newItem with tagStatus := .taken }).turnFor ⟨.l1, .tag⟩ (headOf 1) = true := by decide

/-! ### Witnesses: the match and the grade -/

def found (l : Line) : Found := { number := 100, ra := boundRa, index := 1, line := l }

def markedLine : Line := { line7 with received := 1, tags := [⟨⟨7, 1⟩, true⟩] }

theorem test_TheMatchSearchesReturnsAndCounts :
    findMatch [found line7] false ⟨7, 1⟩ = (.exact, some (found line7)) ∧
    findMatch [found markedLine] false ⟨7, 1⟩ = (.repeated, some (found markedLine)) ∧
    findMatch [found line7] false ⟨7, 2⟩ = (.unlisted, some (found line7)) ∧
    findMatch [found { line7 with tags := [] }] false ⟨7, 2⟩ = (.skuOnly, some (found { line7 with tags := [] })) ∧
    findMatch [found { line7 with received := 2 }] false ⟨7, 2⟩ = (.over, some (found { line7 with received := 2 })) ∧
    findMatch [found line7] false ⟨8, 1⟩ = (.stray, none) ∧ findMatch [found line7] true ⟨8, 1⟩ = (.noReturn, none) ∧
    (bench 0 (measured ⟨7, 1⟩)).searchFor (measured ⟨7, 1⟩) = (.exact, some (found line7)) ∧
    (measured ⟨7, 1⟩).tagState = .read ⟨7, 1⟩ ∧ (found line7).index ≠ 0 := by decide

theorem test_SourceValuesAndEvaluations :
    sourceValue ⟨{ graded with weight := some 981 }, 1, .exact, some 900, some 3⟩ .weightDeviation 0 = some 9 ∧
    sourceValue ⟨{ graded with weight := some 2900 }, 1, .exact, some 250, some 3⟩ .weightDeviation 0 = some 999 ∧
    sourceValue ⟨{ graded with weight := some 0 }, 1, .exact, some 420, none⟩ .weightDeviation 0 = some 100 ∧
    sourceValue ⟨graded, 1, .exact, none, none⟩ .weightDeviation 0 = none ∧
    sourceValue ⟨{ graded with pieces := [⟨5, 0, 0, 0, 1, 9⟩, ⟨7, 0, 0, 0, 0, 8⟩] }, 3, .unread, none, none⟩ .stain 0 =
      some 7 ∧
    sourceValue ⟨{ graded with pieces := [⟨5, 0, 0, 0, 1, 9⟩, ⟨7, 0, 0, 0, 0, 8⟩] }, 3, .unread, none, none⟩ .colour 0 =
      some 8 ∧
    sourceValue ⟨{ graded with pieces := [⟨5, 0, 0, 0, 1, 9⟩] }, 3, .unread, none, none⟩ .piecesShort 0 = some 2 ∧
    sourceValue ⟨graded, 1, .unread, none, none⟩ .matchResult 0 = none ∧
    (Tally.start.act (.penalty 45)).penalty = 45 ∧ ((Tally.start.act .capC).act .capB).cap = .c := by decide

theorem test_TheGradeFromTheList :
    ({ Tally.start with penalty := 45 }.grade ⟨10, 30, 60⟩ = .c ∧ { Tally.start with penalty := 61 }.grade ⟨10, 30, 60⟩ = .d ∧
      { Tally.start with penalty := 5, cap := .c }.grade ⟨10, 30, 60⟩ = .c ∧
      { Tally.start with quarantine := true }.grade ⟨10, 30, 60⟩ = .q) ∧
    (newItem.decided = false ∧ (bench 0 newItem).item 1 = some newItem ∧
      (matchReturn ((bench 0 newItem).searchFor newItem)).result = .unread ∧
      ((bench 0 newItem).plan.banks.at newItem.bank).programs.lookup
        (matchReturn ((bench 0 newItem).searchFor newItem)).category = some ⟨0, 0, 450, 1⟩ ∧
      ((bench 0 newItem).plan.banks.at newItem.bank).lists.lookup 0 = some [0] ∧
      ((bench 0 newItem).plan.banks.at newItem.bank).thresholds = some ⟨10, 30, 60⟩) := by decide

theorem test_DecisionsGradedQAtOnce :
    (matchReturn ((bench 0 (measured ⟨8, 1⟩)).searchFor (measured ⟨8, 1⟩))).result = .stray ∧
    ((bench 0 (measured ⟨8, 1⟩)).plan.banks.at .b0).programs.lookup 31 = some ⟨0, 0, 450, 1⟩ ∧
    ((bench 0 (measured ⟨8, 1⟩)).plan.banks.at .b0).map.lookup (16 + 0) = some .gateE ∧
    (measured ⟨8, 1⟩).state = .measuring ∧ (measured ⟨8, 1⟩).decided = false := by decide

/-- The line's shadow setting is ON, and the edit bank is ready. -/
def shadowed : State :=
  { bench 0 newItem with
    plan := { banks := ⟨activeBank, { activeBank with state := .standby, bound := 0 }⟩, shadow := .on } }

theorem test_DecisionsThatRunAList :
    ((bench 0 newItem).item 1 = some newItem ∧ newItem.state = .measuring ∧
      (matchReturn ((bench 0 newItem).searchFor newItem)) = ⟨.unread, none, 31, none, none, none⟩ ∧
      activeBank.programs.lookup 31 = some ⟨0, 0, 450, 1⟩ ∧ activeBank.lists.lookup 0 = some [0] ∧
      (runEntries ⟨newItem, 1, .unread, none, none⟩ activeBank 1 [0] Tally.start) =
        ⟨45, .noCap, false, [⟨0, 1, 0, .value, some 1, .penalty 45⟩]⟩ ∧
      activeBank.map.lookup (4 * gradePlace .c + 0) = some (.gate 8) ∧ (bench 0 newItem).plan.shadow ≠ .on) ∧
    (shadowed.plan.shadow = .on ∧ shadowed.edit.state = .standby ∧ shadowed.edit.valid = true ∧
      shadowed.edit.programs.lookup 31 = some ⟨0, 0, 450, 1⟩ ∧ shadowed.edit.lists.lookup 0 = some [0] ∧
      shadowed.edit.thresholds = some ⟨10, 30, 60⟩) := by decide

theorem test_RunOfAPieceCheck :
    (runEntries ⟨{ newItem with pieces := [⟨30, 0, 0, 0, 1, 9⟩] }, 2, .unread, none, none⟩
      { Bank.cold with checks := ⟨[(1, ⟨.stain, .piece, .atMost 20, .penalty 10, .fail⟩)]⟩ } 1 [1, 1] Tally.start).failures =
      [⟨1, 1, 1, .value, some 30, .penalty 10⟩, ⟨1, 1, 2, .missing, none, .penalty 10⟩,
       ⟨1, 2, 1, .value, some 30, .penalty 10⟩, ⟨1, 2, 2, .missing, none, .penalty 10⟩] := by decide

/-! ### Witnesses: the Plan Store -/

/-- A bank with every entry that VALIDATE PLAN looks for. -/
def wholeBank : Bank :=
  { activeBank with
    programs := ⟨(List.range 32).map fun c => (c, ⟨0, c % 4, 450, 1⟩)⟩, state := .standby, bound := 0 }

/-- The edit bank (bank 1) is `b`. -/
def editing (b : Bank) : State := { bench 0 newItem with plan := { banks := ⟨activeBank, b⟩, shadow := .off } }

theorem test_PlanWritesGoToTheEditBank :
    (editing wholeBank).serving = false ∧ (editing wholeBank).edit = wholeBank ∧
    (editing wholeBank).edit.state ≠ .draining ∧ (editing Bank.cold).edit.state = .empty := by decide

theorem test_PlanRequestsRefused :
    (editing { wholeBank with state := .draining }).edit.state = .draining ∧
    (editing Bank.cold).edit.state ≠ .draining ∧ (editing Bank.cold).edit.valid = false ∧
    (editing Bank.cold).serving = false := by decide

theorem test_ClearBankEmptiesTheEditBank :
    (editing { wholeBank with state := .draining }).edit.state = .draining ∧
    (editing wholeBank).edit.state ≠ .draining ∧ (editing wholeBank).planLawful = true := by decide

theorem wholeBank_programs : wholeBank.programsOk := by
  have h : ∀ c, c < 32 → wholeBank.programs.lookup c = some ⟨0, c % 4, 450, 1⟩ := by decide
  exact fun c hc => ⟨_, h c hc, rfl⟩

theorem wholeBank_lists : wholeBank.listsOk := by
  unfold Bank.listsOk Bank.listOk; decide

theorem wholeBank_scopes : wholeBank.scopesOk := by
  unfold Bank.scopesOk scopeOk; decide

theorem test_ValidatePlanFindsTheFirstFault :
    (wholeBank.programsOk ∧ wholeBank.listsOk ∧ wholeBank.scopesOk ∧ wholeBank.levelsOk ∧
      ∀ k, k < 20 → wholeBank.map.has k = true) ∧
    Bank.cold.programs.lookup 0 = none ∧
    ({ Bank.cold with programs := wholeBank.programs }.programs.lookup 0 = some ⟨0, 0, 450, 1⟩ ∧
      { Bank.cold with programs := wholeBank.programs }.lists.has 0 = false) ∧
    ¬ { wholeBank with checks := Table.empty }.listOk [0] ∧
    ¬ scopeOk ⟨.reason, .piece, .atMost 3, .capD, .pass⟩ ∧
    ¬ { wholeBank with thresholds := some ⟨10, 9, 60⟩ }.levelsOk ∧
    { wholeBank with map := Table.empty }.map.has 0 = false := by
  refine ⟨⟨wholeBank_programs, wholeBank_lists, wholeBank_scopes, ⟨_, rfl, by decide⟩, by decide⟩, rfl, by decide, ?_,
    ?_, ?_, rfl⟩
  · unfold Bank.listOk; decide
  · unfold scopeOk; decide
  · rintro ⟨t, h, h1, _⟩
    cases h
    exact absurd h1 (by decide)

theorem test_SwitchPlanAndSetShadow :
    (editing wholeBank).edit.valid = true ∧ (editing wholeBank).activeBank = some .b0 ∧
    ({ State.reset with plan := { banks := ⟨wholeBank, Bank.cold⟩, shadow := .off } }).activeBank = none ∧
    ({ State.reset with plan := { banks := ⟨wholeBank, Bank.cold⟩, shadow := .off } }).edit.valid = true := by decide

/-! ### Witnesses: the sorter -/

/-- Carrier 0 is about to pass position 0 for the second time without an index edge. -/
def missing (s : State) : State := { s with sorter := { s.sorter with origin := 95, revolution := 1, aligned := true } }

theorem test_PitchAndIndexMoveTheRing :
    ((paused State.reset).suspended = true ∧ (paused State.reset).sorter.aligned = false) ∧
    ((missing (paused State.reset)).suspended = true ∧ (missing (paused State.reset)).line.pause.isSome = true ∧
      (missing (paused State.reset)).sorter.origin = 95 ∧ (missing (paused State.reset)).sorter.revolution ≠ 0) ∧
    ((missing { State.reset with line := LineControl.cold true }).suspended = true ∧
      (missing { State.reset with line := LineControl.cold true }).line.pause = none) ∧
    ((missing State.reset).sorter.aligned = true ∧ (missing State.reset).sorter.origin ≠ 0 ∧
      (bench 0 newItem).sorter.origin = 0) ∧
    ((missing (bench 0 newItem)).suspended = false ∧ (missing (bench 0 newItem)).line.pause = none ∧
      (∀ g, g < 17 → State.gateDue { missing (bench 0 newItem) with
        sorter := (missing (bench 0 newItem)).sorter.pitched } g = false) ∧
      (missing (bench 0 newItem)).enabled .indexMissing = true ∧ (missing (bench 0 newItem)).enabled .lineState = true ∧
      (missing (bench 0 newItem)).used + (missing (bench 0 newItem)).live ≤ 254) := by decide

/-- Nothing on the ring of `s` is at a gate after the next pitch. -/
theorem none_at_gates (s : State)
    (h : ∀ e ∈ s.line.gatePositions.entries,
      s.sorter.carriers.lookup ((e.2 + 96 - s.sorter.pitched.origin) % 96) = none) :
    ∀ g p n it, s.line.gatePositions.lookup g = some p → s.broughtTo p n it →
      it.route ≠ some (.tote g) ∧ ¬ (g = 16 ∧ it.dest = some .gateE) := by
  intro g p n it hg hb
  have h1 := h (g, p) (mem_of_lookup _ _ _ hg)
  rw [hb.1] at h1
  cases h1

/-- Item 1 is READY at lane end. -/
def readyItem : Item := { graded with state := .ready }

theorem test_MergeWorkOfAPitch :
    ((ringState 95 (.tote 0)).suspended = false ∧ (ringState 95 (.tote 0)).line.lawful = true ∧
      (ringState 95 (.tote 0)).sorter.lawful = true ∧ (ringState 95 (.tote 0)).itemsPlaced = true ∧
      (ringState 95 (.tote 0)).sorter.carriers.lookup ((96 - (ringState 95 (.tote 0)).sorter.pitched.origin) % 96) =
        some 1) ∧
    (∀ g p n it, (ringState 95 (.tote 0)).line.gatePositions.lookup g = some p →
      (ringState 95 (.tote 0)).broughtTo p n it → it.route ≠ some (.tote g) ∧ ¬ (g = 16 ∧ it.dest = some .gateE)) ∧
    ((bench 0 readyItem).itemsPlaced = true ∧ ((bench 0 readyItem).lanes.at .l1).queue = 1 :: [] ∧
      (bench 0 readyItem).item 1 = some readyItem ∧ readyItem.state = .ready ∧
      ((bench 0 readyItem).slot ⟨.l1, .laneEnd⟩).state = .up ∧ (bench 0 readyItem).sorter.pointer = .l1 ∧
      (bench 0 readyItem).sorter.aligned = true) ∧
    (∀ g p n it, (bench 0 readyItem).line.gatePositions.lookup g = some p →
      (bench 0 readyItem).broughtTo p n it → it.route ≠ some (.tote g) ∧ ¬ (g = 16 ∧ it.dest = some .gateE)) ∧
    (∀ l n rest it, ((bench 0 newItem).lanes.at l).queue = n :: rest → (bench 0 newItem).item n = some it →
      ¬ (it.state = .ready ∧ ((bench 0 newItem).slot ⟨l, .laneEnd⟩).state = .up)) := by
  refine ⟨by decide, none_at_gates _ (by decide), by decide, none_at_gates _ (by decide), ?_⟩
  intro l n rest it hq hi
  cases l <;> cases hq
  cases hi
  decide

theorem test_GateEDropsItsItems :
    (ringState 84 (.exception .laps)).suspended = false ∧ (ringState 84 (.exception .laps)).line.lawful = true ∧
    (ringState 84 (.exception .laps)).sorter.lawful = true ∧ (ringState 84 (.exception .laps)).itemsPlaced = true ∧
    (ringState 84 (.exception .laps)).line.gatePositions.lookup 16 = some 85 ∧
    (ringState 84 (.exception .laps)).broughtTo 85 1 (riding 84 (.exception .laps)) ∧
    (riding 84 (.exception .laps)).route = some (.exception .laps) := by
  refine ⟨rfl, by decide, by decide, by decide, rfl, ⟨by decide, rfl⟩, rfl⟩

/-- Destination 0 is `x`, and item 1 comes to its gate. -/
def atGate0 (x : Destination) : State :=
  { ringState 4 (.tote 0) with totes := { dests := ToteStore.cold.dests.put 0 x } }

def active (t : Tote) : Destination := { Destination.cold with state := .active t }

theorem test_DropClaimsAtAGate :
    ((atGate0 (active tote100)).suspended = false ∧ (atGate0 (active tote100)).line.lawful = true ∧
      (atGate0 (active tote100)).sorter.lawful = true ∧ (atGate0 (active tote100)).itemsPlaced = true ∧
      (atGate0 (active tote100)).line.gatePositions.lookup 0 = some 5 ∧
      (atGate0 (active tote100)).totes.dests.lookup 0 = some (active tote100) ∧
      (riding 4 (.tote 0)).weight = some 400) ∧
    (atGate0 (active tote100)).broughtTo 5 1 (riding 4 (.tote 0)) ∧
    (∀ y, Destination.cold.state ≠ .active y) ∧
    ({ tote100 with count := 0, weight := 0, weightLimit := 399 }.weightLimit < 400 ∧
      ({ tote100 with weightLimit := 799 }.count ≠ 0 ∧ { tote100 with weightLimit := 799 }.weightLimit < 400 + 400) ∧
      (tote100.weight + 400 ≤ tote100.weightLimit ∧ tote100.count + 1 ≠ tote100.capacity) ∧
      { tote100 with capacity := 2 }.count + 1 = { tote100 with capacity := 2 }.capacity) :=
  ⟨by decide, ⟨by decide, rfl⟩, (fun _ h => nomatch h), by decide⟩

/-- Item 1 stands at gate 0, whose destination is `x`, and every event kind is enabled. -/
def nowAtGate0 (x : Destination) : State :=
  { ringState 5 (.tote 0) with
    totes := { dests := ToteStore.cold.dests.put 0 x }
    line := { (ringState 5 (.tote 0)).line with enables := ⟨(List.range 22).map fun k => (k + 1, true)⟩ } }

theorem test_EventsOfAGatesAct :
    ((nowAtGate0 (active tote100)).atGate 0 = some (1, riding 5 (.tote 0)) ∧ (riding 5 (.tote 0)).state = .sorting ∧
      (nowAtGate0 (active tote100)).totes.dests.lookup 0 = some (active tote100) ∧
      (nowAtGate0 (active tote100)).enabled .toteNearFull = true ∧
      (nowAtGate0 (active tote100)).enabled .toteComplete = true ∧
      (nowAtGate0 (active tote100)).enabled .lotComplete = true ∧
      (nowAtGate0 (active tote100)).enabled .destinationStalled = true ∧
      (nowAtGate0 (active tote100)).enabled .destinationStarved = true ∧
      (nowAtGate0 (active tote100)).enabled .lotOpenAtStop = true ∧
      (nowAtGate0 (active tote100)).used + (nowAtGate0 (active tote100)).live ≤ 252) ∧
    (((nowAtGate0 (active tote100)).pitchAct (.gate 0)).queue.events.map fun e => e.body.kind) =
      [.itemPlaced, .toteNearFull] ∧
    (((nowAtGate0 (active { tote100 with capacity := 2, warnAt := 1 })).pitchAct (.gate 0)).queue.events.map
      fun e => e.body.kind) = [.itemPlaced, .toteComplete, .destinationStarved, .lotOpenAtStop] ∧
    (((nowAtGate0 (active { tote100 with weightLimit := 799, lotEnd := true })).pitchAct (.gate 0)).queue.events.map
      fun e => (e.item, e.body.kind)) = [(1, .toteComplete), (0, .lotComplete), (0, .destinationStarved)] := by decide

/-- The item that a gate retires is the last one bound to a DRAINING bank, with bank 1 ACTIVE. -/
def lastBound (s : State) : State :=
  { s with plan := { banks := ⟨{ activeBank with state := .draining }, { activeBank with bound := 0 }⟩, shadow := .off } }

theorem test_RetirementAtAGate :
    ((lastBound (ringState 85 (.exception .laps))).line.gatePositions.lookup 16 = some 85 ∧
      (lastBound (ringState 85 (.exception .laps))).sorter.carriers.lookup
        ((85 + 96 - (lastBound (ringState 85 (.exception .laps))).sorter.origin) % 96) = some 1 ∧
      (riding 85 (.exception .laps)).state = .sorting ∧
      (((lastBound (ringState 85 (.exception .laps))).pitchAct (.gate 16)).queue.events.map fun e => e.body.kind) =
        [.itemException, .planDrained]) ∧
    ((lastBound (nowAtGate0 (active tote100))).line.gatePositions.lookup 0 = some 5 ∧
      (lastBound (nowAtGate0 (active tote100))).sorter.carriers.lookup
        ((5 + 96 - (lastBound (nowAtGate0 (active tote100))).sorter.origin) % 96) = some 1 ∧
      tote100.weight + 400 ≤ tote100.weightLimit ∧
      (((lastBound (nowAtGate0 (active tote100))).pitchAct (.gate 0)).queue.events.map fun e => e.body.kind) =
        [.itemPlaced, .toteNearFull, .planDrained]) := by decide

/-! ### Witnesses: totes -/

/-- Destination 0 is `x` in the state after reset. -/
def withDest (x : Destination) : State := { State.reset with totes := { dests := ToteStore.cold.dests.put 0 x } }

def stalledAt (cause : ChainMode) (queued : List Tote) : Destination :=
  { Destination.cold with state := .stalled cause 99, queued := queued, mode := cause }

/-- The same with a lot open. -/
def lotOpenAt (cause : ChainMode) : Destination := { stalledAt cause [] with lot := some ⟨90, 2, 5⟩ }

set_option maxRecDepth 8192 in
theorem test_ToteRequestsComplete :
    ((withDest (active tote100)).canonical = true ∧ (withDest Destination.cold).canonical = true ∧
      (withDest (stalledAt .flag [tote100])).canonical = true ∧ (withDest (stalledAt .limit [])).canonical = true) ∧
    ((withDest (lotOpenAt .limit)).canonical = true ∧ (withDest (lotOpenAt .limit)).serving = false ∧
      (withDest (lotOpenAt .limit)).totes.dests.lookup 0 = some (lotOpenAt .limit) ∧
      (lotOpenAt .limit).state = .stalled .limit 99 ∧ (lotOpenAt .limit).queued = [] ∧
      (lotOpenAt .limit).lot = some ⟨90, 2, 5⟩) ∧
    ((lotOpenAt .flag).state = .stalled .flag 99 ∧ (lotOpenAt .flag).lot = some ⟨90, 2, 5⟩) ∧
    (setLimit 0 none (withDest (lotOpenAt .limit))).state.queue.events.map (fun e => e.body) =
      [.destinationStarved 0, .lotOpenAtStop 0 90 2 5] := by decide

set_option maxRecDepth 8192 in
theorem test_ToteRequestsTakenOrRefused :
    ((withDest (active tote100)).serving = false ∧ (withDest (active tote100)).totes.dests.lookup 0 = some (active tote100) ∧
      (∀ t ∈ (withDest (active tote100)).allTotes, t.id ≠ 101) ∧ 1 ≤ (withDest (active tote100)).freeTotes ∧
      ∃ t ∈ (withDest (active tote100)).allTotes, t.id = 100) ∧
    (withDest { Destination.cold with queued := List.replicate 256 tote100 }).freeTotes = 0 ∧
    ((stalledAt .flag [tote100]).state = .stalled .flag 99 ∧ (stalledAt .flag [tote100]).queued = [tote100] ∧
      (stalledAt .flag []).queued = [] ∧ (stalledAt .flag []).lot = none) ∧
    ((stalledAt .limit [tote100]).state = .stalled .limit 99 ∧ (some 98 : Option Nat) ≠ some 99) ∧
    (tote100.id ≠ 99 ∧ { tote100 with count := 0 }.count = 0 ∧ tote100.lotEnd = false) := by decide

theorem test_ToteStates :
    (∀ tote, (active tote100).state ≠ .stalled .flag tote) ∧ (∀ tote, (active tote100).state = .stalled .limit tote → False) ∧
    ∀ t, (active tote100).state = .active t → t.id ≠ 99 := by
  refine ⟨(fun _ h => nomatch h), (fun _ h => nomatch h), ?_⟩
  intro t h
  cases h
  decide

theorem test_CloseToteCompletesIt :
    (withDest (active tote100)).totes.dests.lookup 0 = some (active tote100) ∧ tote100.id ≠ 0 ∧ tote100.count ≠ 0 ∧
    (withDest (active tote100)).enabled .toteComplete = true ∧ (withDest (active tote100)).enabled .lotComplete = true ∧
    (withDest (active tote100)).enabled .destinationStalled = true ∧
    (withDest (active tote100)).enabled .destinationStarved = true ∧
    (withDest (active tote100)).enabled .lotOpenAtStop = true ∧
    (withDest (active tote100)).used + (withDest (active tote100)).live ≤ 252 := by decide

/-! ### Witnesses: the Line Controller -/

/-- The line is in SETUP with gate positions `g`, plan bank 0 `b` and lane 1's heads enrolled. -/
def setup (g : List (Nat × Nat)) (b : Bank) : State :=
  { State.reset with
    line := { LineControl.cold false with gatePositions := ⟨g⟩ }, plan := { banks := ⟨b, Bank.cold⟩, shadow := .off }
    bus := busAt 0 }

def gates : List (Nat × Nat) := (List.range 17).map fun g => (g, 5 * g + 5)

def emptyActive : Bank := { activeBank with bound := 0 }

theorem test_StartLineTakenOrRefused :
    ((setup gates emptyActive).serving = false ∧ (setup gates emptyActive).line.mode = .setup ∧
      (∀ g, g ≤ 16 → ((setup gates emptyActive).line.gatePositions.lookup g).isSome = true) ∧
      (setup gates emptyActive).activeBank.isSome = true ∧ (setup gates emptyActive).usable .l1 = true) ∧
    (∀ g, g ≤ 16 → ∀ h, h ≤ 16 → g < h →
      (setup gates emptyActive).line.gatePositions.lookup g ≠ (setup gates emptyActive).line.gatePositions.lookup h) ∧
    (bench 0 newItem).line.mode ≠ .setup ∧ State.reset.line.gatePositions.lookup 0 = none ∧
    ((setup (gates.take 16 ++ [(16, 5)]) emptyActive).line.gatePositions.lookup 0 =
        (setup (gates.take 16 ++ [(16, 5)]) emptyActive).line.gatePositions.lookup 16 ∧
      ∀ k, k ≤ 16 → 0 < k → k < 16 → (setup (gates.take 16 ++ [(16, 5)]) emptyActive).line.gatePositions.lookup 0 ≠
        (setup (gates.take 16 ++ [(16, 5)]) emptyActive).line.gatePositions.lookup k) ∧
    (setup gates Bank.cold).activeBank = none ∧
    ({ setup gates emptyActive with bus := StationBus.cold }).usableLanes = [] := by decide

theorem test_PauseResumeAndHold :
    State.reset.line.pause = none ∧ (paused State.reset).line.pause = some .host ∧ State.reset.serving = false ∧
    State.reset.line.holdPin ≠ true ∧ State.reset.line.holdPin = false := by decide

theorem test_StopLineDrain :
    State.reset.line.mode = .setup ∧ (bench 0 newItem).line.mode = .running ∧ (bench 0 newItem).live ≠ 0 ∧
    { LineControl.cold false with mode := .draining .cut }.mode = .draining .cut ∧
    (∀ l, (({ State.reset with line := { State.reset.line with mode := .running } }).lanes.at l).state = .idle) ∧
    ({ State.reset with line := { State.reset.line with mode := .running } }).live = 0 := by
  refine ⟨rfl, rfl, by decide, rfl, ?_, rfl⟩
  intro l
  cases l <;> rfl

theorem test_StopLineCut :
    (bench 0 newItem).serving = false ∧ (bench 0 newItem).itemsPlaced = true ∧ (bench 0 newItem).line.mode = .running ∧
    (bench 0 newItem).item 1 = some newItem ∧ newItem.state ≠ .sorting ∧ (ringState 4 (.tote 0)).itemsPlaced = true ∧
    (ringState 4 (.tote 0)).item 1 = some (riding 4 (.tote 0)) ∧ (riding 4 (.tote 0)).state = .sorting ∧
    (bench 0 newItem).bindingsLawful = true ∧ (bench 0 newItem).enabled .parcelClosed = true ∧
    (bench 0 newItem).used + (bench 0 newItem).live ≤ 246 ∧ ((bench 0 newItem).lanes.at .l1).state ≠ .idle ∧
    (bench 0 newItem).enabled .lineState = true := by decide

theorem test_ConfigureWritesOrIsRefused :
    State.reset.serving = false ∧ State.reset.line.mode = .setup ∧ (bench 0 newItem).line.mode ≠ .setup ∧
    State.reset.totes.dests.lookup 15 = some Destination.cold := by decide

theorem test_WarmResetAnswersThenActs :
    State.reset.serving = false ∧ (∀ t k, State.reset.port.service ≠ some ⟨t, k, .sent⟩) ∧
    (inService (bench 0 newItem) 151 .sent none []).port.service = some ⟨1, 151, .sent⟩ ∧
    (inService (bench 0 newItem) 151 .sent none []).returns.records.wf = true ∧
    (inService (bench 0 newItem) 151 .sent none []).ra 100 = some boundRa ∧
    (¬ ∀ l ∈ boundRa.lines, l.received = l.quantity) ∧
    (∀ l ∈ ({ boundRa with lines := [{ line7 with received := 2 }] }).lines, l.received = l.quantity) :=
  ⟨rfl, (fun _ _ h => nomatch h), rfl, by decide, by decide, by decide, by decide⟩

/-! ### Witnesses: the invariants -/

theorem test_EveryStepKeepsTheLaws :
    ((bench 0 newItem).eventLaw = true ∧ (bench 0 newItem).canonical = true ∧ (bench 0 newItem).itemsPlaced = true ∧
      (bench 0 newItem).returnsLawful = true ∧ (bench 0 newItem).bindingsLawful = true ∧
      (bench 0 newItem).lanesLawful = true ∧ (bench 0 newItem).rosterLawful = true ∧ (bench 0 newItem).planLawful = true ∧
      (bench 0 newItem).totesLawful = true) ∧
    ∃ t, step { bench 0 newItem with pending := [.presented (headOf 0)] } = .next t ∧ t.live = 2 :=
  ⟨by decide, _, rfl, by decide⟩

/-! ### Layouts -/

set_option maxRecDepth 16384 in
theorem test_crc16 : crc16 [0x31, 0x32, 0x33, 0x34, 0x35, 0x36, 0x37, 0x38, 0x39] = 0x29B1 := by decide

set_option maxRecDepth 16384 in
theorem test_FramesAndRecordsHaveTheirLayout :
    judge (frame 7 144 [] ++ [0xFF]) = .received 7 144 [] [0xFF] ∧
    judge [0xA5, 0, 0, 7, 144, 0, 0] = .discarded ∧ judge [0xA5, 4, 1, 7] = .discarded ∧
    (eventRecord ⟨1000, 0, .lineState .running none false .start⟩).length = 48 ∧
    ([(0 : Byte), 0] ≠ num2 (crc16 (num2 0 ++ 7 :: 144 :: [])).toNat) := by decide

set_option maxRecDepth 16384 in
theorem test_request_kinds : ∀ k, k < 256 → kindKnown k = requestKinds.contains k := by decide

set_option maxRecDepth 16384 in
theorem test_requestOf :
    requestOf 7 144 [] = .startLine 7 ∧ requestOf 7 144 [1] = .malformedRequest 7 144 ∧
    requestOf 7 19 [] = .unknownRequest 7 19 ∧ requestOf 7 18 [0, 5, 4] = .forceGrade 7 5 (.known .q) ∧
    requestOf 7 18 [0, 5, 9] = .forceGrade 7 5 (.beyond 9) ∧
    requestOf 7 48 [2, 0, 0, 0, 5, 1, 0, 0, 0, 9, 3] = .openParcel 7 2 5 [(9, 3)] ∧
    requestOf 7 36 [0, 0, 0, 9, 2] = .malformedRequest 7 36 ∧
    requestOf 7 148 [5, 16, 1, 90] = .configure 7 (.gatePosition 16) (.num 90) ∧
    requestOf 7 148 [7, 4, 0] = .configure 7 (.eventEnable 4) (.enable (.known .on)) := by decide

set_option maxRecDepth 16384 in
theorem test_commandsOf :
    commandsOf 4 (0 :: frame 1 145 [] ++ frame 2 160 [16] ++ [0xA5, 0]) =
      ([.pauseLine 1, .fetchEvents 2 16], [0xA5, 0]) := by decide

/-- An answer frame of section 10.6, with its check. -/
def answerBytes (address echo kind ticket : Byte) (data : List Byte) : List Byte :=
  0x3C :: withCrc (address :: echo :: kind :: ticket :: byte data.length :: data)

set_option maxRecDepth 16384 in
theorem test_answerOf :
    answerOf (answerBytes 3 9 4 7 [1, 144]) = .weight ⟨3, 9, 7⟩ 400 ∧
    answerOf (answerBytes 1 9 1 0 []) = .presented ⟨1, 9, 0⟩ ∧ answerOf (answerBytes 1 9 1 0 [0]) = .garbledAnswer ∧
    answerOf (answerBytes 2 9 3 7 [1, 0, 0, 7, 0, 0, 0, 0, 1, 0]) = .tagReading ⟨2, 9, 7⟩ [(⟨7, 1⟩, .known .good)] ∧
    answerOf [0x3C, 1, 9, 0, 0, 0, 0, 0] = .garbledAnswer := by decide

theorem test_slot_numbers : slotNumber ⟨.l1, .entry⟩ = 0 ∧ slotNumber ⟨.l4, .laneEnd⟩ = 19 := by decide

theorem test_no_word_spells_a_command : decodeTableWord 8 0 = none ∧ State.reset.withFetchWord 8 0 = State.reset :=
  ⟨rfl, rfl⟩

end Sys2Proof.Tests
end

section
/-! Laws of the two invariants that say how the collections are kept: the canonical form of every table, and the one
place of every live item. Every command is a chain of the few changes of `Change`, and each change keeps both. -/

namespace Sys2Proof.Machine

/-! ### Lookups beside `State.item` and `State.ra` -/

/-- In a canonical table a lookup finds what is listed, and nothing else. -/
theorem lookup_eq_some_iff {α : Type} (t : Table α) (hw : t.wf = true) (k : Nat) (v : α) :
    t.lookup k = some v ↔ (k, v) ∈ t.entries :=
  ⟨mem_of_lookup t k v, lookup_of_mem t k v hw⟩

theorem hasRepeat_eq_false_iff {α : Type} [DecidableEq α] (l : List α) : hasRepeat l = false ↔ l.Nodup := by
  induction l with
  | nil => simp [hasRepeat]
  | cons a rest ih => simp [hasRepeat, ih]

@[simp] theorem mem_allLanes (l : LaneId) : l ∈ allLanes := by cases l <;> decide

theorem quad_at_modify {α : Type} (q : Quad α) (l m : LaneId) (f : α → α) :
    (q.modify l f).at m = if l = m then f (q.at m) else q.at m := by
  split
  · next h => subst h; exact quad_at_modify_self q l f
  · next h => exact quad_at_modify_other q l m f h

theorem item_modItem (s : State) (n m : Nat) (f : Item → Item) :
    (s.modItem n f).item m = if n = m then (s.item m).map f else s.item m :=
  lookup_modify s.items.records n m f

/-- An operation that leaves the Item Table leaves every item. -/
theorem item_of_items_eq {s t : State} (h : t.items = s.items) (n : Nat) : t.item n = s.item n := by
  unfold State.item; rw [h]

/-! ### The canonical form of the tables other than items and carriers -/

/-- The tables beside the Item Table and the carrier table are canonical (R22, R92, R151, R178, R181). -/
structure State.OtherTables (s : State) : Prop where
  returns : s.returns.records.wf = true
  gates   : s.line.gatePositions.wf = true
  enables : s.line.enables.wf = true
  banks   : ∀ b, (s.plan.banks.at b).canonical = true
  dests   : s.totes.dests.entries.map (·.1) = List.range 16

theorem canonical_iff (s : State) :
    s.canonical = true ↔ s.items.records.wf = true ∧ s.sorter.carriers.wf = true ∧ s.OtherTables := by
  simp only [State.canonical, Bool.and_eq_true, decide_eq_true_eq]
  constructor
  · rintro ⟨⟨⟨⟨⟨⟨⟨hi, hr⟩, hc⟩, hg⟩, he⟩, h0⟩, h1⟩, hd⟩
    exact ⟨hi, hc, hr, hg, he, fun b => by cases b <;> assumption, hd⟩
  · rintro ⟨hi, hc, hr, hg, he, hb, hd⟩
    exact ⟨⟨⟨⟨⟨⟨⟨hi, hr⟩, hc⟩, hg⟩, he⟩, hb .b0⟩, hb .b1⟩, hd⟩

/-! ### Where an item is -/

/-- What a record says of the item's place: its lane, whether it is SORTING, its carrier. -/
def Item.place (it : Item) : LaneId × Bool × Option Nat := (it.lane, decide (it.state = .sorting), it.carrier)

theorem place_eq_iff (x y : Item) :
    x.place = y.place ↔ x.lane = y.lane ∧ (x.state = .sorting ↔ y.state = .sorting) ∧ x.carrier = y.carrier := by
  simp [Item.place]

/-- `State.itemsPlaced`, clause by clause. -/
structure State.Placed (s : State) : Prop where
  itemsWf    : s.items.records.wf = true
  carriersWf : s.sorter.carriers.wf = true
  onCarrier  : ∀ n it, s.item n = some it → it.state = .sorting →
    ∃ c, it.carrier = some c ∧ s.sorter.carriers.lookup c = some n
  inQueue    : ∀ n it, s.item n = some it → it.state ≠ .sorting →
    it.carrier = none ∧ n ∈ (s.lanes.at it.lane).queue
  nodup      : ∀ l, (s.lanes.at l).queue.Nodup
  queued     : ∀ l n, n ∈ (s.lanes.at l).queue → ∃ it, s.item n = some it ∧ it.lane = l ∧ it.state ≠ .sorting
  carried    : ∀ c n, s.sorter.carriers.lookup c = some n →
    ∃ it, s.item n = some it ∧ it.state = .sorting ∧ it.carrier = some c

theorem itemPlaced_iff (s : State) (n : Nat) (it : Item) :
    s.itemPlaced n it = true ↔
      (it.state = .sorting → ∃ c, it.carrier = some c ∧ s.sorter.carriers.lookup c = some n) ∧
      (it.state ≠ .sorting → it.carrier = none ∧ n ∈ (s.lanes.at it.lane).queue) := by
  unfold State.itemPlaced
  cases it.state <;> cases it.carrier <;> simp

theorem queuePlaced_iff (s : State) (l : LaneId) :
    s.queuePlaced l = true ↔ (s.lanes.at l).queue.Nodup ∧
      ∀ n ∈ (s.lanes.at l).queue, ∃ it, s.item n = some it ∧ it.lane = l ∧ it.state ≠ .sorting := by
  simp only [State.queuePlaced, Bool.and_eq_true, Bool.not_eq_true', hasRepeat_eq_false_iff, List.all_eq_true]
  refine and_congr_right fun _ => forall₂_congr fun n _ => ?_
  cases s.item n <;> simp [Item.inLane]

theorem carrierPlaced_iff (s : State) (c n : Nat) :
    s.carrierPlaced c n = true ↔ ∃ it, s.item n = some it ∧ it.state = .sorting ∧ it.carrier = some c := by
  unfold State.carrierPlaced
  cases s.item n <;> simp

theorem itemsPlaced_iff (s : State) : s.itemsPlaced = true ↔ s.Placed := by
  simp only [State.itemsPlaced, Bool.and_eq_true, List.all_eq_true, mem_allLanes, true_implies, itemPlaced_iff,
    queuePlaced_iff, carrierPlaced_iff]
  constructor
  · rintro ⟨⟨⟨⟨hi, hc⟩, hp⟩, hq⟩, hr⟩
    have item : ∀ n it, s.item n = some it → (n, it) ∈ s.items.records.entries := fun n it h => mem_of_lookup _ _ _ h
    exact ⟨hi, hc, fun n it h => (hp (n, it) (item n it h)).1, fun n it h => (hp (n, it) (item n it h)).2,
      fun l => (hq l).1, fun l => (hq l).2, fun c n h => hr (c, n) (mem_of_lookup _ _ _ h)⟩
  · intro h
    have item : ∀ e ∈ s.items.records.entries, s.item e.1 = some e.2 := fun e he => lookup_of_mem _ _ _ h.itemsWf he
    exact ⟨⟨⟨⟨h.itemsWf, h.carriersWf⟩, fun e he => ⟨h.onCarrier _ _ (item e he), h.inQueue _ _ (item e he)⟩⟩,
      fun l => ⟨h.nodup l, h.queued l⟩⟩, fun e he => h.carried _ _ (lookup_of_mem _ _ _ h.carriersWf he)⟩

/-- The law depends on the items' places, the carriers and the queues alone. -/
theorem State.Placed.of_places {s t : State} (h : s.Placed) (hw : t.items.records.wf = true)
    (places : ∀ n, (t.item n).map Item.place = (s.item n).map Item.place)
    (carriers : t.sorter.carriers = s.sorter.carriers) (queues : ∀ l, (t.lanes.at l).queue = (s.lanes.at l).queue) :
    t.Placed := by
  have before : ∀ n it, t.item n = some it → ∃ x, s.item n = some x ∧ x.place = it.place := fun n it hn => by
    have := places n
    rw [hn] at this
    simpa using this.symm
  have after : ∀ n x, s.item n = some x → ∃ it, t.item n = some it ∧ it.place = x.place := fun n x hn => by
    have := places n
    rw [hn] at this
    simpa using this
  refine ⟨hw, carriers ▸ h.carriersWf, ?_, ?_, fun l => queues l ▸ h.nodup l, ?_, ?_⟩
  · intro n it hn hs
    obtain ⟨x, hx, hp⟩ := before n it hn
    obtain ⟨_, hst, hcar⟩ := (place_eq_iff _ _).1 hp
    rw [carriers, ← hcar]
    exact h.onCarrier n x hx (hst.2 hs)
  · intro n it hn hs
    obtain ⟨x, hx, hp⟩ := before n it hn
    obtain ⟨hl, hst, hcar⟩ := (place_eq_iff _ _).1 hp
    rw [queues, ← hcar, ← hl]
    exact h.inQueue n x hx fun e => hs (hst.1 e)
  · intro l n hn
    rw [queues] at hn
    obtain ⟨x, hx, hl, hs⟩ := h.queued l n hn
    obtain ⟨it, hit, hp⟩ := after n x hx
    obtain ⟨hl', hst, _⟩ := (place_eq_iff _ _).1 hp
    exact ⟨it, hit, hl'.trans hl, fun e => hs (hst.1 e)⟩
  · intro c n hn
    rw [carriers] at hn
    obtain ⟨x, hx, hs, hc⟩ := h.carried c n hn
    obtain ⟨it, hit, hp⟩ := after n x hx
    obtain ⟨_, hst, hcar⟩ := (place_eq_iff _ _).1 hp
    exact ⟨it, hit, hst.2 hs, hcar.trans hc⟩

/-! ### The changes a step is made of -/

/-- One change of what the tables and the lane queues hold. Whatever a command does is a chain of these. -/
inductive Change : State → State → Prop
  /-- no item, carrier or queue changes; the other tables stay canonical -/
  | aside {s t : State} (items : t.items.records = s.items.records) (carriers : t.sorter.carriers = s.sorter.carriers)
      (queues : ∀ l, (t.lanes.at l).queue = (s.lanes.at l).queue) (others : s.OtherTables → t.OtherTables) : Change s t
  /-- a record is written again, and says the same of the item's place -/
  | rewrite {s : State} (n : Nat) (f : Item → Item) (same : ∀ it, s.item n = some it → (f it).place = it.place) :
      Change s (s.modItem n f)
  /-- every SORTING item is sent to gate E (R147) -/
  | cut {s : State} : Change s s.cutSorter
  /-- a live item is retired (R13) -/
  | retire {s : State} (n : Nat) (it : Item) (final : EventBody) (live : s.item n = some it) :
      Change s (s.closeRecord n it final)
  /-- an item is created under a free number (R2, R9) -/
  | create {s : State} (l : LaneId) (number ticket : Nat) (free : s.item number = none) :
      Change s (s.createItem l number ticket)
  /-- a lane's head item goes on an empty carrier (R139) -/
  | grant {s : State} (l : LaneId) (n carrier : Nat) (rest : List Nat) (it : Item)
      (head : (s.lanes.at l).queue = n :: rest) (live : s.item n = some it) (inLane : it.state ≠ .sorting)
      (empty : s.sorter.carriers.lookup carrier = none) : Change s (s.grant l n carrier)
  /-- a queue none of whose items is live any more is emptied (R66) -/
  | clearQueue {s : State} (l : LaneId) (f : Lane → Lane) (cleared : ∀ x, (f x).queue = [])
      (gone : ∀ n ∈ (s.lanes.at l).queue, s.item n = none) : Change s (s.modLane l f)
  /-- a reset empties the Item Table, the carriers and every queue (R20, R21) -/
  | reset {s t : State} (items : t.items.records = Table.empty) (carriers : t.sorter.carriers = Table.empty)
      (queues : ∀ l, (t.lanes.at l).queue = []) (others : s.OtherTables → t.OtherTables) : Change s t

/-! ### Every change keeps the tables canonical -/

/-- A change of one bank that keeps its tables keeps the plan's. -/
theorem State.OtherTables.modBank {s : State} (h : s.OtherTables) (b : BankId) (f : Bank → Bank)
    (hf : ∀ x, x.canonical = true → (f x).canonical = true) : (s.modBank b f).OtherTables := by
  refine ⟨h.returns, h.gates, h.enables, fun c => ?_, h.dests⟩
  by_cases hb : b = c
  · subst hb; simpa using hf _ (h.banks b)
  · simpa [pair_at_modify_other _ _ _ _ hb] using h.banks c

/-- The tables are only those of the blocks that hold them: equal blocks, equal tables. -/
theorem State.OtherTables.congr {s t : State} (h : s.OtherTables) (hr : t.returns.records = s.returns.records)
    (hg : t.line.gatePositions = s.line.gatePositions) (he : t.line.enables = s.line.enables)
    (hp : t.plan.banks = s.plan.banks) (hd : t.totes = s.totes) : t.OtherTables :=
  ⟨hr ▸ h.returns, hg ▸ h.gates, he ▸ h.enables, hp ▸ h.banks, hd ▸ h.dests⟩

theorem createItem_otherTables {s : State} (h : s.OtherTables) (l : LaneId) (number ticket : Nat) :
    (s.createItem l number ticket).OtherTables := by
  have hb := h.modBank (s.newItem l ticket).bank (fun b => { b with bound := b.bound + 1 }) fun _ hx => hx
  exact hb.congr rfl rfl rfl rfl rfl

theorem Change.canonical {s t : State} (h : Change s t) (hs : s.canonical = true) : t.canonical = true := by
  rw [canonical_iff] at hs ⊢
  obtain ⟨hi, hc, ho⟩ := hs
  cases h with
  | aside items carriers _ others => exact ⟨items ▸ hi, carriers ▸ hc, others ho⟩
  | rewrite n f => exact ⟨by simpa using hi, hc, ho.congr rfl rfl rfl rfl rfl⟩
  | cut => exact ⟨(wf_mapValues s.items.records _).trans hi, hc, ho.congr rfl rfl rfl rfl rfl⟩
  | retire n => exact ⟨wf_remove _ n hi, risingKeys_filter _ _ hc, ho.congr rfl rfl rfl rfl rfl⟩
  | create l number ticket => exact ⟨wf_put _ _ _ hi, hc, createItem_otherTables ho l number ticket⟩
  | grant l n carrier =>
    exact ⟨(wf_modify s.items.records n _).trans hi, wf_put _ _ _ hc, ho.congr rfl rfl rfl rfl rfl⟩
  | clearQueue => exact ⟨hi, hc, ho.congr rfl rfl rfl rfl rfl⟩
  | reset items carriers _ others => exact ⟨items ▸ rfl, carriers ▸ rfl, others ho⟩


/-! ### Every change keeps every item in its place -/

theorem lookup_remove {α : Type} (t : Table α) (k k' : Nat) :
    (t.remove k).lookup k' = if k = k' then none else t.lookup k' := by
  split
  · next h => subst h; exact lookup_remove_self t k
  · next h => exact lookup_remove_other t k k' h

theorem lookup_put {α : Type} (t : Table α) (k k' : Nat) (v : α) :
    (t.put k v).lookup k' = if k = k' then some v else t.lookup k' :=
  lookupEntry_putEntry t.entries k k' v

/-- What a lookup finds among the entries of a canonical table that a condition on the values keeps. -/
theorem lookup_filter_values {α : Type} (t : Table α) (hw : t.wf = true) (p : α → Bool) (k : Nat) (v : α) :
    Table.lookup ⟨t.entries.filter fun e => p e.2⟩ k = some v ↔ t.lookup k = some v ∧ p v = true := by
  rw [lookup_eq_some_iff _ (risingKeys_filter _ _ hw), lookup_eq_some_iff _ hw, List.mem_filter]

theorem item_closeRecord (s : State) (n m : Nat) (it : Item) (final : EventBody) :
    (s.closeRecord n it final).item m = if n = m then none else s.item m :=
  lookup_remove s.items.records n m

@[simp] theorem closeRecord_lanes (s : State) (n : Nat) (it : Item) (final : EventBody) :
    (s.closeRecord n it final).lanes = s.lanes.modify it.lane fun x => x.dropItem n := rfl

theorem closeRecord_carriers (s : State) (n : Nat) (it : Item) (final : EventBody) :
    (s.closeRecord n it final).sorter.carriers = ⟨s.sorter.carriers.entries.filter fun e => decide (e.2 ≠ n)⟩ := rfl

theorem State.Placed.of_queued {s : State} (h : s.Placed) {l : LaneId} {n : Nat} {it : Item}
    (hq : n ∈ (s.lanes.at l).queue) (live : s.item n = some it) : it.lane = l ∧ it.state ≠ .sorting := by
  obtain ⟨x, hx, hp⟩ := h.queued l n hq
  rw [live] at hx
  exact (Option.some.inj hx) ▸ hp

/-- In a state where every item has its place, a retired number stands in its own lane's queue only, so every queue is what
was there without it. -/
theorem closeRecord_queue {s : State} (h : s.Placed) {n : Nat} {it : Item} (live : s.item n = some it) (final : EventBody)
    (l : LaneId) :
    ((s.closeRecord n it final).lanes.at l).queue = (s.lanes.at l).queue.filter fun m => decide (m ≠ n) := by
  rw [closeRecord_lanes, quad_at_modify]
  split
  · rfl
  · next hl =>
    have others : ∀ m ∈ (s.lanes.at l).queue, m ≠ n := fun m hm e => hl (h.of_queued (e ▸ hm) live).1
    exact (List.filter_eq_self.2 fun m hm => decide_eq_true (others m hm)).symm

theorem retire_placed {s : State} (h : s.Placed) {n : Nat} {it : Item} (live : s.item n = some it) (final : EventBody) :
    (s.closeRecord n it final).Placed := by
  have queue := closeRecord_queue h live final
  have carried : ∀ c m, (s.closeRecord n it final).sorter.carriers.lookup c = some m ↔
      s.sorter.carriers.lookup c = some m ∧ m ≠ n := fun c m => by
    simpa [closeRecord_carriers] using lookup_filter_values s.sorter.carriers h.carriersWf (fun m => decide (m ≠ n)) c m
  have item : ∀ m x, (s.closeRecord n it final).item m = some x ↔ m ≠ n ∧ s.item m = some x := fun m x => by
    rw [item_closeRecord]
    by_cases hm : n = m
    · simp [hm]
    · simp [hm, Ne.symm hm]
  refine ⟨wf_remove _ n h.itemsWf, risingKeys_filter _ _ h.carriersWf, ?_, ?_, ?_, ?_, ?_⟩
  · intro m x hm hs
    obtain ⟨hne, hx⟩ := (item m x).1 hm
    obtain ⟨c, hc, hl⟩ := h.onCarrier m x hx hs
    exact ⟨c, hc, (carried c m).2 ⟨hl, hne⟩⟩
  · intro m x hm hs
    obtain ⟨hne, hx⟩ := (item m x).1 hm
    obtain ⟨hc, hq⟩ := h.inQueue m x hx hs
    exact ⟨hc, by rw [queue]; simp [hq, hne]⟩
  · intro l
    rw [queue]
    exact (h.nodup l).filter _
  · intro l m hm
    rw [queue, List.mem_filter, decide_eq_true_eq] at hm
    obtain ⟨x, hx, hl, hs⟩ := h.queued l m hm.1
    exact ⟨x, (item m x).2 ⟨hm.2, hx⟩, hl, hs⟩
  · intro c m hm
    obtain ⟨hl, hne⟩ := (carried c m).1 hm
    obtain ⟨x, hx, hs, hc⟩ := h.carried c m hl
    exact ⟨x, (item m x).2 ⟨hne, hx⟩, hs, hc⟩

theorem item_createItem (s : State) (l : LaneId) (number ticket m : Nat) :
    (s.createItem l number ticket).item m = if number = m then some (s.newItem l ticket) else s.item m :=
  lookup_put s.items.records number m _

theorem queue_createItem (s : State) (l m : LaneId) (number ticket : Nat) :
    ((s.createItem l number ticket).lanes.at m).queue =
      if l = m then (s.lanes.at m).queue ++ [number] else (s.lanes.at m).queue := by
  show ((s.lanes.modify l _).at m).queue = _
  rw [quad_at_modify]
  split <;> rfl

theorem create_placed {s : State} (h : s.Placed) (l : LaneId) (number ticket : Nat) (free : s.item number = none) :
    (s.createItem l number ticket).Placed := by
  have other : ∀ m x, s.item m = some x → number ≠ m := fun m x hm e => by simp [← e, free] at hm
  have notQueued : ∀ m, number ∉ (s.lanes.at m).queue := fun m hm => by
    obtain ⟨x, hx, _⟩ := h.queued m number hm
    exact other _ _ hx rfl
  refine ⟨wf_put _ _ _ h.itemsWf, h.carriersWf, ?_, ?_, ?_, ?_, ?_⟩
  · intro m x hm hs
    rw [item_createItem] at hm
    split at hm
    · cases hm; cases hs
    · exact h.onCarrier m x hm hs
  · intro m x hm hs
    rw [item_createItem] at hm
    rw [queue_createItem]
    split at hm
    · next hn =>
      cases hm
      exact ⟨rfl, by simp [State.newItem, hn]⟩
    · obtain ⟨hc, hq⟩ := h.inQueue m x hm hs
      refine ⟨hc, ?_⟩
      split <;> simp [hq]
  · intro m
    rw [queue_createItem]
    split
    · exact List.nodup_append.2 ⟨h.nodup m, List.nodup_singleton _, fun a ha b hb e =>
        notQueued m (List.mem_singleton.1 hb ▸ e ▸ ha)⟩
    · exact h.nodup m
  · intro m k hk
    rw [item_createItem]
    rw [queue_createItem] at hk
    have inOld : k ∈ (s.lanes.at m).queue →
        ∃ it, (if number = k then some (s.newItem l ticket) else s.item k) = some it ∧
          it.lane = m ∧ it.state ≠ .sorting := by
      intro hk
      obtain ⟨x, hx, hp⟩ := h.queued m k hk
      exact ⟨x, by rw [if_neg (other k x hx), hx], hp⟩
    split at hk
    · next hl =>
      rcases List.mem_append.1 hk with hk | hk
      · exact inOld hk
      · exact ⟨_, if_pos (List.mem_singleton.1 hk).symm, hl, nofun⟩
    · exact inOld hk
  · intro c m hm
    obtain ⟨x, hx, hp⟩ := h.carried c m hm
    exact ⟨x, by rw [item_createItem, if_neg (other m x hx), hx], hp⟩

theorem item_grant (s : State) (l : LaneId) (n carrier m : Nat) :
    (s.grant l n carrier).item m =
      if n = m then (s.item m).map fun it => it.load carrier s.line.clock else s.item m :=
  lookup_modify s.items.records n m _

theorem queue_grant (s : State) (l m : LaneId) (n carrier : Nat) :
    ((s.grant l n carrier).lanes.at m).queue = if l = m then (s.lanes.at m).queue.tail else (s.lanes.at m).queue := by
  show ((s.lanes.modify l _).at m).queue = _
  rw [quad_at_modify]
  split <;> rfl

theorem carriers_grant (s : State) (l : LaneId) (n carrier c : Nat) :
    (s.grant l n carrier).sorter.carriers.lookup c =
      if carrier = c then some n else s.sorter.carriers.lookup c :=
  lookup_put s.sorter.carriers carrier c n

/-- A granted item leaves its queue's head for the empty carrier, and no other item moves (R139). -/
theorem grant_placed {s : State} (h : s.Placed) (l : LaneId) (n carrier : Nat) (rest : List Nat) (it : Item)
    (head : (s.lanes.at l).queue = n :: rest) (live : s.item n = some it) (inLane : it.state ≠ .sorting)
    (empty : s.sorter.carriers.lookup carrier = none) : (s.grant l n carrier).Placed := by
  have ofLane : it.lane = l := (h.of_queued (by simp [head]) live).1
  have granted : (s.grant l n carrier).item n = some (it.load carrier s.line.clock) := by simp [item_grant, live]
  have other : ∀ m, n ≠ m → (s.grant l n carrier).item m = s.item m := fun m hm => by simp [item_grant, hm]
  have nodupHead : n ∉ rest ∧ rest.Nodup := List.nodup_cons.1 (head ▸ h.nodup l)
  have queued : ∀ m k, k ∈ ((s.grant l n carrier).lanes.at m).queue → n ≠ k ∧ k ∈ (s.lanes.at m).queue := by
    intro m k hk
    rw [queue_grant] at hk
    split at hk
    · next hl =>
      subst hl
      rw [head, List.tail_cons] at hk
      exact ⟨fun e => nodupHead.1 (e ▸ hk), by simp [head, hk]⟩
    · next hl =>
      exact ⟨fun e => hl (ofLane ▸ (h.of_queued (e ▸ hk) live).1), hk⟩
  refine ⟨(wf_modify s.items.records n _).trans h.itemsWf, wf_put _ _ _ h.carriersWf, ?_, ?_, ?_, ?_, ?_⟩
  · intro m x hm hs
    by_cases hn : n = m
    · subst hn
      rw [granted] at hm
      cases hm
      exact ⟨carrier, rfl, by simp [carriers_grant]⟩
    · rw [other m hn] at hm
      obtain ⟨c, hc, hl⟩ := h.onCarrier m x hm hs
      refine ⟨c, hc, ?_⟩
      rw [carriers_grant, if_neg (fun e => by simp [e, hl] at empty), hl]
  · intro m x hm hs
    by_cases hn : n = m
    · subst hn
      rw [granted] at hm
      cases hm
      exact absurd rfl hs
    · rw [other m hn] at hm
      obtain ⟨hc, hq⟩ := h.inQueue m x hm hs
      refine ⟨hc, ?_⟩
      rw [queue_grant]
      split
      · next hl =>
        rw [← hl, head, List.mem_cons] at hq
        rw [← hl, head, List.tail_cons]
        exact hq.resolve_left (Ne.symm hn)
      · exact hq
  · intro m
    rw [queue_grant]
    split
    · exact (h.nodup m).tail
    · exact h.nodup m
  · intro m k hk
    obtain ⟨hne, hk⟩ := queued m k hk
    rw [other k hne]
    exact h.queued m k hk
  · intro c m hm
    rw [carriers_grant] at hm
    split at hm
    · next hc => cases hm; exact ⟨_, granted, rfl, by simp [Item.load, hc]⟩
    · obtain ⟨x, hx, hs, hc⟩ := h.carried c m hm
      refine ⟨x, ?_, hs, hc⟩
      rw [other m fun e => ?_, hx]
      rw [← e, live] at hx
      exact inLane ((Option.some.inj hx) ▸ hs)

/-- Sending an item to gate E moves it nowhere (R8). -/
@[simp] theorem sendToE_place (it : Item) (reason : ExcReason) : (it.sendToE reason).place = it.place := by
  unfold Item.sendToE
  split <;> rfl

theorem cut_placed {s : State} (h : s.Placed) : s.cutSorter.Placed := by
  refine h.of_places ((wf_mapValues s.items.records _).trans h.itemsWf) (fun n => ?_) rfl fun _ => rfl
  have hn : s.cutSorter.item n = _ := lookup_mapValues s.items.records _ n
  rw [hn, Option.map_map]
  refine congrArg (fun f => Option.map f (s.item n)) (funext fun it => ?_)
  simp only [Function.comp]
  split <;> simp

theorem rewrite_placed {s : State} (h : s.Placed) (n : Nat) (f : Item → Item)
    (same : ∀ it, s.item n = some it → (f it).place = it.place) : (s.modItem n f).Placed := by
  refine h.of_places ((wf_modify s.items.records n f).trans h.itemsWf) (fun m => ?_) rfl fun _ => rfl
  rw [item_modItem]
  split
  · next hm =>
    subst hm
    cases hn : s.item n with
    | none => rfl
    | some it => exact congrArg some (same it hn)
  · rfl

theorem Change.placed {s t : State} (h : Change s t) (hs : s.Placed) : t.Placed := by
  cases h with
  | aside items carriers queues =>
    exact hs.of_places (items ▸ hs.itemsWf) (fun n => by unfold State.item; rw [items]) carriers queues
  | rewrite n f same => exact rewrite_placed hs n f same
  | cut => exact cut_placed hs
  | retire n it final live => exact retire_placed hs live final
  | create l number ticket free => exact create_placed hs l number ticket free
  | grant l n carrier rest it head live inLane empty => exact grant_placed hs l n carrier rest it head live inLane empty
  | clearQueue l f cleared gone =>
    have already : (s.lanes.at l).queue = [] := List.eq_nil_iff_forall_not_mem.2 fun n hn => by
      obtain ⟨x, hx, _⟩ := hs.queued l n hn
      simp [gone n hn] at hx
    refine hs.of_places hs.itemsWf (fun _ => rfl) rfl fun m => ?_
    rw [modLane_lanes, quad_at_modify]
    split
    · next hm => subst hm; rw [cleared, already]
    · rfl
  | reset items carriers queues =>
    have noItem : ∀ n, t.item n = none := fun n => by unfold State.item; rw [items]; rfl
    exact ⟨items ▸ rfl, carriers ▸ rfl, fun n it hn => by simp [noItem] at hn, fun n it hn => by simp [noItem] at hn,
      fun l => by simp [queues], fun l n hn => by simp [queues] at hn,
      fun c n hn => by rw [carriers] at hn; cases hn⟩

/-! ### Chains of changes -/

/-- The second state comes from the first by a chain of changes. -/
abbrev Changes : State → State → Prop := Relation.ReflTransGen Change

theorem Changes.canonical {s t : State} (h : Changes s t) (hs : s.canonical = true) : t.canonical = true := by
  induction h with
  | refl => exact hs
  | tail _ h ih => exact h.canonical ih

theorem Changes.placed {s t : State} (h : Changes s t) (hs : s.Placed) : t.Placed := by
  induction h with
  | refl => exact hs
  | tail _ h ih => exact h.placed ih

/-- A chain of changes for each step of a fold is a chain for the fold. -/
theorem foldl_changes {α : Type} (f : State → α → State) (h : ∀ s a, Changes s (f s a)) (l : List α) (s : State) :
    Changes s (l.foldl f s) := by
  induction l generalizing s with
  | nil => exact .refl
  | cons a rest ih => exact (h s a).trans (ih _)

/-- Nothing that the tables and the queues hold changes. -/
theorem changes_of_same {s t : State} (items : t.items.records = s.items.records := by rfl)
    (carriers : t.sorter.carriers = s.sorter.carriers := by rfl)
    (queues : ∀ l, (t.lanes.at l).queue = (s.lanes.at l).queue := by intro l; rfl)
    (returns : t.returns.records = s.returns.records := by rfl)
    (gates : t.line.gatePositions = s.line.gatePositions := by rfl)
    (enables : t.line.enables = s.line.enables := by rfl) (banks : t.plan.banks = s.plan.banks := by rfl)
    (totes : t.totes = s.totes := by rfl) : Changes s t :=
  .single (.aside items carriers queues fun h => h.congr returns gates enables banks totes)

/-! ### One entry of a block -/

theorem rewrite_changes (s : State) (n : Nat) (f : Item → Item)
    (same : ∀ it, s.item n = some it → (f it).place = it.place) : Changes s (s.modItem n f) :=
  .single (.rewrite n f same)

/-- A record is replaced by one that says the same of its place. -/
theorem replace_changes (s : State) (n : Nat) (it it' : Item) (live : s.item n = some it) (same : it'.place = it.place) :
    Changes s (s.modItem n fun _ => it') :=
  rewrite_changes s n _ fun x hx => by rw [live] at hx; exact (Option.some.inj hx) ▸ same

theorem modLane_changes (s : State) (l : LaneId) (f : Lane → Lane) (kept : ∀ x, (f x).queue = x.queue := by intro x; rfl) :
    Changes s (s.modLane l f) :=
  changes_of_same (queues := fun m => by rw [modLane_lanes, quad_at_modify]; split <;> simp [kept])

theorem returns_changes (s : State) (r : ReturnTable) (h : s.returns.records.wf = true → r.records.wf = true) :
    Changes s { s with returns := r } :=
  .single (.aside rfl rfl (fun _ => rfl) fun o => ⟨h o.returns, o.gates, o.enables, o.banks, o.dests⟩)

theorem modRa_changes (s : State) (n : Nat) (f : Ra → Ra) : Changes s (s.modRa n f) :=
  returns_changes s _ fun h => (wf_modify s.returns.records n f).trans h

theorem putRa_changes (s : State) (n : Nat) (r : Ra) : Changes s (s.putRa n r) :=
  returns_changes s _ fun h => wf_put _ n r h

theorem removeRa_changes (s : State) (n : Nat) : Changes s (s.removeRa n) :=
  returns_changes s _ fun h => wf_remove _ n h

theorem modSlot_changes (s : State) (x : SlotId) (f : Slot → Slot) : Changes s (s.modSlot x f) :=
  changes_of_same

theorem modBank_changes (s : State) (b : BankId) (f : Bank → Bank)
    (hf : ∀ x, x.canonical = true → (f x).canonical = true := by intro x h; exact h) : Changes s (s.modBank b f) :=
  .single (.aside rfl rfl (fun _ => rfl) fun o => o.modBank b f hf)

theorem modDest_changes (s : State) (d : Nat) (f : Destination → Destination) : Changes s (s.modDest d f) :=
  .single (.aside rfl rfl (fun _ => rfl) fun o =>
    ⟨o.returns, o.gates, o.enables, o.banks, (keys_modify s.totes.dests d f).trans o.dests⟩)

theorem fireGate_changes (s : State) (g : Nat) : Changes s (s.fireGate g) :=
  changes_of_same

/-! ### Events and the line -/

theorem offer_changes (s : State) (item : Nat) (body : EventBody) : Changes s (s.offer item body) :=
  changes_of_same (by simp) (by simp) (by simp) (by simp) (by simp) (by simp) (by simp) (by simp)

/-- The mode, the marks and the pin of the line change, and LINE STATE is offered. -/
theorem offerLineState_changes (s : State) (line : LineControl) (cause : LineCause)
    (gates : line.gatePositions = s.line.gatePositions := by rfl) (enables : line.enables = s.line.enables := by rfl) :
    Changes s (State.offerLineState { s with line := line } cause) :=
  changes_of_same (by simp) (by simp) (by simp) (by simp) (by simpa using gates) (by simpa using enables) (by simp)
    (by simp)

theorem setPause_changes (s : State) (why : PauseCause) (cause : LineCause) : Changes s (s.setPause why cause) := by
  unfold State.setPause
  split
  · exact .refl
  · exact offerLineState_changes s _ cause

theorem clearPause_changes (s : State) : Changes s s.clearPause := by
  unfold State.clearPause
  split
  · exact offerLineState_changes s _ _
  · exact .refl

theorem endTest_changes (s : State) : Changes s s.endTest := by
  unfold State.endTest
  split
  · exact offerLineState_changes s _ _
  · exact .refl

theorem countDraw_changes (s : State) (choices : Nat) : Changes s (s.countDraw choices) :=
  changes_of_same (by simp) (by simp) (by simp) (by simp) (by simp) (by simp) (by simp) (by simp)

/-! ### Settlement and retirement -/

theorem settleRa_changes (s : State) (n : Nat) : Changes s (s.settleRa n) := by
  unfold State.settleRa
  split
  · exact .refl
  · split
    · exact removeRa_changes s n
    · exact modRa_changes s n _

theorem settle_changes (s : State) (l : LaneId) (cause : EndCause) (retired : Nat) : Changes s (s.settle l cause retired) :=
  (foldl_changes _ settleRa_changes _ s).trans <| (offer_changes _ _ _).trans <|
    (modLane_changes _ l _).trans (endTest_changes _)

theorem settlementTest_changes (s : State) (l : LaneId) : Changes s (s.settlementTest l) := by
  unfold State.settlementTest
  split
  · exact settle_changes s l _ 0
  · exact .refl

theorem releaseBank_changes (s : State) (b : BankId) : Changes s (s.releaseBank b) := by
  unfold State.releaseBank
  dsimp only
  split
  · exact (modBank_changes s b _).trans (offer_changes _ _ _)
  · exact modBank_changes s b _

theorem afterRetirement_changes (s : State) (it : Item) (tell : Bool) : Changes s (s.afterRetirement it tell) := by
  have told : ∀ u : State, Changes u (if tell && !it.decided then u.settlementTest it.lane else u) := fun u => by
    split
    · exact settlementTest_changes u it.lane
    · exact .refl
  have ended : ∀ u : State, Changes u (if u.live = 0 then u.endTest else u) := fun u => by
    split
    · exact endTest_changes u
    · exact .refl
  exact (releaseBank_changes s it.bank).trans ((told _).trans (ended _))

theorem withdraw_changes (s : State) (n : Nat) (reason : WithdrawReason) (tell : Bool) :
    Changes s (s.withdraw n reason tell) := by
  unfold State.withdraw
  split
  · exact .refl
  · next it live => exact .head (.retire n it _ live) (afterRetirement_changes _ it tell)

theorem item_withdraw (s : State) (n m : Nat) (reason : WithdrawReason) (tell : Bool) :
    (s.withdraw n reason tell).item m = if n = m then none else s.item m := by
  unfold State.withdraw
  split
  · next h =>
    split
    · next hm => exact hm ▸ h
    · rfl
  · rw [item_of_items_eq (afterRetirement_items _ _ _), item_closeRecord]

theorem queue_settle (s : State) (l m : LaneId) (cause : EndCause) (retired : Nat) :
    ((s.settle l cause retired).lanes.at m).queue = (s.lanes.at m).queue := by
  simp only [State.settle, endTest_lanes, modLane_lanes, quad_at_modify, offer_lanes,
    foldl_keeps (fun x => x.lanes) State.settleRa settleRa_lanes]
  split <;> rfl

theorem queue_settlementTest (s : State) (l m : LaneId) :
    ((s.settlementTest l).lanes.at m).queue = (s.lanes.at m).queue := by
  unfold State.settlementTest
  split
  · exact queue_settle s l m _ 0
  · rfl

theorem queue_afterRetirement (s : State) (it : Item) (tell : Bool) (m : LaneId) :
    ((s.afterRetirement it tell).lanes.at m).queue = (s.lanes.at m).queue := by
  unfold State.afterRetirement
  dsimp only
  split <;> split <;> simp [queue_settlementTest]

/-- A retirement puts nothing into a queue. -/
theorem queue_withdraw_subset (s : State) (n : Nat) (reason : WithdrawReason) (tell : Bool) (l : LaneId) :
    ((s.withdraw n reason tell).lanes.at l).queue ⊆ (s.lanes.at l).queue := by
  unfold State.withdraw
  split
  · exact List.Subset.refl _
  · rw [queue_afterRetirement, closeRecord_lanes, quad_at_modify]
    split
    · exact List.filter_subset_self _
    · exact List.Subset.refl _

theorem item_foldl_withdraw (l : List Nat) (reason : WithdrawReason) (tell : Bool) (s : State) (m : Nat) :
    (l.foldl (fun s n => s.withdraw n reason tell) s).item m = if m ∈ l then none else s.item m := by
  induction l generalizing s with
  | nil => simp
  | cons n rest ih =>
    rw [List.foldl_cons, ih, item_withdraw]
    by_cases hr : m ∈ rest <;> by_cases hn : n = m <;> simp [hr, hn, Ne.symm]

theorem queue_foldl_withdraw_subset (ns : List Nat) (reason : WithdrawReason) (tell : Bool) (s : State) (l : LaneId) :
    ((ns.foldl (fun s n => s.withdraw n reason tell) s).lanes.at l).queue ⊆ (s.lanes.at l).queue := by
  induction ns generalizing s with
  | nil => exact List.Subset.refl _
  | cons n rest ih => exact List.Subset.trans (ih _) (queue_withdraw_subset s n reason tell l)

/-- An abort retires all that its lane's queue lists, before it empties the queue (R66). -/
theorem abort_changes (s : State) (l : LaneId) (reason : WithdrawReason) (cause : EndCause) :
    Changes s (s.abort l reason cause) := by
  have retired := foldl_changes (fun s n => s.withdraw n reason false) (fun s n => withdraw_changes s n reason false)
    (s.lanes.at l).queue s
  have emptied := retired.tail (.clearQueue l (fun x => { x with queue := [], verdict := .none, timer := none })
    (fun _ => rfl) fun n hn => by
      rw [item_foldl_withdraw, if_pos (queue_foldl_withdraw_subset _ _ _ _ _ hn)])
  unfold State.abort
  dsimp only
  split
  · exact emptied
  · exact emptied.trans (settle_changes _ _ _ _)

/-! ### Decisions -/

theorem countFound_changes (s : State) (it : Item) (found : MatchResult × Option Found) :
    Changes s (s.countFound it found) := by
  unfold State.countFound
  split
  · split
    · split
      · exact modRa_changes s _ _
      · exact .refl
    all_goals exact .refl
  · exact .refl

/-- A decision leaves a SORTING item SORTING, and no other becomes so. -/
theorem decidedState_sorting (x : ItemState) : decidedState x = .sorting ↔ x = .sorting := by cases x <;> decide

@[simp] theorem decisionFor_place (s : State) (it : Item) (m : MatchReturn) : (s.decisionFor it m).1.place = it.place := by
  simp [State.decisionFor, Item.afterDecision, Item.place, decidedState_sorting]

@[simp] theorem forceUndecided_place (it : Item) (g : Grade) (b : Bank) (clock : Nat) :
    (it.forceUndecided g b clock).place = it.place := by
  simp [Item.forceUndecided, Item.place, decidedState_sorting]

@[simp] theorem forceDecided_place (it : Item) (g : Grade) (b : Bank) : (it.forceDecided g b).place = it.place := rfl

/-- The decision of an undecided item, act by act (R117). -/
theorem decideItem_of_undecided (s : State) (n : Nat) (it : Item) (live : s.item n = some it) (h : it.decided = false) :
    s.decideItem n =
      ((s.decisionFor it (matchReturn (s.searchFor it))).2.foldl (fun u f => u.offerFailure n it.bank f)
        ((((s.countFound it (s.searchFor it)).modItem n fun _ =>
            (s.decisionFor it (matchReturn (s.searchFor it))).1).modLane it.lane fun x => x.stopTimer n).offer n
          (.itemGraded (s.decisionFor it (matchReturn (s.searchFor it))).1.gradedFields))).settlementTest it.lane := by
  simp [State.decideItem, live, h]

theorem decideItem_changes (s : State) (n : Nat) : Changes s (s.decideItem n) := by
  cases live : s.item n with
  | none => simp only [State.decideItem, live]; exact .refl
  | some it =>
    cases undecided : it.decided with
    | true => simp only [State.decideItem, live, undecided]; exact .refl
    | false =>
      have live' : (s.countFound it (s.searchFor it)).item n = some it := by
        rw [item_of_items_eq (countFound_items _ _ _), live]
      rw [decideItem_of_undecided s n it live undecided]
      exact (countFound_changes s it _).trans <| (replace_changes _ n it _ live' (decisionFor_place s it _)).trans <|
        (modLane_changes _ it.lane _).trans <| (offer_changes _ _ _).trans <|
        (foldl_changes _ (fun u f => offer_changes u n _) _ _).trans (settlementTest_changes _ _)

theorem testItem_changes (s : State) (n : Nat) : Changes s (s.testItem n) := by
  unfold State.testItem
  split
  · exact .refl
  · split
    · exact decideItem_changes s n
    · exact .refl

theorem retest_changes (s : State) (l : LaneId) : Changes s (s.retest l) := by
  refine foldl_changes _ (fun s n => ?_) _ s
  split
  · exact .refl
  · split
    · exact testItem_changes s n
    · exact .refl

/-! ### The Item Table's requests (R15 to R19) -/

theorem readItem_state (n : Nat) (s : State) : (readItem n s).state = s := by
  unfold readItem
  split
  · rfl
  · split <;> rfl

theorem withdrawItem_changes (n : Nat) (s : State) : Changes s (withdrawItem n s).state := by
  unfold withdrawItem
  split
  · exact .refl
  · split
    · exact withdraw_changes s n .host true
    · exact rewrite_changes s n _ fun _ _ => rfl

theorem forceGrade_changes (n : Nat) (grade : Coded Grade) (s : State) : Changes s (forceGrade n grade s).state := by
  unfold forceGrade
  split
  · exact .refl
  · next it live =>
    split
    · exact .refl
    · next g _ =>
      dsimp only
      split
      · exact (replace_changes s n it _ live (forceDecided_place it g _)).trans (offer_changes _ _ _)
      · exact (replace_changes s n it _ live (forceUndecided_place it g _ _)).trans <|
          (modLane_changes _ it.lane _).trans <| (offer_changes _ _ _).trans (settlementTest_changes _ _)

/-! ### The Station Bus (R71 to R88) -/

theorem bus_changes (s : State) (b : StationBus) : Changes s { s with bus := b } :=
  changes_of_same

theorem noteGarbled_changes (s : State) (x : SlotId) : Changes s (s.endTurn.noteGarbled x) :=
  (bus_changes s _).trans (modSlot_changes _ x _)

theorem takeAnswer_changes (s : State) (a : AnswerHead) (fromRole : Role → Bool) (dataOk : Bool)
    (act : SlotId → State → State) (h : ∀ x u, Changes u (act x u)) : Changes s (s.takeAnswer a fromRole dataOk act) := by
  unfold State.takeAnswer
  split
  · exact .refl
  · next x _ =>
    split
    · split
      · exact (bus_changes s _).trans <| (modSlot_changes _ x _).trans (h x _)
      · exact noteGarbled_changes s x
    · exact bus_changes s _

theorem takeGarbled_changes (s : State) : Changes s s.takeGarbled := by
  unfold State.takeGarbled
  split
  · exact .refl
  · split
    · exact noteGarbled_changes s _
    · exact bus_changes s _

theorem turnPassed_changes (s : State) (partialAnswer : Bool) : Changes s (s.turnPassed partialAnswer) := by
  unfold State.turnPassed
  split
  · exact .refl
  · split
    · exact noteGarbled_changes s _
    · exact bus_changes s _

@[simp] theorem withStatus_place (it : Item) (r : Role) (x : RoleStatus) : (it.withStatus r x).place = it.place := by
  cases r <;> rfl

theorem deliver_changes (s : State) (x : SlotId) (ticket : Nat) (kind : ReportKind) (write : Item → Item)
    (same : ∀ it, (write it).place = it.place) : Changes s (s.deliver x ticket kind write) := by
  unfold State.deliver
  split
  · exact offer_changes _ _ _
  · split
    · exact offer_changes _ _ _
    · split
      · exact (rewrite_changes s _ _ fun it _ => by simp [same]).trans (testItem_changes _ _)
      · exact offer_changes _ _ _
      · exact offer_changes _ _ _

theorem loseRole_changes (s : State) (r : Role) (n : Nat) : Changes s (s.loseRole r n) := by
  unfold State.loseRole
  split
  · exact .refl
  · split
    · exact (rewrite_changes s n _ fun it _ => by simp).trans (testItem_changes _ _)
    · exact .refl

theorem roleDown_changes (s : State) (x : SlotId) : Changes s (s.roleDown x) := by
  unfold State.roleDown
  split
  · exact foldl_changes _ (fun u n => loseRole_changes u x.role n) _ s
  · exact .refl

theorem scoreSlot_changes (s : State) (x : SlotId) : Changes s (s.scoreSlot x) := by
  unfold State.scoreSlot
  split
  · exact .refl
  · next o _ =>
    dsimp only
    refine (modSlot_changes s x fun _ => (s.slot x).scored o).trans ?_
    split
    · exact (modSlot_changes _ x _).trans <| (offer_changes _ _ _).trans (roleDown_changes _ x)
    · split
      · exact (modSlot_changes _ x _).trans (offer_changes _ _ _)
      · exact .refl

theorem closeSweep_changes (s : State) : Changes s s.closeSweep := by
  unfold State.closeSweep
  split
  · exact .refl
  · exact (foldl_changes _ scoreSlot_changes _ s).trans (bus_changes _ _)

theorem beginSweep_changes (s : State) : Changes s s.beginSweep := by
  unfold State.beginSweep
  dsimp only
  split
  · exact .refl
  · exact changes_of_same (queues := fun l => by simp)

theorem sweepExpiry_changes (s : State) : Changes s s.sweepExpiry :=
  (closeSweep_changes s).trans <| (beginSweep_changes _).trans (bus_changes _ _)

theorem enrolStation_changes (lane : Nat) (role : Coded Role) (address : Nat) (s : State) :
    Changes s (enrolStation lane role address s).state := by
  unfold enrolStation
  repeat' split
  exacts [.refl, .refl, .refl, .refl, .refl, modSlot_changes s _ _]

theorem retireStation_changes (lane : Nat) (role : Coded Role) (s : State) :
    Changes s (retireStation lane role s).state := by
  unfold retireStation
  repeat' split
  exacts [.refl, .refl, .refl, modSlot_changes s _ _]

theorem readStation_changes (lane : Nat) (role : Coded Role) (s : State) : Changes s (readStation lane role s).state := by
  unfold readStation
  split
  · exact .refl
  · exact modSlot_changes s _ _

/-! ### The Return Table (R29 to R38) -/

theorem loadReturn_changes (r : ReturnLoad) (s : State) : Changes s (loadReturn r s).state := by
  have retested : ∀ (u : State) (l : Option LaneId), Changes u ((l.map fun l => u.retest l).getD u) := fun u l => by
    cases l with
    | none => exact .refl
    | some l => exact retest_changes u l
  unfold loadReturn
  repeat' split
  exacts [.refl, .refl, .refl, putRa_changes s _ _, .refl, .refl, .refl, (modRa_changes s _ _).trans (retested _ _)]

theorem addTags_changes (n index : Nat) (codes : List TagCode) (s : State) : Changes s (addTags n index codes s).state := by
  unfold addTags
  repeat' split
  exacts [.refl, .refl, .refl, .refl, .refl, .refl, modRa_changes s _ _]

theorem amendReturn_changes (n : Nat) (label reason : Option Nat) (quantity : Option (Nat × Nat)) (s : State) :
    Changes s (amendReturn n label reason quantity s).state := by
  unfold amendReturn
  repeat' split
  exacts [.refl, .refl, .refl, modRa_changes s _ _]

theorem removeReturn_changes (n : Nat) (s : State) : Changes s (removeReturn n s).state := by
  unfold removeReturn
  repeat' split
  exacts [.refl, .refl, removeRa_changes s n]

theorem readReturn_state (n : Nat) (index : Option Nat) (s : State) : (readReturn n index s).state = s := by
  unfold readReturn
  repeat' split
  all_goals rfl

theorem manifestExpiry_changes (s : State) (n : Nat) : Changes s (s.manifestExpiry n) := by
  have overdue : ∀ r, Changes s (s.manifestOverdue n r) := fun r => by
    unfold State.manifestOverdue
    refine (modRa_changes s n fun x => { x with state := .overdue, timer := none }).trans ?_
    dsimp only
    split
    · exact .refl
    · exact (offer_changes _ _ _).trans (retest_changes _ _)
  unfold State.manifestExpiry
  repeat' split
  exacts [.refl, .refl, overdue _, .refl]

/-! ### The Lane Controllers (R51 to R66) -/

theorem bindPair_changes (s : State) (l : LaneId) (account : Nat) (pair : Nat × Nat) :
    Changes s (s.bindPair l account pair) := by
  unfold State.bindPair
  split <;> exact putRa_changes s _ _

theorem openParcel_changes (lane account : Nat) (pairs : List (Nat × Nat)) (s : State) :
    Changes s (openParcel lane account pairs s).state := by
  have opened : ∀ l, Changes s (s.openParcel l account pairs) := fun l =>
    (foldl_changes _ (fun u p => bindPair_changes u l account p) pairs s).trans (modLane_changes _ l _)
  unfold openParcel
  repeat' split
  exacts [.refl, .refl, .refl, .refl, .refl, .refl, .refl, opened _]

theorem issueNumber_free (s : State) (number : Nat) (h : s.issueNumber = some number) : s.item number = none := by
  have free := (firstFree_spec _ _ _ _ _ _ h).1
  simpa [Table.has, State.item] using free

theorem presented_changes (s : State) (l : LaneId) : Changes s (s.presented l) := by
  have admitted : Changes s (s.admission l) := by
    unfold State.admission
    split
    · next number ticket hn _ =>
      exact .head (.create l number ticket (issueNumber_free s number hn)) (testItem_changes _ _)
    · exact .refl
  have afresh : Changes s (s.presentAfresh l) := by
    unfold State.presentAfresh
    split
    · exact admitted
    · exact modLane_changes s l _
  unfold State.presented
  split
  exacts [.refl, afresh, afresh]

theorem arrive_changes (s : State) (l : LaneId) (n : Nat) : Changes s (s.arrive l n) := by
  unfold State.arrive
  split
  · exact .refl
  · next it live =>
    -- the item on the belt is not SORTING, and is not SORTING at lane end either
    have arrived : ∀ x, it.state ≠ .sorting → x ≠ .sorting →
        Changes s (s.modItem n fun y => { y with state := x }) := fun x hi hx =>
      rewrite_changes s n _ fun y hy => by
        rw [live] at hy
        cases hy
        simp [Item.place, hi, hx]
    split
    · next h => exact (arrived .waiting (by simp [h]) nofun).trans (modLane_changes _ l _)
    · next h => exact arrived .ready (by simp [h]) nofun
    all_goals exact .refl

theorem atEnd_changes (s : State) (l : LaneId) (ticket : Nat) : Changes s (s.atEnd l ticket) := by
  unfold State.atEnd
  dsimp only
  split
  · exact offer_changes _ _ _
  · exact (foldl_changes _ (fun u m => withdraw_changes u m .skipped true) _ s).trans (arrive_changes _ l _)

theorem decisionExpiry_changes (s : State) (l : LaneId) : Changes s (s.decisionExpiry l) := by
  have atOnce : ∀ (u : State) n, Changes u (u.decideAtOnce n) := fun u n => by
    unfold State.decideAtOnce
    split
    · exact .refl
    · split
      · exact .refl
      · exact (rewrite_changes u n Item.giveUp fun _ _ => rfl).trans (decideItem_changes _ _)
  unfold State.decisionExpiry
  split
  · exact .refl
  · split
    · exact (modLane_changes s l _).trans (atOnce _ _)
    · exact .refl

theorem close_changes (s : State) (l : LaneId) (cause : CloseCause) : Changes s (s.close l cause) :=
  (modLane_changes s l _).trans (settlementTest_changes _ l)

theorem closeParcel_changes (lane : Nat) (s : State) : Changes s (closeParcel lane s).state := by
  unfold closeParcel
  repeat' split
  exacts [.refl, .refl, close_changes s _ _, .refl]

theorem parcelDone_changes (s : State) (l : LaneId) : Changes s (s.parcelDone l) := by
  unfold State.parcelDone
  split
  exacts [.refl, close_changes s l _, .refl]

theorem abortLane_changes (lane : Nat) (s : State) : Changes s (abortLane lane s).state := by
  unfold abortLane
  split
  · exact .refl
  · exact abort_changes s _ _ _

/-! ### The Plan Store (R99 to R108) -/

/-- A write to the edit bank keeps the form of the bank's tables if what it writes does. -/
theorem writeBank_changes (inRange : Bool) (f : Bank → Bank) (s : State)
    (hf : ∀ x, x.canonical = true → (f x).canonical = true) : Changes s (s.writeBank inRange f).state := by
  unfold State.writeBank
  repeat' split
  exacts [.refl, .refl, modBank_changes s _ _ fun x h => hf x h]

theorem bank_canonical_iff (b : Bank) : b.canonical = true ↔
    b.checks.wf = true ∧ b.lists.wf = true ∧ b.programs.wf = true ∧ b.map.wf = true := by
  simp [Bank.canonical, and_assoc]

theorem writeCheck_changes (number : Nat) (fields : CheckFields) (s : State) :
    Changes s (writeCheck number fields s).state := by
  unfold writeCheck
  split
  · exact writeBank_changes _ _ s fun _ h => h
  · refine writeBank_changes _ _ s fun x h => ?_
    obtain ⟨hc, hl, hp, hm⟩ := (bank_canonical_iff x).1 h
    exact (bank_canonical_iff _).2 ⟨wf_put _ _ _ hc, hl, hp, hm⟩

theorem writeList_changes (number : Nat) (entries : List Nat) (s : State) : Changes s (writeList number entries s).state :=
  writeBank_changes _ _ s fun x h => by
    obtain ⟨hc, hl, hp, hm⟩ := (bank_canonical_iff x).1 h
    exact (bank_canonical_iff _).2 ⟨hc, wf_put _ _ _ hl, hp, hm⟩

theorem writeProgram_changes (category list group nominal pieces : Nat) (s : State) :
    Changes s (writeProgram category list group nominal pieces s).state :=
  writeBank_changes _ _ s fun x h => by
    obtain ⟨hc, hl, hp, hm⟩ := (bank_canonical_iff x).1 h
    exact (bank_canonical_iff _).2 ⟨hc, hl, wf_put _ _ _ hp, hm⟩

theorem writeThresholds_changes (t1 t2 t3 : Nat) (s : State) : Changes s (writeThresholds t1 t2 t3 s).state :=
  writeBank_changes _ _ s fun _ h => h

theorem wf_foldl_writeCell (cells : List (Nat × Nat)) (map : Table Dest) (h : map.wf = true) :
    (cells.foldl writeCell map).wf = true := by
  induction cells generalizing map with
  | nil => exact h
  | cons cell rest ih =>
    refine ih _ ?_
    unfold writeCell
    split
    · exact h
    · exact wf_put _ _ _ h

theorem writeMap_changes (cells : List (Nat × Nat)) (s : State) : Changes s (writeMap cells s).state :=
  writeBank_changes _ _ s fun x h => by
    obtain ⟨hc, hl, hp, hm⟩ := (bank_canonical_iff x).1 h
    exact (bank_canonical_iff _).2 ⟨hc, hl, hp, wf_foldl_writeCell cells _ hm⟩

theorem clearBank_changes (s : State) : Changes s (clearBank s).state := by
  unfold clearBank
  split
  · exact .refl
  · exact modBank_changes s _ _ fun _ _ => rfl

theorem validatePlan_changes (s : State) : Changes s (validatePlan s).state := by
  unfold validatePlan
  repeat' split
  exacts [.refl, modBank_changes s _ _, modBank_changes s _ _]

theorem switchBanks_changes (s : State) : Changes s s.switchBanks := by
  have left : Changes s ((s.activeBank.map fun b => s.modBank b Bank.leaveActive).getD s) := by
    cases s.activeBank with
    | none => exact .refl
    | some b => exact modBank_changes s b _
  exact left.trans <| (modBank_changes _ s.editBank _).trans (offer_changes _ _ _)

theorem switchPlan_changes (s : State) : Changes s (switchPlan s).state := by
  unfold switchPlan
  repeat' split
  exacts [.refl, .refl, switchBanks_changes s]

theorem setShadow_changes (value : Coded OnOff) (s : State) : Changes s (setShadow value s).state := by
  unfold setShadow
  split
  · exact .refl
  · exact changes_of_same

/-! ### The Destination Controller (R155 to R166) -/

theorem offerLotOpen_changes (s : State) (d : Nat) : Changes s (s.offerLotOpen d) := by
  unfold State.offerLotOpen
  split
  · exact .refl
  · exact offer_changes _ _ _

theorem advance_changes (s : State) (d : Nat) : Changes s (s.advance d) := by
  unfold State.advance
  split
  · exact modDest_changes s d _
  · exact (modDest_changes s d _).trans <| (offer_changes _ _ _).trans (offerLotOpen_changes _ d)

theorem nextStep_changes (s : State) (d : Nat) (t : Tote) : Changes s (s.nextStep d t) := by
  unfold State.nextStep
  split
  · exact (modDest_changes s d _).trans <| (offer_changes _ _ _).trans (offerLotOpen_changes _ d)
  · exact advance_changes s d

theorem takeIntoLot_changes (s : State) (d : Nat) (t : Tote) : Changes s (s.takeIntoLot d t) := by
  unfold State.takeIntoLot
  dsimp only
  split
  · exact (modDest_changes s d _).trans (offer_changes _ _ _)
  · exact modDest_changes s d _

theorem complete_changes (s : State) (d : Nat) (t : Tote) (reason : CompletionReason) (item : Nat) :
    Changes s (s.complete d t reason item) :=
  (offer_changes s _ _).trans <| (takeIntoLot_changes _ d t).trans (nextStep_changes _ d t)

theorem afterDrop_changes (s : State) (d : Nat) (t : Tote) (item : Nat) : Changes s (s.afterDrop d t item) := by
  unfold State.afterDrop
  repeat' split
  exacts [complete_changes s d t _ _, offer_changes _ _ _, .refl]

theorem addTote_changes (d tote capacity weightLimit warnAt : Nat) (pause lotEnd : Coded Mark) (s : State) :
    Changes s (addTote d tote capacity weightLimit warnAt pause lotEnd s).state := by
  unfold addTote
  repeat' split
  exacts [.refl, .refl, .refl, modDest_changes s d _]

theorem confirmSwap_changes (d : Nat) (s : State) : Changes s (confirmSwap d s).state := by
  unfold confirmSwap
  repeat' split
  exacts [.refl, advance_changes s d, .refl, .refl, .refl]

theorem setLimit_changes (d : Nat) (limit : Option Nat) (s : State) : Changes s (setLimit d limit s).state := by
  have released : ∀ u : State, Changes u (u.releaseLimit d) := fun u => by
    unfold State.releaseLimit
    repeat' split
    exacts [.refl, advance_changes u d, .refl, .refl, .refl]
  unfold setLimit
  split
  · exact .refl
  · exact (modDest_changes s d _).trans (released _)

theorem closeTote_changes (d tote : Nat) (s : State) : Changes s (closeTote d tote s).state := by
  unfold closeTote
  repeat' split
  exacts [.refl, .refl, .refl, complete_changes s d _ _ _, .refl, .refl]

theorem dropChain_changes (d : Nat) (s : State) : Changes s (dropChain d s).state := by
  unfold dropChain
  split
  · exact .refl
  · exact modDest_changes s d _

theorem readDestination_state (d : Nat) (s : State) : (readDestination d s).state = s := by
  unfold readDestination
  repeat' split
  all_goals rfl

/-! ### The Sorter Tracker (R133 to R147) -/

@[simp] theorem lap_place (it : Item) (limit : Nat) : (it.lap limit).place = it.place := by
  unfold Item.lap
  dsimp only
  split
  · exact sendToE_place _ _
  · rfl

/-- What a lane must show to be eligible for a grant (R138). -/
theorem eligible_eq_some {s : State} {l : LaneId} {n : Nat} (h : s.eligible l = some n) :
    ∃ rest it, (s.lanes.at l).queue = n :: rest ∧ s.item n = some it ∧ it.state = .ready := by
  unfold State.eligible at h
  split at h
  · cases h
  · next m rest hq =>
    split at h
    · cases h
    · next it hit =>
      split at h
      · next hr => cases h; exact ⟨rest, it, hq, hit, hr.1⟩
      · cases h

theorem firstEligible_eq_some {s : State} {l : LaneId} {n : Nat} (h : s.firstEligible = some (l, n)) :
    s.eligible l = some n := by
  obtain ⟨l', _, h⟩ := List.exists_of_findSome?_eq_some h
  obtain ⟨n', hn, h⟩ := Option.map_eq_some_iff.1 h
  cases h
  exact hn

theorem mergeWork_changes (s : State) : Changes s s.mergeWork := by
  unfold State.mergeWork
  dsimp only
  split
  · exact rewrite_changes s _ _ fun it _ => lap_place it _
  · next empty =>
    split
    · split
      · next l n h =>
        obtain ⟨rest, it, head, live, ready⟩ := eligible_eq_some (firstEligible_eq_some h)
        exact .single (.grant l n _ rest it head live (by simp [ready]) empty)
      · exact .refl
    · exact .refl

theorem atGate_item {s : State} {g n : Nat} {it : Item} (h : s.atGate g = some (n, it)) : s.item n = some it := by
  unfold State.atGate at h
  split at h
  · cases h
  · split at h
    · cases h
    · obtain ⟨x, hx, h⟩ := Option.map_eq_some_iff.1 h
      cases h
      exact hx

theorem acceptDrop_changes (s : State) (n : Nat) (it : Item) (d : Nat) (t : Tote) (w : Nat) (live : s.item n = some it) :
    Changes s (s.acceptDrop n it d t w) :=
  (modDest_changes s d _).trans <| (fireGate_changes _ d).trans <| .head (.retire n it _ live) <|
    (afterDrop_changes _ d _ n).trans (afterRetirement_changes _ it true)

theorem claim_changes (s : State) (n : Nat) (it : Item) (d : Nat) (live : s.item n = some it) :
    Changes s (s.claim n it d) := by
  unfold State.claim
  dsimp only
  repeat' split
  exacts [.refl, .refl, rewrite_changes s n _ fun x _ => sendToE_place x _, complete_changes s d _ _ n,
    acceptDrop_changes s n it d _ _ live]

theorem gateWork_changes (s : State) (g : Nat) : Changes s (s.gateWork g) := by
  unfold State.gateWork
  split
  · exact .refl
  · next n it h =>
    have live := atGate_item h
    split
    · exact .refl
    · split
      · exact claim_changes s n it _ live
      · exact .refl
    · split
      · exact (fireGate_changes s 16).trans <| .head (.retire n it _ live) (afterRetirement_changes _ it true)
      · exact .refl

theorem pitchAct_changes (s : State) (act : PitchAct) : Changes s (s.pitchAct act) := by
  cases act with
  | indexMissing => exact (offer_changes s _ _).trans (setPause_changes _ _ _)
  | merge => exact mergeWork_changes s
  | gate g => exact gateWork_changes s g

/-- The tracker moves, and no carrier is loaded or emptied. -/
theorem sorter_changes (s : State) (x : Sorter) (h : x.carriers = s.sorter.carriers := by rfl) :
    Changes s { s with sorter := x } :=
  changes_of_same (carriers := h)

theorem pitch_changes (s : State) : Changes s s.pitch :=
  (sorter_changes s s.sorter.advance).trans <|
    (foldl_changes _ pitchAct_changes _ _).trans (countDraw_changes _ _)

theorem indexEdge_changes (s : State) : Changes s s.indexEdge := by
  unfold State.indexEdge
  split
  · split
    · exact sorter_changes s _
    · exact (offer_changes s _ _).trans <| (sorter_changes _ _).trans (setPause_changes _ _ _)
  · exact sorter_changes s _

/-! ### The Line Controller (R172 to R183) -/

theorem holdLevel_changes (s : State) (high : Bool) : Changes s (s.holdLevel high) := by
  unfold State.holdLevel
  split
  · exact .refl
  · exact offerLineState_changes s _ _

theorem startLine_changes (s : State) : Changes s (startLine s).state := by
  unfold startLine
  repeat' split
  exacts [.refl, .refl, .refl, .refl, .refl, offerLineState_changes s _ _]

theorem cutLanes_changes (s : State) : Changes s s.cutLanes :=
  (foldl_changes _ (fun u l => abort_changes u l .cut .cut) _ s).trans <|
    (foldl_changes _ (fun u l => abort_changes u l .cut .cut) _ _).trans (countDraw_changes _ _)

theorem stopAs_changes (s : State) (kind : StopKind) : Changes s (s.stopAs kind) := by
  have stopped : Changes s
      (State.offerLineState { s with line := { s.line with mode := .draining kind } } .stop).endTest :=
    (offerLineState_changes s _ .stop).trans (endTest_changes _)
  unfold State.stopAs
  cases kind with
  | drain => exact stopped
  | cut => exact stopped.trans <| (cutLanes_changes _).tail .cut

theorem stopLine_changes (kind : Coded StopKind) (s : State) : Changes s (stopLine kind s).state := by
  have stopped : ∀ kind, Changes s (s.stop kind) := fun kind => by
    unfold State.stop
    split
    exacts [.refl, stopAs_changes s _, stopAs_changes s _, .refl, .refl]
  unfold stopLine
  repeat' split
  exacts [.refl, .refl, stopped _]

theorem line_changes (s : State) (line : LineControl)
    (gates : s.line.gatePositions.wf = true → line.gatePositions.wf = true := by exact id)
    (enables : s.line.enables.wf = true → line.enables.wf = true := by exact id) : Changes s { s with line := line } :=
  .single (.aside rfl rfl (fun _ => rfl) fun o => ⟨o.returns, gates o.gates, enables o.enables, o.banks, o.dests⟩)

theorem writeSetting_changes (s : State) (name : SettingName) (value : SettingValue) :
    Changes s (s.writeSetting name value) := by
  unfold State.writeSetting
  split
  exacts [line_changes s _, line_changes s _, line_changes s _, line_changes s _, line_changes s _,
    line_changes s _ (gates := fun h => wf_put _ _ _ h), line_changes s _ (gates := fun h => wf_remove _ _ h),
    modDest_changes s _ _, line_changes s _ (enables := fun h => wf_put _ _ _ h),
    line_changes s _ (enables := fun h => wf_put _ _ _ h), .refl]

theorem configure_changes (name : SettingName) (value : SettingValue) (s : State) :
    Changes s (configure name value s).state := by
  unfold configure
  repeat' split
  exacts [.refl, .refl, .refl, writeSetting_changes s name value]

theorem readSetting_state (name : SettingName) (s : State) : (readSetting name s).state = s := by
  unfold readSetting
  split <;> rfl

/-- What is left of a canonical table after a warm reset is canonical (R48). -/
theorem returns_warm_wf (t : ReturnTable) (h : t.records.wf = true) : t.warm.records.wf = true :=
  (wf_mapValues _ Ra.warm).trans (risingKeys_filter _ _ h)

theorem bank_warm_canonical (b : Bank) (h : b.canonical = true) : b.warm.canonical = true := by
  unfold Bank.warm
  split <;> exact h

theorem warm_changes (s : State) : Changes s s.warm :=
  .single <| .reset rfl rfl (fun l => by simp [State.warm, Lane.warm, Lane.cold]) fun o =>
    ⟨returns_warm_wf _ o.returns, o.gates, o.enables,
      fun b => (congrArg Bank.canonical (pair_at_map _ _ b)).trans (bank_warm_canonical _ (o.banks b)), o.dests⟩

theorem cold_changes (s : State) (holdHigh : Bool) (strap : LinkRate) (pending : List Instr) (draws : Nat) :
    Changes s (State.cold holdHigh strap pending draws) :=
  .single <| .reset rfl rfl (fun l => by cases l <;> rfl) fun _ =>
    ⟨rfl, rfl, (by decide : coldEnables.wf = true), fun b => by cases b <;> rfl,
      (by decide : ToteStore.cold.dests.entries.map (·.1) = List.range 16)⟩

/-! ### The clock and the link (R171, R184 to R191) -/

theorem tick_changes (s : State) : Changes s s.tick := by
  have waits : Changes s s.countWaits := by
    unfold State.countWaits
    split
    · exact .refl
    · exact .single (.aside rfl rfl (fun l => by simp [Lane.countDown]) fun o =>
        ⟨(wf_mapValues s.returns.records _).trans o.returns, o.gates, o.enables, o.banks, o.dests⟩)
  exact waits.trans <| (changes_of_same).trans (countDraw_changes _ _)

theorem port_changes (s : State) (p : Port) : Changes s { s with port := p } :=
  changes_of_same

theorem answerBusy_changes (s : State) (tag kind : Nat) : Changes s (s.answerBusy tag kind) :=
  changes_of_same (by simp) (by simp) (by simp) (by simp) (by simp) (by simp) (by simp) (by simp)

theorem reply_changes (s : State) (r : Reply) : Changes s (s.reply r) :=
  changes_of_same (by simp) (by simp) (by simp) (by simp) (by simp) (by simp) (by simp) (by simp)

theorem fetchEvents_changes (count : Nat) (s : State) : Changes s (fetchEvents count s).state := by
  unfold fetchEvents
  split
  · exact .refl
  · exact changes_of_same

/-- A frame that is received changes what its request's act changes. -/
theorem serve_changes (s : State) (tag kind : Nat) (act : State → Answer) (h : ∀ u, Changes u (act u).state) :
    Changes s (s.serve tag kind act) := by
  unfold State.serve
  dsimp only
  refine (port_changes s { s.port with receiving := [] }).trans ?_
  change Changes s.frameTaken _
  split
  · exact answerBusy_changes _ _ _
  · exact (h _).trans (reply_changes _ _)

/-- A request that reads leaves the state it reads. -/
theorem changes_of_state_eq {act : State → Answer} (h : ∀ u, (act u).state = u) (u : State) : Changes u (act u).state := by
  rw [h]

/-! ### Every step -/

/-- A command that asks for a service is served by its owning block. -/
theorem exec_request (c : Instr) (tag kind : Nat) (act : State → Answer) (h : requestAct c = some (tag, kind, act))
    (s : State) : exec c s = .next (s.serve tag kind act) := by
  cases c <;> cases h <;> rfl

theorem request_changes (c : Instr) (tag kind : Nat) (act : State → Answer) (h : requestAct c = some (tag, kind, act))
    (u : State) : Changes u (act u).state := by
  cases c with
  | readItem tag item => cases h; exact changes_of_state_eq (readItem_state item) u
  | withdrawItem tag item => cases h; exact withdrawItem_changes item u
  | forceGrade tag item grade => cases h; exact forceGrade_changes item grade u
  | loadReturn tag load => cases h; exact loadReturn_changes load u
  | addTags tag ra line codes => cases h; exact addTags_changes ra line codes u
  | amendReturn tag ra label reason quantity => cases h; exact amendReturn_changes ra label reason quantity u
  | removeReturn tag ra => cases h; exact removeReturn_changes ra u
  | readReturn tag ra line => cases h; exact changes_of_state_eq (readReturn_state ra line) u
  | openParcel tag lane account pairs => cases h; exact openParcel_changes lane account pairs u
  | closeParcel tag lane => cases h; exact closeParcel_changes lane u
  | abortLane tag lane => cases h; exact abortLane_changes lane u
  | enrolStation tag lane role address => cases h; exact enrolStation_changes lane role address u
  | retireStation tag lane role => cases h; exact retireStation_changes lane role u
  | readStation tag lane role => cases h; exact readStation_changes lane role u
  | writeCheck tag number fields => cases h; exact writeCheck_changes number fields u
  | writeList tag number entries => cases h; exact writeList_changes number entries u
  | writeProgram tag category list group nominal pieces =>
    cases h; exact writeProgram_changes category list group nominal pieces u
  | writeThresholds tag t1 t2 t3 => cases h; exact writeThresholds_changes t1 t2 t3 u
  | writeMap tag cells => cases h; exact writeMap_changes cells u
  | clearBank tag => cases h; exact clearBank_changes u
  | validatePlan tag => cases h; exact validatePlan_changes u
  | switchPlan tag => cases h; exact switchPlan_changes u
  | setShadow tag value => cases h; exact setShadow_changes value u
  | addTote tag dest tote capacity weightLimit warnAt pause lotEnd =>
    cases h; exact addTote_changes dest tote capacity weightLimit warnAt pause lotEnd u
  | confirmSwap tag dest => cases h; exact confirmSwap_changes dest u
  | setLimit tag dest limit => cases h; exact setLimit_changes dest limit u
  | closeTote tag dest tote => cases h; exact closeTote_changes dest tote u
  | dropChain tag dest => cases h; exact dropChain_changes dest u
  | readDestination tag dest => cases h; exact changes_of_state_eq (readDestination_state dest) u
  | startLine tag => cases h; exact startLine_changes u
  | pauseLine tag => cases h; exact setPause_changes u _ _
  | resumeLine tag => cases h; exact clearPause_changes u
  | stopLine tag kind => cases h; exact stopLine_changes kind u
  | configure tag name value => cases h; exact configure_changes name value u
  | readSetting tag name => cases h; exact changes_of_state_eq (readSetting_state name) u
  | fetchEvents tag count => cases h; exact fetchEvents_changes count u
  | warmReset | readStatus | unknownRequest | malformedRequest => cases h; exact .refl
  | _ => cases h

/-- Whatever the command, its effect is a chain of the changes of `Change`. -/
theorem exec_changes (c : Instr) (s : State) : ∃ t, exec c s = .next t ∧ Changes s t := by
  cases hc : requestAct c with
  | some r =>
    obtain ⟨tag, kind, act⟩ := r
    exact ⟨_, exec_request c tag kind act hc s, serve_changes s tag kind act (request_changes c tag kind act hc)⟩
  | none =>
    cases c with
    | coldReset holdHigh strap => exact ⟨_, rfl, cold_changes s holdHigh strap _ _⟩
    | warmResetActs =>
      refine ⟨_, rfl, ?_⟩
      split
      · exact warm_changes s
      · exact .refl
    | hold high => exact ⟨_, rfl, holdLevel_changes s high⟩
    | pitch => exact ⟨_, rfl, pitch_changes s⟩
    | index => exact ⟨_, rfl, indexEdge_changes s⟩
    | sweepTimer => exact ⟨_, rfl, sweepExpiry_changes s⟩
    | turnTimeout partialAnswer => exact ⟨_, rfl, turnPassed_changes s partialAnswer⟩
    | manifestWaitExpiry ra => exact ⟨_, rfl, manifestExpiry_changes s ra⟩
    | decisionWaitExpiry lane => exact ⟨_, rfl, decisionExpiry_changes s lane⟩
    | interbyteTimeout => exact ⟨_, rfl, port_changes s _⟩
    | frameDiscarded held => exact ⟨_, rfl, port_changes s _⟩
    | busy tag kind =>
      refine ⟨_, rfl, ?_⟩
      split
      · exact (port_changes s _).trans (answerBusy_changes _ _ _)
      · exact .refl
    | replySent => exact ⟨_, rfl, port_changes s _⟩
    | nothing a => exact ⟨_, rfl, takeAnswer_changes s a _ _ _ fun _ _ => .refl⟩
    | presented a => exact ⟨_, rfl, takeAnswer_changes s a _ _ _ fun x u => presented_changes u x.lane⟩
    | parcelDone a => exact ⟨_, rfl, takeAnswer_changes s a _ _ _ fun x u => parcelDone_changes u x.lane⟩
    | atEnd a => exact ⟨_, rfl, takeAnswer_changes s a _ _ _ fun x u => atEnd_changes u x.lane a.ticket⟩
    | tagReading a codes =>
      exact ⟨_, rfl, takeAnswer_changes s a _ _ _ fun x u => deliver_changes u x _ _ _ fun _ => rfl⟩
    | weight a grams =>
      exact ⟨_, rfl, takeAnswer_changes s a _ _ _ fun x u => deliver_changes u x _ _ _ fun _ => rfl⟩
    | vision a pieces =>
      exact ⟨_, rfl, takeAnswer_changes s a _ _ _ fun x u => deliver_changes u x _ _ _ fun _ => rfl⟩
    | garbledAnswer => exact ⟨_, rfl, takeGarbled_changes s⟩
    | sweepFrameSent => exact ⟨_, rfl, bus_changes s _⟩
    | answerOutsideTurn => exact ⟨_, rfl, .refl⟩
    | _ => cases hc

/-- The effect of a step is a chain of the changes of `Change`. -/
theorem step_changes {s t : State} (h : step s = .next t) : Changes s t := by
  unfold step at h
  split at h
  · cases h
    exact tick_changes s
  · next c rest _ =>
    obtain ⟨u, hu, chain⟩ := exec_changes c { s with pending := rest }
    rw [hu] at h
    cases h
    exact (changes_of_same : Changes s { s with pending := rest }).trans chain

/-- Settles O54: each change of a step keeps every table in its canonical form. -/
theorem everyStepKeepsTheTablesCanonical : Obligations.EveryStepKeepsTheTablesCanonical := fun _ _ hs h =>
  (step_changes h).canonical hs

/-- Settles O55: each change of a step keeps every live item in its one place. -/
theorem everyStepKeepsTheItemsPlaced : Obligations.EveryStepKeepsTheItemsPlaced := fun s t hs h =>
  (itemsPlaced_iff t).2 ((step_changes h).placed ((itemsPlaced_iff s).1 hs))

end Sys2Proof.Machine
end

section
/-! The Item Table's requests, and the block after a cold reset (R13 to R20, R37, R38, R63, R66, R68). -/

namespace Sys2Proof.Machine

/-! ### A request's reply, from its act -/

/-- A request that is taken ends in the state its act leaves, with the port's DONE. -/
theorem exec_done (c : Instr) {tag kind : Nat} {act : State → Answer} (hc : requestAct c = some (tag, kind, act))
    {s : State} (h : s.serving = false) (t : State) {data : ReplyData} (port : t.port = s.port)
    (acts : act s.frameTaken = t.frameTaken.done data) : exec c s = .next (t.answered tag kind data) := by
  rw [exec_request c tag kind act hc]
  have ha : act s.frameTaken = ⟨{ t with port := s.frameTaken.port }, .done, data⟩ := by
    rw [acts]; unfold State.done State.frameTaken; rw [port]
  rw [serve_taken s t tag kind act .done data h ha, ← port]
  rfl

/-- A request that is refused changes the port alone. -/
theorem exec_refused (c : Instr) {tag kind : Nat} {act : State → Answer} (hc : requestAct c = some (tag, kind, act))
    {s : State} (h : s.serving = false) {reason : RefusalReason} {data : ReplyData}
    (acts : act s.frameTaken = s.frameTaken.refuseWith reason data) :
    exec c s = .next (s.answeredRefused tag kind reason data) := by
  rw [exec_request c tag kind act hc, serve_taken s s tag kind act (.refused reason) data h acts]
  rfl

@[simp] theorem item_frameTaken (s : State) (n : Nat) : s.frameTaken.item n = s.item n := rfl
@[simp] theorem ra_frameTaken (s : State) (n : Nat) : s.frameTaken.ra n = s.ra n := rfl

/-! ### Cold reset (R20, R68) -/

/-- Settles O3: every block of `State.cold` at the value its rule names. -/
theorem coldResetEmptiesTheBlock : Obligations.ColdResetEmptiesTheBlock := by
  intro s holdHigh strap
  refine ⟨_, rfl, rfl, rfl, rfl, fun l => by cases l <;> rfl, rfl, rfl, rfl,
    fun x => by obtain ⟨l, r⟩ := x; cases l <;> cases r <;> rfl, fun l => by cases l <;> rfl, rfl, rfl, rfl,
    fun b => by cases b <;> exact ⟨rfl, rfl, rfl, rfl⟩, rfl, rfl, rfl, rfl, rfl, rfl, rfl, fun l => by cases l <;> rfl, rfl,
    ?_, rfl, rfl, rfl, rfl, rfl, rfl, rfl, rfl, rfl, rfl, rfl, ?_, rfl, rfl, rfl, rfl, rfl, rfl, rfl, rfl, rfl⟩
  · show ∀ d, d < 16 → ToteStore.cold.dests.lookup d = some Destination.cold
    decide
  · intro k
    show (coldEnables.lookup k.code).getD true = _
    cases k <;> decide

/-! ### READ ITEM and READ RETURN (R19, R37, R38) -/

theorem line_eq_some_iff (r : Ra) (i : Nat) (l : Line) : r.line i = some l ↔ i ≠ 0 ∧ r.lines[i - 1]? = some l := by
  unfold Ra.line
  split <;> simp_all

theorem line_eq_none_iff (r : Ra) (i : Nat) : r.line i = none ↔ i = 0 ∨ r.lines.length < i := by
  unfold Ra.line
  split
  · simp_all
  · rw [List.getElem?_eq_none_iff]
    omega

/-- Settles O8, request by request: each act answers from the tables and leaves the state it reads. -/
theorem readItemAndReadReturnReport : Obligations.ReadItemAndReadReturnReport := by
  intro s tag h
  refine ⟨fun n it hn live => ?_, ?_, fun n r hn live => ?_, fun n r i l hn live hi hl => ?_,
    fun n r i hn live hi => ?_, fun n i hn none => ?_, fun i => ?_⟩
  · exact exec_done (.readItem tag n) rfl h s rfl (by simp [readItem, hn, live])
  · exact exec_done (.readItem tag 0) rfl h s rfl rfl
  · exact exec_done (.readReturn tag n .none) rfl h s rfl (by simp only [readReturn, if_neg hn, ra_frameTaken, live]; rfl)
  · have line := (line_eq_some_iff r i l).2 ⟨hi, hl⟩
    exact exec_done (.readReturn tag n (some i)) rfl h s rfl (by simp [readReturn, hn, live, line])
  · have line := (line_eq_none_iff r i).2 hi
    exact exec_refused (.readReturn tag n (some i)) rfl h
      (by simp only [readReturn, if_neg hn, ra_frameTaken, live, line]; rfl)
  · exact exec_refused (.readReturn tag n i) rfl h (by simp only [readReturn, if_neg hn, ra_frameTaken, none]; rfl)
  · exact ⟨s.returnSummary, exec_done (.readReturn tag 0 i) rfl h s rfl rfl, rfl, rfl, rfl, rfl, rfl, rfl, rfl, rfl, rfl,
      rfl, rfl, rfl⟩

/-! ### Refusals (R15 to R17, R63, R66) -/

theorem laneOf_eq_none {lane : Nat} (h : lane = 0 ∨ 4 < lane) : laneOf lane = none := by
  match lane, h with
  | 0, _ => rfl
  | _ + 5, _ => rfl

/-- Settles O13: the lookup of the item, the grade's code or the lane byte fails before anything is done. -/
theorem itemAndLaneRequestsRefused : Obligations.ItemAndLaneRequestsRefused := by
  refine ⟨fun s tag n h => ⟨fun none => ⟨?_, fun g => ?_⟩, fun hn none => ?_, fun it code live => ?_⟩,
    fun s tag lane h hl => ⟨?_, ?_⟩⟩
  · exact exec_refused (.withdrawItem tag n) rfl h (by simp only [withdrawItem, item_frameTaken, none]; rfl)
  · exact exec_refused (.forceGrade tag n g) rfl h (by simp only [forceGrade, item_frameTaken, none]; rfl)
  · exact exec_refused (.readItem tag n) rfl h (by simp only [readItem, if_neg hn, item_frameTaken, none]; rfl)
  · exact exec_refused (.forceGrade tag n (.beyond code)) rfl h (by simp only [forceGrade, item_frameTaken, live]; rfl)
  · exact exec_refused (.closeParcel tag lane) rfl h (by simp only [closeParcel, laneOf_eq_none hl]; rfl)
  · exact exec_refused (.abortLane tag lane) rfl h (by simp only [abortLane, laneOf_eq_none hl]; rfl)


/-! ### The Event Queue only grows (R188) -/

theorem eventsGrow_refl (s : State) : s.eventsGrow s := ⟨[], (List.append_nil _).symm⟩

theorem State.eventsGrow.trans {s t u : State} (h : s.eventsGrow t) (h' : t.eventsGrow u) : s.eventsGrow u := by
  obtain ⟨a, ha⟩ := h
  obtain ⟨b, hb⟩ := h'
  exact ⟨a ++ b, by rw [hb, ha, List.append_assoc]⟩

theorem eventsGrow_of_queue_eq {s t : State} (h : t.queue = s.queue) : s.eventsGrow t := ⟨[], by simp [h]⟩

/-- An offer stores one event at most. -/
theorem offer_events (s : State) (item : Nat) (body : EventBody) :
    ∃ more, (s.offer item body).queue.events = s.queue.events ++ more ∧ more.length ≤ 1 := by
  unfold State.offer
  split
  · split
    · exact ⟨_, rfl, Nat.le_refl 1⟩
    · exact ⟨[], (List.append_nil _).symm, Nat.zero_le 1⟩
  · exact ⟨[], (List.append_nil _).symm, Nat.zero_le 1⟩

theorem eventsGrow_offer (s : State) (item : Nat) (body : EventBody) : s.eventsGrow (s.offer item body) := by
  obtain ⟨more, h, _⟩ := offer_events s item body
  exact ⟨more, h⟩

theorem eventsGrow_endTest (s : State) : s.eventsGrow s.endTest := by
  unfold State.endTest
  split
  · exact (eventsGrow_of_queue_eq rfl).trans (eventsGrow_offer { s with line := { s.line with mode := .setup } } _ _)
  · exact eventsGrow_refl s

/-! ### The end of a stop (R177) -/

/-- The line is DRAINING, with every lane IDLE and no item live. -/
def State.stopDue (s : State) : Prop := s.line.mode.isDraining = true ∧ s.live = 0 ∧ ∀ l, (s.lanes.at l).state = .idle

theorem allLanesIdle_iff (s : State) : s.allLanesIdle = true ↔ ∀ l, (s.lanes.at l).state = .idle := by
  simp only [State.allLanesIdle, Quad.toList, List.all_cons, List.all_nil, Bool.and_true, Bool.and_eq_true,
    decide_eq_true_eq]
  constructor
  · rintro ⟨h1, h2, h3, h4⟩ l
    cases l <;> assumption
  · exact fun h => ⟨h .l1, h .l2, h .l3, h .l4⟩

theorem endTest_line_of_due {s : State} (h : s.stopDue) : s.endTest.line = { s.line with mode := .setup } := by
  obtain ⟨mode, live, idle⟩ := h
  simp [State.endTest, mode, live, (allLanesIdle_iff s).2 idle]

theorem endTest_of_not_due {s : State} (h : ¬ s.stopDue) : s.endTest = s := by
  unfold State.endTest
  refine if_neg fun c => h ?_
  simp only [Bool.and_eq_true, decide_eq_true_eq] at c
  exact ⟨c.1.1, c.2, (allLanesIdle_iff s).1 c.1.2⟩

theorem live_of_items_eq {s t : State} (h : t.items = s.items) : t.live = s.live := by unfold State.live; rw [h]

/-- An act that leaves the line, followed by the end test, ends the stop as R177 says. -/
theorem stopEnds_endTest {s t : State} (line : t.line = s.line) : s.stopEnds t.endTest := by
  have live : t.endTest.live = t.live := live_of_items_eq (endTest_items t)
  unfold State.stopEnds
  rw [live, endTest_lanes, ← line]
  exact ⟨fun mode hl idle => endTest_line_of_due ⟨mode, hl, idle⟩, fun h => by rw [endTest_of_not_due h]⟩

/-- Step 5 of R13: with no item live, the end test. -/
def State.endIfEmpty (s : State) : State := if s.live = 0 then s.endTest else s

@[simp] theorem endIfEmpty_returns (s : State) : s.endIfEmpty.returns = s.returns := by
  unfold State.endIfEmpty; split <;> simp
@[simp] theorem endIfEmpty_lanes (s : State) : s.endIfEmpty.lanes = s.lanes := by
  unfold State.endIfEmpty; split <;> simp
@[simp] theorem endIfEmpty_plan (s : State) : s.endIfEmpty.plan = s.plan := by
  unfold State.endIfEmpty; split <;> simp

theorem eventsGrow_endIfEmpty (s : State) : s.eventsGrow s.endIfEmpty := by
  unfold State.endIfEmpty
  split
  · exact eventsGrow_endTest s
  · exact eventsGrow_refl s

/-- The last end test ends a stop that has not ended, and leaves one that has. -/
theorem stopEnds_endIfEmpty {s t : State} (h : t.line = s.line ∨ s.stopEnds t) : s.stopEnds t.endIfEmpty := by
  by_cases live : t.live = 0
  · rw [State.endIfEmpty, if_pos live]
    rcases h with line | ⟨ended, kept⟩
    · exact stopEnds_endTest line
    · by_cases due : s.line.mode.isDraining = true ∧ t.live = 0 ∧ ∀ l, (t.lanes.at l).state = .idle
      · have line := ended due.1 due.2.1 due.2.2
        rw [endTest_of_not_due fun h => by simp [State.stopDue, line, LineMode.isDraining] at h]
        exact ⟨ended, kept⟩
      · exact stopEnds_endTest (kept due)
  · rw [State.endIfEmpty, if_neg live]
    exact h.elim (fun line => ⟨fun _ hl _ => absurd hl live, fun _ => line⟩) id

/-! ### Settlement (R64, R65) -/

theorem placeholder_iff (r : Ra) : r.placeholder = true ↔ r.state = .expected ∨ r.state = .overdue := by
  simp [Ra.placeholder]

/-- `Ra.closing` is what `State.settleRa` does with a record. -/
theorem closing_eq (r : Ra) : r.closing = if r.placeholder then none else some r.settled := by
  simp only [Ra.closing, placeholder_iff]
  rfl

theorem closingReport_eq (r : Ra) : r.closingReport = r.outcome := by
  simp only [Ra.closingReport, Ra.outcome, placeholder_iff]
  split
  · rfl
  · show (if r.fullyReceived = true then _ else _, _) = _
    split <;> rfl

/-- A record that settlement has closed is closed as it is. -/
theorem closing_closing (r : Option Ra) : (r.bind Ra.closing).bind Ra.closing = r.bind Ra.closing := by
  cases r with
  | none => rfl
  | some r =>
    rw [Option.bind_some, closing_eq]
    split
    · rfl
    · have settled : r.settled.placeholder = false := by
        unfold Ra.placeholder Ra.settled
        split <;> rfl
      rw [Option.bind_some, closing_eq, settled]
      rfl

theorem ra_settleRa (s : State) (n m : Nat) :
    (s.settleRa n).ra m = if n = m then (s.ra m).bind Ra.closing else s.ra m := by
  by_cases hm : n = m
  · subst hm
    rw [if_pos rfl]
    cases hr : s.ra n with
    | none => simp only [State.settleRa, hr, Option.bind_none]
    | some r =>
      rw [Option.bind_some, closing_eq]
      cases hp : r.placeholder with
      | true =>
        simp only [State.settleRa, hr, hp, if_true]
        exact lookup_remove_self s.returns.records n
      | false =>
        simp only [State.settleRa, hr, hp, Bool.false_eq_true, if_false]
        exact (lookup_modify_self s.returns.records n _).trans (congrArg (Option.map Ra.settled) hr)
  · rw [if_neg hm]
    unfold State.settleRa
    split
    · rfl
    · split
      · exact lookup_remove_other s.returns.records n m hm
      · exact lookup_modify_other s.returns.records n m _ hm

theorem ra_foldl_settleRa (ns : List Nat) (s : State) (m : Nat) :
    (ns.foldl State.settleRa s).ra m = if m ∈ ns then (s.ra m).bind Ra.closing else s.ra m := by
  induction ns generalizing s with
  | nil => simp
  | cons n rest ih =>
    rw [List.foldl_cons, ih, ra_settleRa]
    by_cases hr : m ∈ rest <;> by_cases hn : n = m <;> simp [hr, hn, closing_closing, Ne.symm]

theorem outcomes_eq (s : State) (l : LaneId) :
    s.outcomes l = (s.lanes.at l).boundRas.filterMap fun n => (s.ra n).map fun r => (n, r.closingReport) := by
  unfold State.outcomes State.boundRecords
  rw [List.map_filterMap]
  refine List.filterMap_congr fun n _ => ?_
  rw [Option.map_map]
  refine congrArg (fun f => Option.map f (s.ra n)) (funext fun r => ?_)
  simp [closingReport_eq]

/-- A lane whose parcel is settled (R65). -/
def Lane.settled (x : Lane) : Lane := { x with boundRas := [], account := none, closeCause := none, state := .idle }

/-- The state of a settlement before its end test: the RAs closed, PARCEL CLOSED offered, the lane IDLE (R65). -/
def State.parcelSettled (s : State) (l : LaneId) (cause : EndCause) (retired : Nat) : State :=
  (((s.lanes.at l).boundRas.foldl State.settleRa s).offer 0
    (.parcelClosed l (s.lanes.at l).parcelCounter (s.lanes.at l).account cause retired (s.outcomes l))).modLane l
      Lane.settled

theorem settle_eq (s : State) (l : LaneId) (cause : EndCause) (retired : Nat) :
    s.settle l cause retired = (s.parcelSettled l cause retired).endTest := rfl

theorem parcelSettled_line (s : State) (l : LaneId) (cause : EndCause) (retired : Nat) :
    (s.parcelSettled l cause retired).line = s.line := by
  simp [State.parcelSettled, foldl_keeps (fun x => x.line) State.settleRa settleRa_line]

theorem settle_lanes (s : State) (l : LaneId) (cause : EndCause) (retired : Nat) :
    (s.settle l cause retired).lanes = s.lanes.modify l Lane.settled := by
  simp [settle_eq, State.parcelSettled, foldl_keeps (fun x => x.lanes) State.settleRa settleRa_lanes]

theorem settle_ra (s : State) (l : LaneId) (cause : EndCause) (retired m : Nat) :
    (s.settle l cause retired).ra m =
      if m ∈ (s.lanes.at l).boundRas then (s.ra m).bind Ra.closing else s.ra m := by
  rw [← ra_foldl_settleRa]
  simp [State.ra, settle_eq, State.parcelSettled]

theorem eventsGrow_settle (s : State) (l : LaneId) (cause : EndCause) (retired : Nat) :
    s.eventsGrow (s.settle l cause retired) := by
  have closed : s.eventsGrow ((s.lanes.at l).boundRas.foldl State.settleRa s) :=
    eventsGrow_of_queue_eq (foldl_keeps (fun x => x.queue) State.settleRa settleRa_queue _ s)
  have offered := closed.trans (eventsGrow_offer _ 0
    (.parcelClosed l (s.lanes.at l).parcelCounter (s.lanes.at l).account cause retired (s.outcomes l)))
  exact offered.trans (eventsGrow_endTest (s.parcelSettled l cause retired))

/-- With its kind enabled and room for it, PARCEL CLOSED is the first event a settlement stores. -/
theorem settle_events (s : State) (l : LaneId) (cause : EndCause) (retired : Nat)
    (enabled : s.enabled .parcelClosed = true) (room : s.roomForEvent = true) :
    ∃ more, (s.settle l cause retired).queue.events = s.queue.events ++ ⟨s.line.clock, 0, .parcelClosed l
      (s.lanes.at l).parcelCounter (s.lanes.at l).account cause retired (s.outcomes l)⟩ :: more := by
  obtain ⟨more, hm⟩ := eventsGrow_endTest (s.parcelSettled l cause retired)
  have kept : ∀ {β : Type} (field : State → β), (∀ u n, field (State.settleRa u n) = field u) →
      field ((s.lanes.at l).boundRas.foldl State.settleRa s) = field s := fun field h => foldl_keeps field _ h _ s
  have line := kept (fun x => x.line) settleRa_line
  have queue := kept (fun x => x.queue) settleRa_queue
  have items := kept (fun x => x.items) settleRa_items
  refine ⟨more, ?_⟩
  rw [settle_eq, hm, State.parcelSettled, modLane_queue, offer_stored _ _ _ ?_ ?_]
  · simp [line, queue]
  · exact (congrArg (fun x : LineControl => (x.enables.lookup EventKind.parcelClosed.code).getD true) line).trans enabled
  · unfold State.roomForEvent State.used State.live at room ⊢
    rwa [queue, items]

/-- What settlement does, as R65 says it. -/
theorem settle_settles (s : State) (l : LaneId) (cause : EndCause) (retired : Nat) :
    s.settles (s.settle l cause retired) l cause retired := by
  refine ⟨fun n hn => by rw [settle_ra, if_pos hn], fun n hn => by rw [settle_ra, if_neg hn], ?_, fun m hm => ?_,
    fun enabled room => ?_, settle_items s l cause retired, settle_bus s l cause retired, settle_plan s l cause retired,
    settle_sorter s l cause retired, settle_totes s l cause retired, ?_⟩
  · rw [settle_lanes, quad_at_modify_self]; rfl
  · rw [settle_lanes, quad_at_modify_other _ _ _ _ (Ne.symm hm)]
  · rw [← outcomes_eq]
    exact settle_events s l cause retired enabled room
  · rw [settle_eq]
    exact stopEnds_endTest (parcelSettled_line s l cause retired)

theorem settlementTest_of_waiting {s : State} {l : LaneId} (h : (s.lanes.at l).state ≠ .closing ∨ s.anyUndecided l = true) :
    s.settlementTest l = s := by
  unfold State.settlementTest
  exact if_neg fun c => by simp at c; exact h.elim (fun h => h c.1) (fun h => by simp [h] at c)

/-- The event's cause of the end of a lane's parcel, from the lane's close cause (R63, R65). -/
def Lane.endCause (x : Lane) : EndCause := (x.closeCause.map CloseCause.endCause).getD .host

theorem settlementTest_of_settling {s : State} {l : LaneId} (closing : (s.lanes.at l).state = .closing)
    (decided : s.anyUndecided l = false) : s.settlementTest l = s.settle l (s.lanes.at l).endCause 0 := by
  unfold State.settlementTest
  exact if_pos (by simp [closing, decided])

theorem eventsGrow_settlementTest (s : State) (l : LaneId) : s.eventsGrow (s.settlementTest l) := by
  unfold State.settlementTest
  split
  · exact eventsGrow_settle s l _ 0
  · exact eventsGrow_refl s

theorem settlementTest_other_lane (s : State) (l m : LaneId) (h : m ≠ l) :
    (s.settlementTest l).lanes.at m = s.lanes.at m := by
  unfold State.settlementTest
  split
  · rw [settle_lanes, quad_at_modify_other _ _ _ _ (Ne.symm h)]
  · rfl


/-! ### Retirement (R13, R106) -/

theorem otherBank_of_ne {a b : BankId} (h : a ≠ b) : otherBank b = a := by
  revert h
  cases a <;> cases b <;> decide

/-- The bank that is ACTIVE is one whose state is ACTIVE. -/
theorem activeBank_state {s : State} {a : BankId} (h : s.activeBank = some a) : (s.plan.banks.at a).state = .active := by
  unfold State.activeBank at h
  split at h
  · next h0 => cases h; exact h0
  · split at h
    · next h1 => cases h; exact h1
    · cases h

/-- A bank with one item fewer (R106). -/
def Bank.released (b : Bank) : Bank :=
  if b.state = .draining ∧ b.bound ≤ 1 then { b with bound := 0, state := .standby, valid := true }
  else { b with bound := b.bound - 1 }

theorem releaseBank_plan (s : State) (b : BankId) :
    (s.releaseBank b).plan = { s.plan with banks := s.plan.banks.modify b fun _ => (s.plan.banks.at b).released } := by
  have left : (s.plan.banks.at b).bound - 1 = 0 ↔ (s.plan.banks.at b).bound ≤ 1 := by omega
  unfold State.releaseBank Bank.released
  simp only [left]
  split
  · next h =>
    have zero : (s.plan.banks.at b).bound - 1 = 0 := left.2 h.2
    rw [offer_plan, modBank_plan, zero]
    cases b <;> rfl
  · rw [modBank_plan]
    cases b <;> rfl

theorem releaseBank_events (s : State) (b : BankId) :
    ∃ more, (s.releaseBank b).queue.events = s.queue.events ++ more ∧ more.length ≤ 1 := by
  unfold State.releaseBank
  dsimp only
  split
  · exact offer_events _ _ _
  · exact ⟨[], (List.append_nil _).symm, Nat.zero_le 1⟩

/-- The last item of a DRAINING bank makes PLAN DRAINED the next event, if it is enabled and has room (R106). -/
theorem releaseBank_drains (s : State) (b : BankId) (draining : (s.plan.banks.at b).state = .draining)
    (last : (s.plan.banks.at b).bound ≤ 1) (enabled : s.enabled .planDrained = true) (room : s.roomForEvent = true) :
    (s.releaseBank b).queue.events = s.queue.events ++ [⟨s.line.clock, 0, .planDrained b (otherBank b)⟩] := by
  have stored := offer_stored (s.modBank b fun x =>
    { x with bound := (s.plan.banks.at b).bound - 1, state := .standby, valid := true }) 0 (.planDrained b (otherBank b))
    enabled room
  unfold State.releaseBank
  dsimp only
  rw [if_pos ⟨draining, by omega⟩, stored]
  rfl

/-- The item's retirement settles its lane's parcel: it was the last undecided one of a CLOSING lane (R64). -/
def State.settlesAfter (s : State) (it : Item) : Prop :=
  it.decided = false ∧ (s.lanes.at it.lane).state = .closing ∧ s.anyUndecided it.lane = false

theorem releaseBank_anyUndecided (s : State) (b : BankId) (l : LaneId) :
    (s.releaseBank b).anyUndecided l = s.anyUndecided l := by
  unfold State.anyUndecided State.undecidedOf
  rw [releaseBank_items, releaseBank_lanes]

theorem afterRetirement_settling {s : State} {it : Item} (h : s.settlesAfter it) :
    s.afterRetirement it true =
      ((s.releaseBank it.bank).settle it.lane (s.lanes.at it.lane).endCause 0).endIfEmpty := by
  obtain ⟨undecided, closing, none⟩ := h
  have test : (s.releaseBank it.bank).settlementTest it.lane = _ :=
    settlementTest_of_settling (by rwa [releaseBank_lanes]) (by rwa [releaseBank_anyUndecided])
  simp only [State.afterRetirement, undecided, Bool.not_false, Bool.and_self, if_true, test, releaseBank_lanes]
  rfl

theorem afterRetirement_waiting {s : State} {it : Item} (h : ¬ s.settlesAfter it) :
    s.afterRetirement it true = (s.releaseBank it.bank).endIfEmpty := by
  cases decided : it.decided with
  | true =>
    simp only [State.afterRetirement, decided, Bool.not_true, Bool.and_false, Bool.false_eq_true, if_false]
    rfl
  | false =>
    have waiting : ((s.releaseBank it.bank).lanes.at it.lane).state ≠ .closing ∨
        (s.releaseBank it.bank).anyUndecided it.lane = true := by
      rw [releaseBank_lanes, releaseBank_anyUndecided]
      by_cases closing : (s.lanes.at it.lane).state = .closing
      · exact .inr (by simpa using fun none => h ⟨decided, closing, none⟩)
      · exact .inl closing
    simp only [State.afterRetirement, decided, Bool.not_false, Bool.and_self, if_true, settlementTest_of_waiting waiting]
    rfl

/-- The events of a retirement begin with those of the bank's release. -/
theorem eventsGrow_afterRetirement (s : State) (it : Item) :
    (s.releaseBank it.bank).eventsGrow (s.afterRetirement it true) := by
  by_cases h : s.settlesAfter it
  · rw [afterRetirement_settling h]
    exact (eventsGrow_settle _ _ _ _).trans (eventsGrow_endIfEmpty _)
  · rw [afterRetirement_waiting h]
    exact eventsGrow_endIfEmpty _

theorem afterRetirement_plan (s : State) (it : Item) : (s.afterRetirement it true).plan = (s.releaseBank it.bank).plan := by
  by_cases h : s.settlesAfter it
  · rw [afterRetirement_settling h, endIfEmpty_plan, settle_plan]
  · rw [afterRetirement_waiting h, endIfEmpty_plan]

theorem afterRetirement_lanes (s : State) (it : Item) :
    (s.settlesAfter it ∧ (s.afterRetirement it true).lanes = s.lanes.modify it.lane Lane.settled) ∨
      (¬ s.settlesAfter it ∧ (s.afterRetirement it true).lanes = s.lanes) := by
  by_cases h : s.settlesAfter it
  · exact .inl ⟨h, by rw [afterRetirement_settling h, endIfEmpty_lanes, settle_lanes, releaseBank_lanes]⟩
  · exact .inr ⟨h, by rw [afterRetirement_waiting h, endIfEmpty_lanes, releaseBank_lanes]⟩

theorem afterRetirement_timer (s : State) (it : Item) (l : LaneId) :
    ((s.afterRetirement it true).lanes.at l).timer = (s.lanes.at l).timer := by
  rcases afterRetirement_lanes s it with ⟨_, h⟩ | ⟨_, h⟩
  · rw [h, quad_at_modify]
    split <;> rfl
  · rw [h]

theorem afterRetirement_other_lane (s : State) (it : Item) {l : LaneId} (hl : l ≠ it.lane) :
    (s.afterRetirement it true).lanes.at l = s.lanes.at l := by
  rcases afterRetirement_lanes s it with ⟨_, h⟩ | ⟨_, h⟩
  · rw [h, quad_at_modify_other _ _ _ _ (Ne.symm hl)]
  · rw [h]

theorem afterRetirement_stopEnds (s : State) (it : Item) : s.stopEnds (s.afterRetirement it true) := by
  have line := releaseBank_line s it.bank
  by_cases h : s.settlesAfter it
  · rw [afterRetirement_settling h]
    obtain ⟨_, _, _, _, _, _, _, _, _, _, ends⟩ :=
      settle_settles (s.releaseBank it.bank) it.lane (s.lanes.at it.lane).endCause 0
    refine stopEnds_endIfEmpty (.inr ?_)
    unfold State.stopEnds at ends ⊢
    rwa [line] at ends
  · rw [afterRetirement_waiting h]
    exact stopEnds_endIfEmpty (.inl line)

/-- `u` is `s` with the record of item `n` closed (steps 1 and 2 of R13) and then, of a drop, the events of its tote stored
(R156). -/
structure State.Closed (s u : State) (n : Nat) (it : Item) (final : EventBody) (toteEvents : List Event) : Prop where
  items    : u.items = (s.closeRecord n it final).items
  lanes    : u.lanes = (s.closeRecord n it final).lanes
  returns  : u.returns = s.returns
  carriers : u.sorter.carriers = (s.closeRecord n it final).sorter.carriers
  plan     : u.plan = s.plan
  bus      : u.bus = s.bus
  line     : u.line = s.line
  events   : u.queue.events = s.queue.events ++ ⟨s.line.clock, n, final⟩ :: toteEvents

section Retired

variable {s u : State} {n : Nat} {it : Item} {final : EventBody} {toteEvents : List Event}

theorem closeRecord_closed (s : State) (n : Nat) (it : Item) (final : EventBody) :
    s.Closed (s.closeRecord n it final) n it final [] := ⟨rfl, rfl, rfl, rfl, rfl, rfl, rfl, rfl⟩

/-- The final event takes the entry its record leaves. -/
theorem State.Closed.used_live (h : s.Closed u n it final toteEvents) (live : s.item n = some it) :
    u.used + u.live ≤ s.used + s.live + toteEvents.length := by
  have smaller : u.live < s.live := by
    unfold State.live
    rw [h.items]
    exact size_remove s.items.records n it live
  have used : u.used = s.used + (toteEvents.length + 1) := by
    unfold State.used
    rw [h.events, List.length_append, List.length_cons]
  omega

theorem State.Closed.lane (h : s.Closed u n it final toteEvents) :
    u.lanes.at it.lane = (s.lanes.at it.lane).dropItem n := by
  rw [h.lanes, closeRecord_lanes, quad_at_modify_self]

theorem State.Closed.other_lane (h : s.Closed u n it final toteEvents) {l : LaneId} (hl : l ≠ it.lane) :
    u.lanes.at l = s.lanes.at l := by
  rw [h.lanes, closeRecord_lanes, quad_at_modify_other _ _ _ _ (Ne.symm hl)]

theorem State.Closed.anyUndecided_iff (h : s.Closed u n it final toteEvents) :
    u.anyUndecided it.lane = true ↔
      ∃ e ∈ s.items.records.entries, e.1 ≠ n ∧ s.undecidedOf it.lane e.2 = true := by
  have counter : (u.lanes.at it.lane).parcelCounter = (s.lanes.at it.lane).parcelCounter := by rw [h.lane]; rfl
  have entries : u.items.records.entries = s.items.records.entries.filter fun e => e.1 ≠ n := by rw [h.items]; rfl
  simp only [State.anyUndecided, State.undecidedOf, counter, entries, List.any_eq_true, List.mem_filter,
    decide_eq_true_eq, and_assoc]

theorem State.Closed.enabled (h : s.Closed u n it final toteEvents) (k : EventKind) : u.enabled k = s.enabled k := by
  unfold State.enabled
  rw [h.line]

theorem State.Closed.ra (h : s.Closed u n it final toteEvents) (m : Nat) : u.ra m = s.ra m := by
  unfold State.ra
  rw [h.returns]

/-- The events after the final one begin with PLAN DRAINED when the last item of a DRAINING bank is retired (R106). -/
theorem retired_events (h : s.Closed u n it final toteEvents) (live : s.item n = some it) :
    ∃ more, (u.afterRetirement it true).queue.events =
        s.queue.events ++ ⟨s.line.clock, n, final⟩ :: (toteEvents ++ more) ∧
      ∀ a, s.activeBank = some a → (s.plan.banks.at it.bank).state = .draining → (s.plan.banks.at it.bank).bound ≤ 1 →
        s.enabled .planDrained = true → s.used + s.live + toteEvents.length < 256 →
        ∃ rest, more = ⟨s.line.clock, 0, .planDrained it.bank a⟩ :: rest := by
  obtain ⟨rest, hrest⟩ := eventsGrow_afterRetirement u it
  obtain ⟨more, hmore, _⟩ := releaseBank_events u it.bank
  refine ⟨more ++ rest, by rw [hrest, hmore, h.events]; simp, fun a active draining last enabled room => ⟨rest, ?_⟩⟩
  have ne : a ≠ it.bank := fun e => by
    have := activeBank_state active
    rw [e, draining] at this
    cases this
  have drained := releaseBank_drains u it.bank (by rwa [h.plan]) (by rwa [h.plan]) (by rwa [h.enabled])
    (decide_eq_true (lt_of_le_of_lt (h.used_live live) room))
  rw [hmore, h.line, otherBank_of_ne ne] at drained
  rw [List.append_cancel_left drained]
  rfl

/-- An item whose lane waits for others, or for the close of its parcel, leaves the parcel as it is (R64). -/
theorem retired_waiting (h : s.Closed u n it final toteEvents)
    (waiting : it.decided = true ∨ (s.lanes.at it.lane).state ≠ .closing ∨
      ∃ e ∈ s.items.records.entries, e.1 ≠ n ∧ s.undecidedOf it.lane e.2 = true) :
    (u.afterRetirement it true).returns = s.returns ∧
      (u.afterRetirement it true).lanes.at it.lane = (s.lanes.at it.lane).dropItem n := by
  have not : ¬ u.settlesAfter it := by
    rintro ⟨undecided, closing, none⟩
    rw [h.lane] at closing
    rcases waiting with d | c | e
    · simp [d] at undecided
    · exact c closing
    · simp [h.anyUndecided_iff.2 e] at none
  rw [afterRetirement_waiting not, endIfEmpty_returns, endIfEmpty_lanes, releaseBank_returns, releaseBank_lanes]
  exact ⟨h.returns, h.lane⟩

/-- The last undecided item of a CLOSING lane's parcel settles it, with PARCEL CLOSED (R64, R65). -/
theorem retired_settling (h : s.Closed u n it final toteEvents) (live : s.item n = some it) (undecided : it.decided = false)
    (closing : (s.lanes.at it.lane).state = .closing)
    (last : ∀ e ∈ s.items.records.entries, e.1 ≠ n → s.undecidedOf it.lane e.2 = false) :
    (∀ m ∈ (s.lanes.at it.lane).boundRas, (u.afterRetirement it true).ra m = (s.ra m).bind Ra.closing) ∧
      (∀ m, m ∉ (s.lanes.at it.lane).boundRas → (u.afterRetirement it true).ra m = s.ra m) ∧
      (u.afterRetirement it true).lanes.at it.lane = { (s.lanes.at it.lane).dropItem n with
        boundRas := [], account := none, closeCause := none, state := .idle } ∧
      ∀ cause, (s.lanes.at it.lane).closeCause = some cause → s.enabled .parcelClosed = true →
        s.used + s.live + toteEvents.length ≤ 254 →
        ∃ more, (u.afterRetirement it true).queue.events =
            s.queue.events ++ ⟨s.line.clock, n, final⟩ :: (toteEvents ++ more) ∧
          ⟨s.line.clock, 0, .parcelClosed it.lane (s.lanes.at it.lane).parcelCounter (s.lanes.at it.lane).account
            cause.endCause 0
            ((s.lanes.at it.lane).boundRas.filterMap fun m => (s.ra m).map fun r => (m, r.closingReport))⟩ ∈ more := by
  have settles : u.settlesAfter it := by
    refine ⟨undecided, by rw [h.lane]; exact closing, ?_⟩
    rw [Bool.eq_false_iff, Ne, h.anyUndecided_iff]
    rintro ⟨e, he, hn, hu⟩
    simp [last e he hn] at hu
  obtain ⟨released, hreleased, one⟩ := releaseBank_events u it.bank
  have lane : (u.releaseBank it.bank).lanes.at it.lane = (s.lanes.at it.lane).dropItem n := by
    rw [releaseBank_lanes, h.lane]
  have ra : ∀ m, (u.releaseBank it.bank).ra m = s.ra m := fun m => by
    rw [← h.ra m]; unfold State.ra; rw [releaseBank_returns]
  obtain ⟨bound, others, idle, _, closed, _⟩ :=
    settle_settles (u.releaseBank it.bank) it.lane (u.lanes.at it.lane).endCause 0
  simp only [lane, ra] at bound others idle closed
  rw [afterRetirement_settling settles]
  refine ⟨fun m hm => ?_, fun m hm => ?_, ?_, fun cause hcause enabled room => ?_⟩
  · unfold State.ra; rw [endIfEmpty_returns]; exact bound m hm
  · unfold State.ra; rw [endIfEmpty_returns]; exact others m hm
  · rw [endIfEmpty_lanes]; exact idle
  · have used := h.used_live live
    have roomy : (u.releaseBank it.bank).roomForEvent = true := by
      unfold State.roomForEvent State.used
      rw [hreleased, List.length_append, live_of_items_eq (releaseBank_items u it.bank)]
      unfold State.used at used room
      exact decide_eq_true (by show _ < 256; omega)
    have enabled' : (u.releaseBank it.bank).enabled .parcelClosed = true := by
      rw [← enabled, ← h.enabled]; unfold State.enabled; rw [releaseBank_line]
    obtain ⟨more, hmore⟩ := closed enabled' roomy
    obtain ⟨rest, hrest⟩ := eventsGrow_endIfEmpty
      ((u.releaseBank it.bank).settle it.lane (u.lanes.at it.lane).endCause 0)
    have endCause : (u.lanes.at it.lane).endCause = cause.endCause := by
      rw [h.lane]
      show ((s.lanes.at it.lane).closeCause.map CloseCause.endCause).getD .host = _
      rw [hcause]
      rfl
    rw [hmore, hreleased, h.events, releaseBank_line, h.line, endCause] at hrest
    rw [endCause]
    refine ⟨released ++ _ :: (more ++ rest), ?_, List.mem_append_right _ List.mem_cons_self⟩
    rw [hrest]
    simp only [List.append_assoc, List.cons_append]
    rfl

/-- The steps after the record is closed make a retirement as R13 says it, whatever the final event and the events of a
drop's tote. -/
theorem afterRetirement_retires (h : s.Closed u n it final toteEvents) (live : s.item n = some it) :
    s.retires (u.afterRetirement it true) n it final toteEvents := by
  have items := (afterRetirement_items u it true).trans h.items
  have item : ∀ m, (u.afterRetirement it true).item m = if n = m then none else s.item m := fun m => by
    rw [item_of_items_eq items, item_closeRecord]
  have plan : (u.afterRetirement it true).plan =
      { s.plan with banks := s.plan.banks.modify it.bank fun _ => (s.plan.banks.at it.bank).released } := by
    rw [afterRetirement_plan, releaseBank_plan, h.plan]
  have stop := afterRetirement_stopEnds u it
  unfold State.stopEnds at stop
  rw [h.line] at stop
  refine ⟨by rw [item, if_pos rfl], fun m hm => by rw [item, if_neg (Ne.symm hm)], by rw [items]; rfl,
    retired_events h live, ?_, ?_, fun l hl => ?_, retired_waiting h, retired_settling h live, ?_, ?_, fun b hb => ?_,
    ?_, ?_, stop⟩
  · rw [queue_afterRetirement, h.lane]; rfl
  · rw [afterRetirement_timer, h.lane]; rfl
  · rw [afterRetirement_other_lane u it hl, h.other_lane hl]
  · rw [afterRetirement_sorter, h.carriers]; rfl
  · rw [plan]; exact pair_at_modify_self _ _ _
  · rw [plan]; exact pair_at_modify_other _ _ _ _ (Ne.symm hb)
  · rw [plan]
  · rw [afterRetirement_bus, h.bus]

end Retired

/-! ### WITHDRAW ITEM (R15, R16) -/

/-- What retirement says does not look at the Message Port. -/
theorem retires_with_port {s t : State} {n : Nat} {it : Item} {final : EventBody} {toteEvents : List Event}
    (h : s.frameTaken.retires t n it final toteEvents) (p : Port) :
    s.retires { t with port := p } n it final toteEvents := h

theorem withdraw_retires (s : State) (n : Nat) (it : Item) (reason : WithdrawReason) (live : s.item n = some it) :
    s.retires (s.withdraw n reason true) n it (.itemWithdrawn reason it.finalFields) [] := by
  have h := afterRetirement_retires (closeRecord_closed s n it (.itemWithdrawn reason it.finalFields)) live
  unfold State.withdraw
  rw [live]
  exact h

theorem finalFields_of_inLane {it : Item} (h : it.inLane = true) :
    it.finalFields =
      { lane := it.lane, ticket := it.ticket, parcel := it.parcel, state := it.state, grade := it.grade,
        result := it.result, matched := it.matched, dest := it.dest, laps := 0, forced := it.forced } := by
  unfold Item.finalFields
  rw [h, if_pos rfl]

theorem withdraw_gates (s : State) (n : Nat) (reason : WithdrawReason) (tell : Bool) :
    (s.withdraw n reason tell).sorter.gates = s.sorter.gates := by
  unfold State.withdraw
  split
  · rfl
  · rw [afterRetirement_sorter]; rfl

/-- Settles O11: an item in lane is retired as `withdraw_retires` says; a SORTING one has its route written again. -/
theorem withdrawItemRetiresOrRedirects : Obligations.WithdrawItemRetiresOrRedirects := by
  intro s tag n it h live
  refine ⟨fun inLane => ?_, fun sorting => ?_⟩
  · have lane : it.inLane = true := decide_eq_true inLane
    have retired := withdraw_retires s.frameTaken n it .host live
    have act : withdrawItem n s.frameTaken =
        ⟨{ s.frameTaken.withdraw n .host true with port := s.frameTaken.port }, .done, .withdrawn it.state false⟩ := by
      rw [← withdraw_port s.frameTaken n .host true]
      simp only [withdrawItem, item_frameTaken, live, lane, if_true]
      rfl
    rw [finalFields_of_inLane lane] at retired
    refine ⟨_, (exec_request (.withdrawItem tag n) tag 17 _ rfl s).trans (congrArg _ (serve_taken s _ tag 17 _ _ _ h act)),
      retires_with_port retired _, withdraw_totes s.frameTaken n .host true, withdraw_gates s.frameTaken n .host true, rfl⟩
  · have lane : it.inLane = false := by simp [Item.inLane, sorting]
    exact exec_done (.withdrawItem tag n) rfl h _ rfl (by simp only [withdrawItem, item_frameTaken, live, lane]; rfl)

/-! ### The settlement test does not look at the Message Port -/

theorem foldl_with_port {α : Type} (p : Port) (f : State → α → State)
    (h : ∀ s a, f { s with port := p } a = { f s a with port := p }) (l : List α) (s : State) :
    l.foldl f { s with port := p } = { l.foldl f s with port := p } := by
  induction l generalizing s with
  | nil => rfl
  | cons a rest ih => rw [List.foldl_cons, List.foldl_cons, h, ih]

theorem endTest_with_port (s : State) (p : Port) : State.endTest { s with port := p } = { s.endTest with port := p } := by
  by_cases due : s.stopDue
  · obtain ⟨mode, live, idle⟩ := due
    have test : (s.line.mode.isDraining && s.allLanesIdle && decide (s.live = 0)) = true := by
      simp [mode, live, (allLanesIdle_iff s).2 idle]
    have offered := offer_with_port { s with line := { s.line with mode := .setup } } p 0
      (.lineState .setup s.line.pause s.line.hold .stopEnd)
    unfold State.endTest
    rw [if_pos test]
    exact (if_pos test).trans offered
  · rw [endTest_of_not_due due]
    exact endTest_of_not_due (s := { s with port := p }) due

theorem settleRa_with_port (p : Port) (s : State) (n : Nat) :
    State.settleRa { s with port := p } n = { s.settleRa n with port := p } := by
  have ra : State.ra { s with port := p } n = s.ra n := rfl
  unfold State.settleRa
  rw [ra]
  split
  · rfl
  · split <;> rfl

theorem parcelSettled_with_port (s : State) (p : Port) (l : LaneId) (cause : EndCause) (retired : Nat) :
    State.parcelSettled { s with port := p } l cause retired = { s.parcelSettled l cause retired with port := p } := by
  have offered := offer_with_port ((s.lanes.at l).boundRas.foldl State.settleRa s) p 0
    (.parcelClosed l (s.lanes.at l).parcelCounter (s.lanes.at l).account cause retired (s.outcomes l))
  rw [← foldl_with_port p State.settleRa (settleRa_with_port p)] at offered
  exact congrArg (fun t => State.modLane t l Lane.settled) offered

theorem settlementTest_with_port (s : State) (p : Port) (l : LaneId) :
    State.settlementTest { s with port := p } l = { s.settlementTest l with port := p } := by
  by_cases waiting : (s.lanes.at l).state ≠ .closing ∨ s.anyUndecided l = true
  · rw [settlementTest_of_waiting waiting]
    exact settlementTest_of_waiting (s := { s with port := p }) waiting
  · obtain ⟨closing, decided⟩ : (s.lanes.at l).state = .closing ∧ s.anyUndecided l = false := by simpa using waiting
    rw [settlementTest_of_settling closing decided]
    refine (settlementTest_of_settling (s := { s with port := p }) closing decided).trans ?_
    rw [settle_eq, settle_eq, ← endTest_with_port, ← parcelSettled_with_port]

/-! ### FORCE GRADE (R17, R18) -/

theorem program_of_lookup {b : Bank} {category : Nat} {p : Program} (h : b.programs.lookup category = some p) :
    b.program category = p := by
  unfold Bank.program
  rw [h]
  rfl

theorem routeFor_of_lookup {b : Bank} {category : Nat} {p : Program} {g : Grade} {cell : Dest}
    (program : b.programs.lookup category = some p) (map : b.map.lookup (4 * gradePlace g + p.group) = some cell) :
    b.routeFor g category = Route.ofCell cell := by
  unfold Bank.routeFor Bank.cell cellNumber
  rw [program_of_lookup program, map]
  rfl

/-- R18: the route of the new grade replaces every route but one with a holding reason. -/
theorem forceDecided_eq {it : Item} {g : Grade} {b : Bank} {cell : Dest}
    (route : b.routeFor g (it.category.getD 31) = Route.ofCell cell) :
    it.forceDecided g b = { it with
      grade := some g, forced := true
      route := match it.route with
        | some (.exception .mapped) => some (Route.ofCell cell)
        | some (.exception held) => some (.exception held)
        | _ => some (Route.ofCell cell) } := by
  unfold Item.forceDecided Item.held
  rw [route]
  rcases it.route with _ | d | reason
  · rfl
  · rfl
  · cases reason <;> rfl

/-- R17: the FORCED decision of an item that is still MEASURING or WAITING. -/
theorem forceUndecided_eq {it : Item} {g : Grade} {b : Bank} {p : Program} {cell : Dest} {clock : Nat}
    (state : it.state = .measuring ∨ it.state = .waiting) (program : b.programs.lookup 31 = some p)
    (map : b.map.lookup (4 * gradePlace g + p.group) = some cell) :
    it.forceUndecided g b clock = { it with
      result := some .forced, matched := none, category := some 31, expectedPieces := p.pieces, penalty := 0,
      cap := .noCap, quarantine := false, failed := [], grade := some g, shadow := none, forced := true,
      route := some (Route.ofCell cell), state := if it.state = .waiting then .ready else .decided,
      decidedTime := some clock } := by
  have decided : decidedState it.state = if it.state = .waiting then .ready else .decided := by
    rcases state with h | h <;> rw [h] <;> rfl
  unfold Item.forceUndecided
  rw [routeFor_of_lookup program map, program_of_lookup program, decided]

/-- The FORCED decision before the lane's settlement test: the record, its timer, ITEM GRADED (R17, R130). -/
def State.forcedAs (s : State) (n : Nat) (lane : LaneId) (d : Item) : State :=
  ((s.modItem n fun _ => d).modLane lane fun x => x.stopTimer n).offer n (.itemGraded d.gradedFields)

theorem forceGrade_of_decided {s : State} {n : Nat} {it : Item} {g : Grade} (live : s.item n = some it)
    (decided : it.decided = true) (d : Item) (hd : it.forceDecided g (s.plan.banks.at it.bank) = d) :
    forceGrade n (.known g) s =
      ((s.modItem n fun _ => d).offer n (.itemGraded d.gradedFields)).done (.forced g d.dest d.state) := by
  subst hd
  simp only [forceGrade, live, decided, coded, if_true]

theorem forceGrade_of_undecided {s : State} {n : Nat} {it : Item} {g : Grade} (live : s.item n = some it)
    (undecided : it.decided = false) (d : Item)
    (hd : it.forceUndecided g (s.plan.banks.at it.bank) s.line.clock = d) :
    forceGrade n (.known g) s = ((s.forcedAs n it.lane d).settlementTest it.lane).done (.forced g d.dest d.state) := by
  subst hd
  simp only [forceGrade, live, undecided, coded, Bool.false_eq_true, if_false]
  rfl

theorem forcedAs_frameTaken (s : State) (n : Nat) (l : LaneId) (d : Item) :
    s.frameTaken.forcedAs n l d = (s.forcedAs n l d).frameTaken := by
  have offered := offer_with_port ((s.modItem n fun _ => d).modLane l fun x => x.stopTimer n)
    { s.port with receiving := [] } n (.itemGraded d.gradedFields)
  refine offered.trans ?_
  unfold State.frameTaken State.forcedAs
  rw [offer_port]
  rfl

theorem settlementTest_frameTaken (s : State) (l : LaneId) :
    s.frameTaken.settlementTest l = (s.settlementTest l).frameTaken := by
  refine (settlementTest_with_port s { s.port with receiving := [] } l).trans ?_
  unfold State.frameTaken
  rw [settlementTest_port]

theorem forcedAs_item {s : State} {n : Nat} {it : Item} (live : s.item n = some it) (l : LaneId) (d : Item) (m : Nat) :
    (s.forcedAs n l d).item m = if n = m then some d else s.item m := by
  have items : (s.forcedAs n l d).item m = (s.modItem n fun _ => d).item m := item_of_items_eq (by simp [State.forcedAs]) m
  rw [items, item_modItem]
  split
  · next h => rw [← h, live]; rfl
  · rfl

theorem forcedAs_lanes (s : State) (n : Nat) (l : LaneId) (d : Item) :
    (s.forcedAs n l d).lanes = s.lanes.modify l fun x => x.stopTimer n := by
  simp [State.forcedAs]

/-- What the FORCED decision and its settlement test leave of every other block. -/
theorem forcedAs_settlementTest_frame {s : State} {n : Nat} {it : Item} (live : s.item n = some it) (d : Item) :
    ((s.forcedAs n it.lane d).settlementTest it.lane).item n = some d ∧
      (∀ m, m ≠ n → ((s.forcedAs n it.lane d).settlementTest it.lane).item m = s.item m) ∧
      s.eventsGrow ((s.forcedAs n it.lane d).settlementTest it.lane) ∧
      (((s.forcedAs n it.lane d).settlementTest it.lane).lanes.at it.lane).queue = (s.lanes.at it.lane).queue ∧
      (∀ l, l ≠ it.lane → ((s.forcedAs n it.lane d).settlementTest it.lane).lanes.at l = s.lanes.at l) ∧
      ((s.forcedAs n it.lane d).settlementTest it.lane).bus = s.bus ∧
      ((s.forcedAs n it.lane d).settlementTest it.lane).plan = s.plan ∧
      ((s.forcedAs n it.lane d).settlementTest it.lane).sorter = s.sorter ∧
      ((s.forcedAs n it.lane d).settlementTest it.lane).totes = s.totes := by
  have item : ∀ m, ((s.forcedAs n it.lane d).settlementTest it.lane).item m = if n = m then some d else s.item m :=
    fun m => by rw [item_of_items_eq (settlementTest_items _ _), forcedAs_item live]
  have forced : s.eventsGrow (s.forcedAs n it.lane d) :=
    (eventsGrow_of_queue_eq rfl).trans (eventsGrow_offer ((s.modItem n fun _ => d).modLane it.lane _) _ _)
  refine ⟨by rw [item, if_pos rfl], fun m hm => by rw [item, if_neg (Ne.symm hm)],
    forced.trans (eventsGrow_settlementTest _ _), ?_, fun l hl => ?_, ?_, ?_, ?_, ?_⟩
  · rw [queue_settlementTest, forcedAs_lanes, quad_at_modify_self]; rfl
  · rw [settlementTest_other_lane _ _ _ hl, forcedAs_lanes, quad_at_modify_other _ _ _ _ (Ne.symm hl)]
  all_goals simp [State.forcedAs]

/-- Settles O12: a decided item has its grade and route written again; an undecided one is decided as `State.forcedAs` says,
and its lane makes the settlement test. -/
theorem forceGradeReplacesOrDecides : Obligations.ForceGradeReplacesOrDecides := by
  refine ⟨fun s tag n it g p cell h live decided program map it' hit' => ?_,
    fun s tag n it g p cell h live undecided state program map it' hit' => ?_⟩
  · have written : it.forceDecided g (s.plan.banks.at it.bank) = it' := by
      subst hit'
      exact forceDecided_eq (routeFor_of_lookup program map)
    have offered := offer_with_port (s.modItem n fun _ => it') { s.port with receiving := [] } n
      (.itemGraded it'.gradedFields)
    refine exec_done (.forceGrade tag n (.known g)) rfl h _ (by simp) ?_
    rw [forceGrade_of_decided (s := s.frameTaken) live decided it' written]
    refine congrArg (fun t => State.done t _) (offered.trans ?_)
    unfold State.frameTaken
    rw [offer_port]
    rfl
  · have written : it.forceUndecided g (s.plan.banks.at it.bank) s.line.clock = it' :=
      (forceUndecided_eq state program map).trans hit'.symm
    have ungraded : it.decided = false := by simp [Item.decided, undecided]
    have taken : exec (.forceGrade tag n (.known g)) s =
        .next (((s.forcedAs n it.lane it').settlementTest it.lane).answered tag 18 (.forced g it'.dest it'.state)) := by
      refine exec_done (.forceGrade tag n (.known g)) rfl h _ (by simp [State.forcedAs]) ?_
      rw [forceGrade_of_undecided (s := s.frameTaken) live ungraded it' written, forcedAs_frameTaken,
        settlementTest_frameTaken]
    refine ⟨fun notClosing => ?_, fun u hu => by rw [hu]; exact taken, _, taken, ?_⟩
    · rw [taken, settlementTest_of_waiting (.inl ?_)]
      · rfl
      · rw [forcedAs_lanes, quad_at_modify_self]
        exact notClosing
    · obtain ⟨item, others, events, queue, lanes, bus, plan, sorter, totes⟩ := forcedAs_settlementTest_frame live it'
      refine ⟨item, others, events, queue, lanes, bus, plan, sorter, totes, ?_⟩
      show (((s.forcedAs n it.lane it').settlementTest it.lane).port).answered _ = _
      simp [State.forcedAs]

end Sys2Proof.Machine
end

section
/-! The match (R39 to R45): where its search ends, what it returns, what it counts. -/

namespace Sys2Proof.Machine

/-! ### Where the search ends (R39, R41, R42) -/

/-- The first entry with a property, where the search tests that property. -/
theorem find?_of_first {α : Type} {p : α → Bool} {q : α → Prop} (tests : ∀ a, p a = true ↔ q a)
    {before after : List α} {a : α} (ha : q a) (none_before : ∀ b ∈ before, ¬ q b) :
    (before ++ a :: after).find? p = some a := by
  rw [List.find?_eq_some_iff_append]
  exact ⟨(tests a).2 ha, before, after, rfl, fun b hb => by
    rw [Bool.not_eq_true', ← Bool.not_eq_true, tests]; exact none_before b hb⟩

theorem find?_of_none {α : Type} {p : α → Bool} {q : α → Prop} (tests : ∀ a, p a = true ↔ q a) {l : List α}
    (no : ∀ a ∈ l, ¬ q a) : l.find? p = none :=
  List.find?_eq_none.2 fun a ha => by rw [tests]; exact no a ha

/-- The line lists the code unmarked, and has room (R41). -/
def Found.unmarked (f : Found) (c : TagCode) : Prop :=
  (∃ t ∈ f.line.tags, t.code = c ∧ t.received = false) ∧ f.line.received < f.line.quantity

theorem unmarked_tests (c : TagCode) (f : Found) :
    (f.line.listsWith c false && f.line.hasRoom) = true ↔ f.unmarked c := by
  simp [Found.unmarked, Line.listsWith, Line.hasRoom]

/-- The line lists the code marked (R41). -/
def Found.marked (f : Found) (c : TagCode) : Prop := ∃ t ∈ f.line.tags, t.code = c ∧ t.received = true

theorem marked_tests (c : TagCode) (f : Found) : f.line.listsWith c true = true ↔ f.marked c := by
  simp [Found.marked, Line.listsWith]

/-- The line is of the code's SKU, and has room (R42). -/
def Found.roomFor (f : Found) (c : TagCode) : Prop := f.line.sku = c.sku ∧ f.line.received < f.line.quantity

theorem roomFor_tests (c : TagCode) (f : Found) :
    (decide (f.line.sku = c.sku) && f.line.hasRoom) = true ↔ f.roomFor c := by
  simp [Found.roomFor, Line.hasRoom]

theorem sameSku_tests (c : TagCode) (f : Found) : decide (f.line.sku = c.sku) = true ↔ f.line.sku = c.sku :=
  decide_eq_true_iff

theorem unlistedResult_eq (l : Line) : l.unlistedResult = if l.tags = [] then .skuOnly else .unlisted := by
  unfold Line.unlistedResult
  simp only [List.isEmpty_iff]

section Search

variable {lines before after : List Found} {placeholder : Bool} {c : TagCode} {f : Found}

theorem findMatch_exact (hf : f.unmarked c) (first : ∀ g ∈ before, ¬ g.unmarked c) :
    findMatch (before ++ f :: after) placeholder c = (.exact, some f) := by
  simp only [findMatch, find?_of_first (unmarked_tests c) hf first]

theorem findMatch_repeated (no : ∀ g ∈ before ++ f :: after, ¬ g.unmarked c) (hf : f.marked c)
    (first : ∀ g ∈ before, ¬ g.marked c) :
    findMatch (before ++ f :: after) placeholder c = (.repeated, some f) := by
  simp only [findMatch, find?_of_none (unmarked_tests c) no, find?_of_first (marked_tests c) hf first]

theorem findMatch_unlisted (no : ∀ g ∈ before ++ f :: after, ¬ g.unmarked c)
    (no' : ∀ g ∈ before ++ f :: after, ¬ g.marked c) (hf : f.roomFor c) (first : ∀ g ∈ before, ¬ g.roomFor c) :
    findMatch (before ++ f :: after) placeholder c = (if f.line.tags = [] then .skuOnly else .unlisted, some f) := by
  simp only [findMatch, find?_of_none (unmarked_tests c) no, find?_of_none (marked_tests c) no',
    find?_of_first (roomFor_tests c) hf first, unlistedResult_eq]

theorem findMatch_over (no : ∀ g ∈ before ++ f :: after, ¬ g.unmarked c)
    (no' : ∀ g ∈ before ++ f :: after, ¬ g.marked c) (full : ∀ g ∈ before ++ f :: after, ¬ g.roomFor c)
    (hf : f.line.sku = c.sku) (first : ∀ g ∈ before, g.line.sku ≠ c.sku) :
    findMatch (before ++ f :: after) placeholder c = (.over, some f) := by
  simp only [findMatch, find?_of_none (unmarked_tests c) no, find?_of_none (marked_tests c) no',
    find?_of_none (roomFor_tests c) full, find?_of_first (sameSku_tests c) hf first]

theorem findMatch_none (no : ∀ g ∈ lines, ¬ g.unmarked c) (no' : ∀ g ∈ lines, ¬ g.marked c)
    (full : ∀ g ∈ lines, ¬ g.roomFor c) (other : ∀ g ∈ lines, g.line.sku ≠ c.sku) :
    findMatch lines placeholder c = (if placeholder then .noReturn else .stray, none) := by
  simp only [findMatch, find?_of_none (unmarked_tests c) no, find?_of_none (marked_tests c) no',
    find?_of_none (roomFor_tests c) full, find?_of_none (sameSku_tests c) other]

/-- A counting result rests on a line of the search that has room (R41, R42). -/
theorem findMatch_counts {r : MatchResult} (h : findMatch lines placeholder c = (r, some f))
    (counts : r.counts = true) :
    f ∈ lines ∧ f.line.hasRoom = true := by
  unfold findMatch at h
  split at h
  · next g hg =>
    cases h
    have := List.find?_some hg
    exact ⟨List.mem_of_find?_eq_some hg, (Bool.and_eq_true_iff.1 this).2⟩
  · split at h
    · cases h; cases counts
    · split at h
      · next g hg =>
        cases h
        have := List.find?_some hg
        exact ⟨List.mem_of_find?_eq_some hg, (Bool.and_eq_true_iff.1 this).2⟩
      · split at h
        · cases h; cases counts
        · cases h

end Search

/-! ### The lines in search order (R39) -/

theorem numberLines_length (number : Nat) (ra : Ra) (lines : List Line) (k : Nat) :
    (numberLines number ra k lines).length = lines.length := by
  induction lines generalizing k with
  | nil => rfl
  | cons l rest ih => simp [numberLines, ih]

theorem numberLines_getElem? (number : Nat) (ra : Ra) (lines : List Line) (k i : Nat) :
    (numberLines number ra k lines)[i]? = lines[i]?.map fun l => ⟨number, ra, k + i, l⟩ := by
  induction lines generalizing k i with
  | nil => rfl
  | cons l rest ih =>
    cases i with
    | zero => rfl
    | succ i => simp only [numberLines, List.getElem?_cons_succ, ih, Nat.add_right_comm k 1 i, Nat.add_assoc]

/-- A line of the search stands on an RA of the search, at its index from 1. -/
theorem mem_searchLines {ras : List (Nat × Ra)} {f : Found} (h : f ∈ searchLines ras) :
    (f.number, f.ra) ∈ ras ∧ f.ra.line f.index = some f.line := by
  obtain ⟨⟨number, ra⟩, hra, hf⟩ := List.mem_flatMap.1 h
  obtain ⟨i, hi⟩ := List.mem_iff_getElem?.1 hf
  rw [numberLines_getElem?] at hi
  obtain ⟨l, hl, rfl⟩ := Option.map_eq_some_iff.1 hi
  exact ⟨hra, (line_eq_some_iff ra _ l).2 ⟨by simp, by simpa using hl⟩⟩

theorem mem_boundRecords {s : State} {l : LaneId} {n : Nat} {r : Ra} :
    (n, r) ∈ s.boundRecords l ↔ n ∈ (s.lanes.at l).boundRas ∧ s.ra n = some r := by
  unfold State.boundRecords State.ra
  simp only [List.mem_filterMap, Option.map_eq_some_iff, Prod.mk.injEq]
  constructor
  · rintro ⟨m, hm, x, hx, rfl, rfl⟩
    exact ⟨hm, hx⟩
  · rintro ⟨hn, hr⟩
    exact ⟨n, hn, r, hr, rfl, rfl⟩

/-- A condition on the bound records alone does not see their numbers. -/
theorem boundRecords_any (s : State) (l : LaneId) (p : Ra → Bool) :
    ((s.boundRecords l).any fun e => p e.2) = ((s.lanes.at l).boundRas.filterMap s.ra).any p := by
  unfold State.boundRecords State.ra
  rw [List.any_filterMap, List.any_filterMap]
  refine congrArg (List.any _) (funext fun n => ?_)
  cases s.returns.records.lookup n <;> rfl

/-- A counting result of an item's search rests on a BOUND record of the table, and on one of its lines, with room. -/
theorem searchFor_counts {s : State} {it : Item} {r : MatchResult} {f : Found} (h : s.searchFor it = (r, some f))
    (counts : r.counts = true) :
    s.ra f.number = some f.ra ∧ f.ra.state = .bound ∧ f.ra.line f.index = some f.line ∧ f.line.hasRoom = true := by
  unfold State.searchFor at h
  split at h
  · next c _ =>
    have found : findMatch (searchLines (s.searchedRas it.lane))
        ((s.boundRecords it.lane).any fun e => e.2.placeholder) c = (r, some f) := by
      rw [← h]
      generalize findMatch (searchLines (s.searchedRas it.lane)) _ c = x at h ⊢
      obtain ⟨r', _ | f'⟩ := x
      · rfl
      · unfold staleIfMismatch at h ⊢
        dsimp only at h ⊢
        split at h
        · cases h; cases counts
        · next hn => rw [if_neg hn]
    obtain ⟨hf, room⟩ := findMatch_counts found counts
    obtain ⟨hra, line⟩ := mem_searchLines hf
    obtain ⟨bound, state⟩ := List.mem_filter.1 hra
    exact ⟨(mem_boundRecords.1 bound).2, of_decide_eq_true state, line, room⟩
  all_goals cases h

/-! ### What a match returns and counts (R40, R43 to R45) -/

theorem counts_iff (r : MatchResult) : r.counts = true ↔ r = .exact ∨ r = .skuOnly ∨ r = .unlisted := by
  cases r <;> decide

/-- R43, for every outcome of the search. -/
theorem staleIfMismatch_eq (r : MatchResult) (f : Option Found) :
    staleIfMismatch (r, f) =
      (if (r = .exact ∨ r = .skuOnly ∨ r = .unlisted) ∧ (f.map fun x => x.ra.mismatch) = some true
        then .staleLabel else r, f) := by
  cases f with
  | none => simp [staleIfMismatch]
  | some f =>
    simp only [staleIfMismatch, ← counts_iff, Option.map_some, Option.some.injEq, Bool.and_eq_true]
    split <;> rfl

/-- The search for an item with a READ tag (R39 to R43). -/
theorem searchFor_of_read {s : State} {it : Item} {c : TagCode} (h : it.tagState = .read c) :
    s.searchFor it = staleIfMismatch (findMatch (searchLines (s.searchedRas it.lane))
      (((s.lanes.at it.lane).boundRas.filterMap s.ra).any Ra.placeholder) c) := by
  simp only [State.searchFor, h, boundRecords_any]

theorem searchFor_of_unread {s : State} {it : Item}
    (h : it.tagState = .noTag ∨ it.tagState = .corrupt ∨ it.tagState = .conflict) :
    s.searchFor it = (.unread, none) := by
  rcases h with h | h | h <;> simp only [State.searchFor, h]

/-- A result that counts, or would but for the label, names its line (R44). -/
theorem matchReturn_naming {r : MatchResult} (f : Found)
    (h : r = .exact ∨ r = .skuOnly ∨ r = .unlisted ∨ r = .staleLabel) : matchReturn (r, some f) =
      ⟨r, some (f.number, f.index), f.line.category, some f.line.pieces, some f.line.refWeight, some f.ra.reason⟩ := by
  rcases h with rfl | rfl | rfl | rfl <;> rfl

/-- REPEATED and OVER take the line's data and name no line (R44). -/
theorem matchReturn_nameless {r : MatchResult} (f : Found) (h : r = .repeated ∨ r = .over) : matchReturn (r, some f) =
    ⟨r, none, f.line.category, some f.line.pieces, some f.line.refWeight, none⟩ := by
  rcases h with rfl | rfl <;> rfl

theorem countFound_of_counts {s : State} {it : Item} {c : TagCode} {r : MatchResult} {f : Found}
    (tag : it.tagState = .read c) (h : r.counts = true) :
    s.countFound it (r, some f) = s.modRa f.number fun x => x.countMatch f.index r c := by
  simp only [State.countFound, tag, h, if_true]

theorem countFound_of_not_counts {s : State} {it : Item} {r : MatchResult} (f : Option Found) (h : r.counts = false) :
    s.countFound it (r, f) = s := by
  cases f with
  | none => rfl
  | some f => simp only [State.countFound, h]; cases it.tagState <;> rfl

/-- Settles O31: the four searches of `findMatch` in their order, then the result, the values returned, the counts. -/
theorem theMatchSearchesReturnsAndCounts : Obligations.TheMatchSearchesReturnsAndCounts := by
  refine ⟨fun lines placeholder c => ?_,
    ⟨fun s it h => searchFor_of_unread h, fun s it c tag r f found => ?_, fun ras => rfl,
      fun number ra lines k => ⟨numberLines_length number ra lines k, fun i l h => ?_⟩,
      fun r f h => matchReturn_naming f h, fun r f h => matchReturn_nameless f h, fun r => rfl⟩,
    fun s it c r f tag index => ⟨fun exact => ?_, fun h => ?_, fun h1 h2 h3 => ?_, rfl⟩⟩
  · refine ⟨?_, fun no => ⟨?_, fun no' => ⟨?_, fun full => ⟨?_, fun other => findMatch_none no no' full other⟩⟩⟩⟩
    all_goals
      rintro before f after rfl hf first
    · exact findMatch_exact hf first
    · exact findMatch_repeated no hf first
    · exact findMatch_unlisted no no' hf first
    · exact findMatch_over no no' full hf first
  · rw [searchFor_of_read tag, ← staleIfMismatch_eq]
    exact congrArg staleIfMismatch found
  · rw [numberLines_getElem?, h]; rfl
  · rw [countFound_of_counts tag ((counts_iff r).2 (.inl exact)), exact]
    simp only [Ra.countMatch, Ra.modLine, if_neg index, markReceived, if_true]
  · have plain : r ≠ .exact := by rcases h with rfl | rfl <;> exact nofun
    rw [countFound_of_counts tag ((counts_iff r).2 (.inr h))]
    simp only [Ra.countMatch, Ra.modLine, if_neg index, if_neg plain]
  · exact countFound_of_not_counts _ (Bool.eq_false_iff.2 fun h => by
      rcases (counts_iff r).1 h with h | h | h <;> contradiction)

end Sys2Proof.Machine
end

section
/-! The two laws of the Return Table: what a record may hold, and what a lane binds (R25 to R29, R45, R49). Every
command keeps both, act by act. -/

namespace Sys2Proof.Machine

/-! ### The laws, clause by clause -/

theorem line_lawful_iff (l : Line) : l.lawful = true ↔ l.received ≤ l.quantity ∧ l.tags.length ≤ l.quantity := by
  simp [Line.lawful]

theorem ra_lawful_iff (r : Ra) : r.lawful = true ↔ (r.timer.isSome = true ↔ r.state = .expected) ∧
    (r.placeholder = true → r.lines = []) ∧ r.boundLane.isSome = r.held ∧ ∀ l ∈ r.lines, l.lawful = true := by
  simp only [Ra.lawful, Bool.and_eq_true, decide_eq_true_eq, List.all_eq_true, Bool.or_eq_true, Bool.not_eq_true',
    List.isEmpty_iff, and_assoc]
  refine and_congr ?_ (and_congr_left' ?_)
  · cases r.timer.isSome <;> simp
  · cases r.placeholder <;> simp

theorem held_eq_false_iff (r : Ra) :
    r.held = false ↔ r.state = .loaded ∨ r.state = .complete ∨ r.state = .short := by
  unfold Ra.held Ra.placeholder
  cases r.state <;> decide

/-- Only an EXPECTED record has a timer (R29). -/
theorem timer_of_lawful {r : Ra} (lawful : r.lawful = true) (h : r.state ≠ .expected) : r.timer = none := by
  obtain ⟨timer, _⟩ := (ra_lawful_iff r).1 lawful
  cases ht : r.timer with
  | none => rfl
  | some _ => exact absurd (timer.1 (by rw [ht]; rfl)) h

/-- What the law asks of a record that no lane holds. -/
theorem lawful_of_unheld {r : Ra} (unheld : r.held = false) (timer : r.timer = none) (lane : r.boundLane = none)
    (lines : ∀ l ∈ r.lines, l.lawful = true) : r.lawful = true := by
  rw [ra_lawful_iff, unheld, timer, lane]
  obtain ⟨_, unplaced⟩ := Bool.or_eq_false_iff.1 unheld
  exact ⟨⟨nofun, fun h => by simp [Ra.placeholder, h] at unplaced⟩, fun h => by simp [h] at unplaced, rfl, lines⟩

theorem lines_of_lawful {r : Ra} (lawful : r.lawful = true) : ∀ l ∈ r.lines, l.lawful = true :=
  ((ra_lawful_iff r).1 lawful).2.2.2

theorem lane_of_lawful {r : Ra} (lawful : r.lawful = true) : r.boundLane.isSome = r.held :=
  ((ra_lawful_iff r).1 lawful).2.2.1

theorem returnsLawful_iff (s : State) : s.returnsLawful = true ↔
    s.returns.records.wf = true ∧ ∀ n r, s.ra n = some r → r.lawful = true := by
  simp only [State.returnsLawful, Bool.and_eq_true, Table.values, List.all_map, List.all_eq_true, Function.comp]
  refine and_congr_right fun hw => ⟨fun h n r hr => h (n, r) (mem_of_lookup _ _ _ hr), fun h e he => ?_⟩
  exact h e.1 e.2 (lookup_of_mem _ _ _ hw he)

theorem bindingsLawful_iff (s : State) : s.bindingsLawful = true ↔ ∀ l, (s.lanes.at l).boundRas.Nodup ∧
    ∀ n ∈ (s.lanes.at l).boundRas, ∃ r, s.ra n = some r ∧ r.held = true ∧ r.boundLane = some l := by
  simp only [State.bindingsLawful, Bool.and_eq_true, Bool.not_eq_true', List.all_eq_true, mem_allLanes, true_implies,
    hasRepeat_eq_false_iff]
  refine forall_congr' fun l => and_congr_right fun _ => forall₂_congr fun n _ => ?_
  cases s.ra n <;> simp

/-! ### What keeps the laws -/

/-- Whatever made the second state of the first keeps each of the two laws. -/
structure State.ReturnsKept (s t : State) : Prop where
  records  : s.returnsLawful = true → t.returnsLawful = true
  bindings : s.bindingsLawful = true → t.bindingsLawful = true

namespace State.ReturnsKept

variable {s t u : State}

theorem refl (s : State) : s.ReturnsKept s := ⟨id, id⟩

theorem trans (h : s.ReturnsKept t) (h' : t.ReturnsKept u) : s.ReturnsKept u :=
  ⟨h'.records ∘ h.records, h'.bindings ∘ h.bindings⟩

theorem foldl {α : Type} {f : State → α → State} (h : ∀ (s : State) a, s.ReturnsKept (f s a)) (l : List α) (s : State) :
    s.ReturnsKept (l.foldl f s) := by
  induction l generalizing s with
  | nil => exact refl s
  | cons a rest ih => exact (h s a).trans (ih _)

/-- The records are lawful after, if each is that takes the place of a lawful one, or of none. -/
theorem records_of (wf : s.returns.records.wf = true → t.returns.records.wf = true)
    (after : ∀ n r', t.ra n = some r' → (∀ r, s.ra n = some r → r.lawful = true) → r'.lawful = true)
    (h : s.returnsLawful = true) : t.returnsLawful = true := by
  obtain ⟨hw, lawful⟩ := (returnsLawful_iff s).1 h
  exact (returnsLawful_iff t).2 ⟨wf hw, fun n r' hr' => after n r' hr' fun r hr => lawful n r hr⟩

/-- The lanes bind what they bound, and what is held stays held by the same lane. -/
theorem bindings_of (lanes : ∀ l, (t.lanes.at l).boundRas = (s.lanes.at l).boundRas)
    (held : ∀ n r, s.ra n = some r → r.held = true →
      ∃ r', t.ra n = some r' ∧ r'.held = true ∧ r'.boundLane = r.boundLane)
    (h : s.bindingsLawful = true) : t.bindingsLawful = true := by
  rw [bindingsLawful_iff] at h ⊢
  intro l
  obtain ⟨nodup, bound⟩ := h l
  rw [lanes]
  refine ⟨nodup, fun n hn => ?_⟩
  obtain ⟨r, hr, hh, hl⟩ := bound n hn
  obtain ⟨r', hr', hh', hl'⟩ := held n r hr hh
  exact ⟨r', hr', hh', hl'.trans hl⟩

/-- Neither the records nor the bound RAs change. -/
theorem aside (returns : t.returns = s.returns := by rfl)
    (lanes : ∀ l, (t.lanes.at l).boundRas = (s.lanes.at l).boundRas := by intro l; rfl) : s.ReturnsKept t := by
  have ra : ∀ n, t.ra n = s.ra n := fun n => by unfold State.ra; rw [returns]
  exact ⟨records_of (fun h => returns ▸ h) fun n r hr h => h r (ra n ▸ hr),
    bindings_of lanes fun n r hr hh => ⟨r, (ra n).trans hr, hh, rfl⟩⟩

/-- Neither the Return Table nor the lanes change. -/
theorem elsewhere (returns : t.returns = s.returns := by rfl) (lanes : t.lanes = s.lanes := by rfl) : s.ReturnsKept t :=
  aside returns fun l => by rw [lanes]

end State.ReturnsKept

/-! ### One record -/

/-- The second record is lawful if the first is, and is held by the same lane. -/
structure Ra.Follows (r r' : Ra) : Prop where
  lawful : r.lawful = true → r'.lawful = true
  held   : r'.held = r.held
  lane   : r'.boundLane = r.boundLane

theorem ra_modRa (s : State) (n m : Nat) (f : Ra → Ra) :
    (s.modRa n f).ra m = if n = m then (s.ra m).map f else s.ra m := lookup_modify s.returns.records n m f

theorem ra_putRa (s : State) (n m : Nat) (r : Ra) : (s.putRa n r).ra m = if n = m then some r else s.ra m :=
  lookup_put s.returns.records n m r

theorem ra_removeRa (s : State) (n m : Nat) : (s.removeRa n).ra m = if n = m then none else s.ra m :=
  lookup_remove s.returns.records n m

theorem modRa_kept (s : State) (n : Nat) (f : Ra → Ra) (h : ∀ r, s.ra n = some r → r.Follows (f r)) :
    s.ReturnsKept (s.modRa n f) := by
  refine ⟨State.ReturnsKept.records_of (fun hw => (wf_modify s.returns.records n f).trans hw) fun m r' hr' lawful => ?_,
    State.ReturnsKept.bindings_of (fun _ => rfl) fun m r hr hh => ?_⟩
  · rw [ra_modRa] at hr'
    split at hr'
    · next hm =>
      subst hm
      obtain ⟨r, hr, rfl⟩ := Option.map_eq_some_iff.1 hr'
      exact (h r hr).lawful (lawful r hr)
    · exact lawful r' hr'
  · rw [ra_modRa]
    split
    · next hm =>
      subst hm
      exact ⟨f r, by rw [hr]; rfl, (h r hr).held.trans hh, (h r hr).lane⟩
    · exact ⟨r, hr, hh, rfl⟩

/-- A record under a number that had none is bound nowhere. -/
theorem putRa_kept (s : State) (n : Nat) (r : Ra) (free : s.ra n = none) (lawful : r.lawful = true) :
    s.ReturnsKept (s.putRa n r) := by
  refine ⟨State.ReturnsKept.records_of (wf_put _ n r) fun m r' hr' before => ?_,
    State.ReturnsKept.bindings_of (fun _ => rfl) fun m x hx hh => ?_⟩
  · rw [ra_putRa] at hr'
    split at hr'
    · cases hr'; exact lawful
    · exact before r' hr'
  · have hm : n ≠ m := by rintro rfl; rw [free] at hx; cases hx
    exact ⟨x, by rw [ra_putRa, if_neg hm, hx], hh, rfl⟩

/-- A record that no lane holds can leave. -/
theorem removeRa_kept (s : State) (n : Nat) (r : Ra) (hr : s.ra n = some r) (unheld : r.held = false) :
    s.ReturnsKept (s.removeRa n) := by
  refine ⟨State.ReturnsKept.records_of (wf_remove _ n) fun m r' hr' before => ?_,
    State.ReturnsKept.bindings_of (fun _ => rfl) fun m x hx hh => ?_⟩
  · rw [ra_removeRa] at hr'
    split at hr'
    · cases hr'
    · exact before r' hr'
  · have hm : n ≠ m := by
      rintro rfl
      rw [hr] at hx
      cases hx
      rw [unheld] at hh
      cases hh
    exact ⟨x, by rw [ra_removeRa, if_neg hm, hx], hh, rfl⟩

theorem modItem_kept (s : State) (n : Nat) (f : Item → Item) : s.ReturnsKept (s.modItem n f) := .elsewhere

theorem modSlot_kept (s : State) (x : SlotId) (f : Slot → Slot) : s.ReturnsKept (s.modSlot x f) := .elsewhere

theorem modLane_kept (s : State) (l : LaneId) (f : Lane → Lane)
    (kept : ∀ x, (f x).boundRas = x.boundRas := by intro x; rfl) : s.ReturnsKept (s.modLane l f) :=
  .aside rfl fun m => by rw [modLane_lanes, quad_at_modify]; split <;> simp [kept]

theorem offer_kept (s : State) (item : Nat) (body : EventBody) : s.ReturnsKept (s.offer item body) :=
  .elsewhere (by simp) (by simp)

/-! ### What the records' own acts make of a record -/

/-- A line after its change is a line from before, or the changed one. -/
theorem mem_modLine {r : Ra} {i : Nat} {f : Line → Line} {x : Line} (h : x ∈ (r.modLine i f).lines) :
    x ∈ r.lines ∨ ∃ l, r.line i = some l ∧ x = f l := by
  unfold Ra.modLine at h
  split at h
  · exact .inl h
  · next hi =>
    obtain ⟨j, hj⟩ := List.mem_iff_getElem?.1 h
    rw [List.getElem?_modify] at hj
    obtain ⟨l, hl, hx⟩ := Option.map_eq_some_iff.1 hj
    split at hx
    · next hij => exact .inr ⟨l, (line_eq_some_iff r i l).2 ⟨hi, hij ▸ hl⟩, hx.symm⟩
    · exact .inl (List.mem_iff_getElem?.2 ⟨j, by rw [hl, ← hx]⟩)

theorem modLine_eq (r : Ra) (i : Nat) (f : Line → Line) :
    r.modLine i f = { r with lines := (r.modLine i f).lines } := by
  unfold Ra.modLine
  split <;> rfl

theorem modLine_lines_of_nil {r : Ra} (i : Nat) (f : Line → Line) (h : r.lines = []) : (r.modLine i f).lines = [] := by
  unfold Ra.modLine
  split
  · exact h
  · rw [h, List.modify_nil]

/-- A change that keeps the line lawful, of one line of a record. -/
theorem modLine_follows (r : Ra) (i : Nat) (f : Line → Line)
    (h : ∀ l, r.line i = some l → l.lawful = true → (f l).lawful = true) : r.Follows (r.modLine i f) := by
  refine ⟨fun lawful => ?_, by rw [modLine_eq]; rfl, by rw [modLine_eq]⟩
  rw [ra_lawful_iff] at lawful
  obtain ⟨timer, none, lane, lines⟩ := lawful
  have lines' : ∀ l ∈ (r.modLine i f).lines, l.lawful = true := fun x hx => by
    rcases mem_modLine hx with hx | ⟨l, hl, rfl⟩
    · exact lines x hx
    · exact h l hl (lines l (List.mem_of_getElem? ((line_eq_some_iff r i l).1 hl).2))
  rw [modLine_eq, ra_lawful_iff]
  exact ⟨timer, fun hp => modLine_lines_of_nil i f (none hp), lane, lines'⟩

/-- R45: a counted match is against a line with room. -/
theorem countMatch_follows {r : Ra} {i : Nat} {l : Line} (hl : r.line i = some l) (room : l.hasRoom = true)
    (res : MatchResult) (c : TagCode) : r.Follows (r.countMatch i res c) := by
  have lines := modLine_follows r i (fun l =>
    { l with received := l.received + 1, tags := if res = .exact then markReceived l.tags c else l.tags })
    fun x hx lawful => by
      rw [hl] at hx
      cases hx
      rw [line_lawful_iff] at lawful ⊢
      have marked : (markReceived l.tags c).length = l.tags.length := List.length_map ..
      refine ⟨of_decide_eq_true room, ?_⟩
      dsimp only
      split
      · rw [marked]; exact lawful.2
      · exact lawful.2
  exact ⟨lines.lawful, lines.held, lines.lane⟩

/-- R31, test 1: the lines of an admissible load are lawful. -/
theorem toLine_lawful {l : LineLoad} (h : LineLoad.inRange l = true) : (LineLoad.toLine l).lawful = true := by
  simp only [LineLoad.inRange, Bool.and_eq_true, decide_eq_true_eq] at h
  rw [line_lawful_iff]
  exact ⟨Nat.zero_le _, by simpa [LineLoad.toLine] using h.1.2⟩

theorem loadedLines_lawful {r : ReturnLoad} (h : loadInRange r = true) :
    ∀ l ∈ r.lines.map LineLoad.toLine, l.lawful = true := by
  simp only [loadInRange, Bool.and_eq_true, List.all_eq_true] at h
  intro l hl
  obtain ⟨x, hx, rfl⟩ := List.mem_map.1 hl
  exact toLine_lawful (h.2 x hx)

theorem loadedRecord_lawful {r : ReturnLoad} (h : loadInRange r = true) : (loadedRecord r).lawful = true :=
  lawful_of_unheld rfl rfl rfl (loadedLines_lawful h)

theorem fill_follows {p : Ra} {r : ReturnLoad} (hp : p.placeholder = true) (h : loadInRange r = true) :
    p.Follows (p.fill r) := by
  have held : p.held = true := by simp [Ra.held, hp]
  refine ⟨fun lawful => ?_, held.symm, rfl⟩
  obtain ⟨_, _, lane, _⟩ := (ra_lawful_iff p).1 lawful
  exact (ra_lawful_iff _).2 ⟨⟨nofun, nofun⟩, nofun, lane.trans held, loadedLines_lawful h⟩

theorem Ra.Follows.trans {r x y : Ra} (h : r.Follows x) (h' : x.Follows y) : r.Follows y :=
  ⟨h'.lawful ∘ h.lawful, h'.held.trans h.held, h'.lane.trans h.lane⟩

/-- A record that no lane holds can be placed in any other such state. -/
theorem place_follows {r : Ra} (unheld : r.held = false) (x : RaState) (closed : Bool)
    (hx : x = .loaded ∨ x = .complete ∨ x = .short) : r.Follows { r with state := x, closed := closed } := by
  have placed : ({ r with state := x, closed := closed } : Ra).held = false := (held_eq_false_iff _).2 hx
  have unexpected : r.state ≠ .expected := fun h => by simp [Ra.held, Ra.placeholder, h] at unheld
  refine ⟨fun lawful => ?_, placed.trans unheld.symm, rfl⟩
  have lane : r.boundLane = none := by simpa [unheld] using lane_of_lawful lawful
  exact lawful_of_unheld placed (timer_of_lawful (r := r) lawful unexpected) lane (lines_of_lawful (r := r) lawful)

/-- R35: an unbound record is written again, and stays unbound. -/
theorem amend_follows {r : Ra} (unheld : r.held = false) {label reason : Option Nat} {quantity : Option (Nat × Nat)}
    (h : r.amendInRange label reason quantity = true) : r.Follows (r.amend label reason quantity) := by
  have named : r.Follows { r with label := label.getD r.label, reason := reason.getD r.reason } := ⟨id, rfl, rfl⟩
  cases quantity with
  | none => exact named
  | some e =>
    obtain ⟨i, q⟩ := e
    have lined := named.trans <| modLine_follows _ i (fun l => { l with quantity := q }) fun l hl _ => by
      have hl : r.line i = some l := hl
      simp only [Ra.amendInRange, hl, Bool.and_eq_true, decide_eq_true_eq] at h
      exact (line_lawful_iff _).2 ⟨h.2.1.2, h.2.2⟩
    unfold Ra.amend Ra.replace
    dsimp only
    split
    · exact lined
    · exact lined.trans <| place_follows (lined.held.trans unheld) _ true <| by split <;> simp

/-- R30: an EXPECTED placeholder becomes OVERDUE and its timer goes. -/
theorem overdue_follows {r : Ra} (h : r.state = .expected) : r.Follows { r with state := .overdue, timer := none } := by
  have held : r.held = true := by simp [Ra.held, Ra.placeholder, h]
  refine ⟨fun lawful => ?_, held.symm, rfl⟩
  obtain ⟨_, none, lane, lines⟩ := (ra_lawful_iff r).1 lawful
  exact (ra_lawful_iff _).2 ⟨⟨nofun, nofun⟩, fun _ => none (by simp [Ra.placeholder, h]), lane.trans held, lines⟩

/-- R29: a timer runs down and is there as before. -/
theorem countDown_follows (r : Ra) : r.Follows { r with timer := countDown r.timer } := by
  refine ⟨fun lawful => ?_, rfl, rfl⟩
  obtain ⟨timer, rest⟩ := (ra_lawful_iff r).1 lawful
  exact (ra_lawful_iff _).2 ⟨by simpa [countDown] using timer, rest⟩

/-- R65: what settlement makes of a record. -/
theorem closing_lawful {r r' : Ra} (h : r.closing = some r') (lawful : r.lawful = true) : r'.lawful = true := by
  rw [closing_eq] at h
  split at h
  · cases h
  · next hp =>
    cases h
    have unexpected : r.state ≠ .expected := fun h => hp ((placeholder_iff r).2 (.inl h))
    refine lawful_of_unheld ((held_eq_false_iff _).2 ?_) (timer_of_lawful (r := r) lawful unexpected) rfl
      (lines_of_lawful (r := r) lawful)
    unfold Ra.settled
    split <;> simp

/-- R53: a LOADED or SHORT record as a parcel binds it. -/
theorem bind_lawful {r : Ra} (h : r.state ≠ .expected) (l : LaneId) (lawful : r.lawful = true) :
    (r.bind l).lawful = true :=
  (ra_lawful_iff _).2 ⟨by simp [Ra.bind, timer_of_lawful lawful h], nofun, rfl, lines_of_lawful (r := r) lawful⟩

/-- R48: a warm reset places a BOUND record, and leaves the others that it keeps. -/
theorem warm_lawful {r : Ra} (lawful : r.lawful = true) : r.warm.lawful = true := by
  unfold Ra.warm
  split
  · next bound =>
    refine lawful_of_unheld ((held_eq_false_iff _).2 ?_) (timer_of_lawful (r := r) lawful (by simp [bound])) rfl
      (lines_of_lawful (r := r) lawful)
    dsimp only
    repeat' split
    all_goals simp
  · exact lawful

/-! ### Settlement (R65) -/

theorem settleRa_wf (s : State) (n : Nat) (h : s.returns.records.wf = true) :
    (s.settleRa n).returns.records.wf = true := by
  unfold State.settleRa
  split
  · exact h
  · split
    · exact wf_remove _ n h
    · exact (wf_modify s.returns.records n _).trans h

theorem foldl_settleRa_wf (ns : List Nat) (s : State) (h : s.returns.records.wf = true) :
    (ns.foldl State.settleRa s).returns.records.wf = true := by
  induction ns generalizing s with
  | nil => exact h
  | cons n rest ih => exact ih _ (settleRa_wf s n h)

theorem settle_wf (s : State) (l : LaneId) (cause : EndCause) (retired : Nat) (h : s.returns.records.wf = true) :
    (s.settle l cause retired).returns.records.wf = true := by
  simpa [settle_eq, State.parcelSettled] using foldl_settleRa_wf (s.lanes.at l).boundRas s h

/-- The RAs of the settled lane name no other lane, so that the other lanes' RAs stay as they are. -/
theorem settle_kept (s : State) (l : LaneId) (cause : EndCause) (retired : Nat) :
    s.ReturnsKept (s.settle l cause retired) := by
  refine ⟨State.ReturnsKept.records_of (settle_wf s l cause retired) fun n r' hr' lawful => ?_, fun h => ?_⟩
  · rw [settle_ra] at hr'
    split at hr'
    · obtain ⟨r, hr, closed⟩ := Option.bind_eq_some_iff.1 hr'
      exact closing_lawful closed (lawful r hr)
    · exact lawful r' hr'
  · rw [bindingsLawful_iff] at h ⊢
    intro m
    rw [settle_lanes, quad_at_modify]
    split
    · exact ⟨List.nodup_nil, nofun⟩
    · next hm =>
      obtain ⟨nodup, bound⟩ := h m
      refine ⟨nodup, fun n hn => ?_⟩
      obtain ⟨r, hr, held, lane⟩ := bound n hn
      have other : n ∉ (s.lanes.at l).boundRas := fun hl => by
        obtain ⟨r', hr', _, lane'⟩ := (h l).2 n hl
        rw [hr] at hr'
        cases hr'
        rw [lane] at lane'
        exact hm (Option.some.inj lane').symm
      exact ⟨r, by rw [settle_ra, if_neg other, hr], held, lane⟩

theorem settlementTest_kept (s : State) (l : LaneId) : s.ReturnsKept (s.settlementTest l) := by
  unfold State.settlementTest
  split
  · exact settle_kept s l _ 0
  · exact .refl s

/-! ### Retirement and aborts (R13, R66) -/

theorem endTest_kept (s : State) : s.ReturnsKept s.endTest := .elsewhere (by simp) (by simp)

theorem afterRetirement_kept (s : State) (it : Item) (tell : Bool) : s.ReturnsKept (s.afterRetirement it tell) := by
  have told : ∀ u : State, u.ReturnsKept (if tell && !it.decided then u.settlementTest it.lane else u) := fun u => by
    split
    · exact settlementTest_kept u it.lane
    · exact .refl u
  have ended : ∀ u : State, u.ReturnsKept (if u.live = 0 then u.endTest else u) := fun u => by
    split
    · exact endTest_kept u
    · exact .refl u
  exact (State.ReturnsKept.elsewhere (releaseBank_returns s it.bank) (releaseBank_lanes s it.bank)).trans
    ((told _).trans (ended _))

theorem closeRecord_kept (s : State) (n : Nat) (it : Item) (final : EventBody) :
    s.ReturnsKept (s.closeRecord n it final) :=
  (modLane_kept s it.lane fun x => x.dropItem n).trans .elsewhere

theorem withdraw_kept (s : State) (n : Nat) (reason : WithdrawReason) (tell : Bool) :
    s.ReturnsKept (s.withdraw n reason tell) := by
  unfold State.withdraw
  split
  · exact .refl s
  · exact (closeRecord_kept s n _ _).trans (afterRetirement_kept _ _ _)

theorem abort_kept (s : State) (l : LaneId) (reason : WithdrawReason) (cause : EndCause) :
    s.ReturnsKept (s.abort l reason cause) := by
  have emptied := (State.ReturnsKept.foldl (fun u n => withdraw_kept u n reason false) (s.lanes.at l).queue s).trans
    (modLane_kept _ l fun x => { x with queue := [], verdict := .none, timer := none })
  unfold State.abort
  dsimp only
  split
  · exact emptied
  · exact emptied.trans (settle_kept _ _ _ _)

/-! ### Decisions (R45, R115, R117) -/

/-- R45: what a search counts, it counts against a line of a record that is there, with room. -/
theorem countFound_kept (s : State) (it : Item) : s.ReturnsKept (s.countFound it (s.searchFor it)) := by
  rcases found : s.searchFor it with ⟨r, f⟩
  cases counts : r.counts with
  | false => rw [countFound_of_not_counts f counts]; exact .refl s
  | true =>
    cases f with
    | none => exact .refl s
    | some f =>
      obtain ⟨hr, _, line, room⟩ := searchFor_counts found counts
      unfold State.countFound
      dsimp only
      split
      · rw [if_pos counts]
        refine modRa_kept s f.number _ fun x hx => ?_
        rw [hr] at hx
        cases hx
        exact countMatch_follows line room r _
      all_goals exact .refl s

theorem decideItem_kept (s : State) (n : Nat) : s.ReturnsKept (s.decideItem n) := by
  cases live : s.item n with
  | none => simp only [State.decideItem, live]; exact .refl s
  | some it =>
    cases undecided : it.decided with
    | true => simp only [State.decideItem, live, undecided]; exact .refl s
    | false =>
      rw [decideItem_of_undecided s n it live undecided]
      exact (countFound_kept s it).trans <| (modItem_kept _ n _).trans <|
        (modLane_kept _ it.lane fun x => x.stopTimer n).trans <| (offer_kept _ _ _).trans <|
        (State.ReturnsKept.foldl (fun u f => offer_kept u n _) _ _).trans (settlementTest_kept _ _)

theorem testItem_kept (s : State) (n : Nat) : s.ReturnsKept (s.testItem n) := by
  unfold State.testItem
  split
  · exact .refl s
  · split
    · exact decideItem_kept s n
    · exact .refl s

theorem retest_kept (s : State) (l : LaneId) : s.ReturnsKept (s.retest l) := by
  refine State.ReturnsKept.foldl (fun u n => ?_) _ s
  split
  · exact .refl u
  · split
    · exact testItem_kept u n
    · exact .refl u

/-! ### The requests of the Item Table (R15 to R18) -/

theorem kept_of_state_eq {act : State → Answer} (h : ∀ u, (act u).state = u) (u : State) :
    u.ReturnsKept (act u).state := by
  rw [h]; exact .refl u

theorem withdrawItem_kept (n : Nat) (s : State) : s.ReturnsKept (withdrawItem n s).state := by
  unfold withdrawItem
  repeat' split
  exacts [.refl s, withdraw_kept s n .host true, .elsewhere]

theorem forceGrade_kept (n : Nat) (grade : Coded Grade) (s : State) : s.ReturnsKept (forceGrade n grade s).state := by
  unfold forceGrade
  repeat' split
  · exact .refl s
  · exact .refl s
  · exact (modItem_kept s n _).trans (offer_kept _ n _)
  · exact (modItem_kept s n _).trans <| (modLane_kept _ _ fun x => x.stopTimer n).trans <|
      (offer_kept _ n _).trans (settlementTest_kept _ _)

/-! ### The Station Bus (R71 to R88) -/

theorem noteValid_kept (s : State) (x : SlotId) : s.ReturnsKept (s.endTurn.noteValid x) := .elsewhere

theorem takeAnswer_kept (s : State) (a : AnswerHead) (fromRole : Role → Bool) (dataOk : Bool)
    (act : SlotId → State → State) (h : ∀ x u, State.ReturnsKept u (act x u)) :
    s.ReturnsKept (s.takeAnswer a fromRole dataOk act) := by
  unfold State.takeAnswer
  repeat' split
  exacts [.refl s, (noteValid_kept s _).trans (h _ _), .elsewhere, .elsewhere]

theorem takeGarbled_kept (s : State) : s.ReturnsKept s.takeGarbled := by
  unfold State.takeGarbled
  repeat' split
  all_goals exact .elsewhere

theorem turnPassed_kept (s : State) (partialAnswer : Bool) : s.ReturnsKept (s.turnPassed partialAnswer) := by
  unfold State.turnPassed
  repeat' split
  all_goals exact .elsewhere

theorem deliver_kept (s : State) (x : SlotId) (ticket : Nat) (kind : ReportKind) (write : Item → Item) :
    s.ReturnsKept (s.deliver x ticket kind write) := by
  unfold State.deliver
  repeat' split
  exacts [offer_kept _ _ _, offer_kept _ _ _, (modItem_kept s _ _).trans (testItem_kept _ _), offer_kept _ _ _,
    offer_kept _ _ _]

theorem loseRole_kept (s : State) (r : Role) (n : Nat) : s.ReturnsKept (s.loseRole r n) := by
  unfold State.loseRole
  repeat' split
  exacts [.refl s, (modItem_kept s n _).trans (testItem_kept _ n), .refl s]

theorem roleDown_kept (s : State) (x : SlotId) : s.ReturnsKept (s.roleDown x) := by
  unfold State.roleDown
  split
  · exact State.ReturnsKept.foldl (fun u n => loseRole_kept u x.role n) _ s
  · exact .refl s

theorem scoreSlot_kept (s : State) (x : SlotId) : s.ReturnsKept (s.scoreSlot x) := by
  unfold State.scoreSlot
  split
  · exact .refl s
  · next o _ =>
    dsimp only
    refine (modSlot_kept s x fun _ => (s.slot x).scored o).trans ?_
    repeat' split
    exacts [(modSlot_kept _ x _).trans <| (offer_kept _ _ _).trans (roleDown_kept _ x),
      (modSlot_kept _ x _).trans (offer_kept _ _ _), .refl _]

theorem sweepExpiry_kept (s : State) : s.ReturnsKept s.sweepExpiry := by
  have closed : s.ReturnsKept s.closeSweep := by
    unfold State.closeSweep
    split
    · exact .refl s
    · exact (State.ReturnsKept.foldl scoreSlot_kept _ s).trans .elsewhere
  have begun : s.closeSweep.ReturnsKept s.closeSweep.beginSweep := by
    unfold State.beginSweep
    dsimp only
    split
    · exact .refl _
    · exact .aside rfl fun l => by simp
  exact closed.trans <| begun.trans .elsewhere

theorem enrolStation_kept (lane : Nat) (role : Coded Role) (address : Nat) (s : State) :
    s.ReturnsKept (enrolStation lane role address s).state := by
  unfold enrolStation
  repeat' split
  exacts [.refl s, .refl s, .refl s, .refl s, .refl s, modSlot_kept s _ _]

theorem retireStation_kept (lane : Nat) (role : Coded Role) (s : State) :
    s.ReturnsKept (retireStation lane role s).state := by
  unfold retireStation
  repeat' split
  exacts [.refl s, .refl s, .refl s, modSlot_kept s _ _]

theorem readStation_kept (lane : Nat) (role : Coded Role) (s : State) :
    s.ReturnsKept (readStation lane role s).state := by
  unfold readStation
  split
  exacts [.refl s, modSlot_kept s _ _]

/-! ### The Return Table (R29 to R38) -/

theorem loadReturn_kept (r : ReturnLoad) (s : State) : s.ReturnsKept (loadReturn r s).state := by
  unfold loadReturn
  split
  · exact .refl s
  · next inRange =>
    have inRange : loadInRange r = true := by simpa using inRange
    repeat' split
    · exact .refl s
    · exact .refl s
    · next free _ => exact putRa_kept s r.ra _ free (loadedRecord_lawful inRange)
    · exact .refl s
    · exact .refl s
    · exact .refl s
    · next p hp unfilled _ _ =>
      have filled : s.ReturnsKept (s.modRa r.ra fun _ => p.fill r) := modRa_kept s r.ra _ fun x hx => by
        rw [hp] at hx
        cases hx
        exact fill_follows (by simpa using unfilled) inRange
      refine filled.trans ?_
      cases p.boundLane with
      | none => exact .refl _
      | some l => exact retest_kept _ l

theorem addTags_kept (n index : Nat) (codes : List TagCode) (s : State) :
    s.ReturnsKept (addTags n index codes s).state := by
  unfold addTags
  repeat' split
  · exact .refl s
  · exact .refl s
  · exact .refl s
  · exact .refl s
  · exact .refl s
  · exact .refl s
  · next r hr _ _ l hl inRange _ _ =>
    refine modRa_kept s n _ fun x hx => modLine_follows x index _ fun m hm lawful => ?_
    rw [hr] at hx
    cases hx
    rw [hl] at hm
    cases hm
    simp only [Bool.or_eq_true, decide_eq_true_eq, not_or, not_lt] at inRange
    rw [line_lawful_iff] at lawful ⊢
    exact ⟨lawful.1, by simpa using inRange.2⟩

theorem amendReturn_kept (n : Nat) (label reason : Option Nat) (quantity : Option (Nat × Nat)) (s : State) :
    s.ReturnsKept (amendReturn n label reason quantity s).state := by
  unfold amendReturn
  repeat' split
  · exact .refl s
  · exact .refl s
  · exact .refl s
  · next r hr unheld inRange =>
    refine modRa_kept s n _ fun x hx => ?_
    rw [hr] at hx
    cases hx
    exact amend_follows (by simpa using unheld) (by simpa using inRange)

theorem removeReturn_kept (n : Nat) (s : State) : s.ReturnsKept (removeReturn n s).state := by
  unfold removeReturn
  repeat' split
  · exact .refl s
  · exact .refl s
  · next r hr unheld => exact removeRa_kept s n r hr (by simpa using unheld)

theorem manifestExpiry_kept (s : State) (n : Nat) : s.ReturnsKept (s.manifestExpiry n) := by
  have overdue : ∀ r, s.ra n = some r → r.state = .expected → s.ReturnsKept (s.manifestOverdue n r) :=
    fun r hr expected => by
      unfold State.manifestOverdue
      refine (modRa_kept s n (fun x => { x with state := .overdue, timer := none }) fun x hx => ?_).trans ?_
      · rw [hr] at hx
        cases hx
        exact overdue_follows expected
      · dsimp only
        split
        · exact .refl _
        · exact (offer_kept _ _ _).trans (retest_kept _ _)
  unfold State.manifestExpiry
  repeat' split
  · exact .refl s
  · exact .refl s
  · next r hr _ _ _ due => exact overdue r hr (of_decide_eq_true (Bool.and_eq_true_iff.1 due).1)
  · exact .refl s

/-! ### OPEN PARCEL (R51 to R53) -/

/-- A pair at which the tests of R52 find no fault names no record, or one that no lane holds. -/
theorem unheld_of_pairFault {s : State} {account earlier : Nat} {pair : Nat × Nat}
    (h : s.pairFault account earlier pair = none) {r : Ra} (hr : s.ra pair.1 = some r) : r.held = false := by
  unfold State.pairFault at h
  rw [hr] at h
  cases state : r.state with
  | loaded | complete | short => exact (held_eq_false_iff r).2 (by simp [state])
  | bound | expected | overdue => simp [state] at h

theorem unheld_of_firstPairFault {s : State} {account earlier : Nat} {pairs : List (Nat × Nat)}
    (h : s.firstPairFault account earlier pairs = none) {pair : Nat × Nat} (hp : pair ∈ pairs) {r : Ra}
    (hr : s.ra pair.1 = some r) : r.held = false := by
  induction pairs generalizing earlier with
  | nil => cases hp
  | cons p rest ih =>
    unfold State.firstPairFault at h
    split at h
    · cases h
    · next noFault =>
      rcases List.mem_cons.1 hp with rfl | hp
      · exact unheld_of_pairFault noFault hr
      · exact ih h hp

/-- The record that binding a pair leaves under the pair's number (R53). -/
def State.boundRecord (s : State) (l : LaneId) (account : Nat) (pair : Nat × Nat) : Ra :=
  match s.ra pair.1 with
  | some r => r.bind l
  | none => placeholder account pair.2 l s.line.manifestWait

theorem bindPair_eq (s : State) (l : LaneId) (account : Nat) (pair : Nat × Nat) :
    s.bindPair l account pair = s.putRa pair.1 (s.boundRecord l account pair) := by
  unfold State.bindPair State.boundRecord
  cases s.ra pair.1 <;> rfl

theorem boundRecord_held (s : State) (l : LaneId) (account : Nat) (pair : Nat × Nat) :
    (s.boundRecord l account pair).held = true ∧ (s.boundRecord l account pair).boundLane = some l := by
  unfold State.boundRecord
  split <;> exact ⟨rfl, rfl⟩

theorem boundRecord_lawful {s : State} (l : LaneId) (account : Nat) {pair : Nat × Nat}
    (h : ∀ r, s.ra pair.1 = some r → r.held = false ∧ r.lawful = true) :
    (s.boundRecord l account pair).lawful = true := by
  unfold State.boundRecord
  split
  · next r hr =>
    obtain ⟨unheld, lawful⟩ := h r hr
    exact bind_lawful (fun e => by simp [Ra.held, Ra.placeholder, e] at unheld) l lawful
  · rfl

/-- Binding a pair leaves what another pair's binding looks at. -/
theorem boundRecord_bindPair (s : State) (l : LaneId) (account : Nat) (p q : Nat × Nat) (h : p.1 ≠ q.1) :
    (s.bindPair l account p).boundRecord l account q = s.boundRecord l account q := by
  have ra : (s.bindPair l account p).ra q.1 = s.ra q.1 := by rw [bindPair_eq, ra_putRa, if_neg h]
  have line : (s.bindPair l account p).line = s.line := by rw [bindPair_eq]; rfl
  unfold State.boundRecord
  rw [ra, line]

theorem bindPair_wf (s : State) (l : LaneId) (account : Nat) (pair : Nat × Nat) (h : s.returns.records.wf = true) :
    (s.bindPair l account pair).returns.records.wf = true := by
  rw [bindPair_eq]
  exact wf_put _ _ _ h

section Bound

variable (l : LaneId) (account : Nat)

/-- The state with every pair bound, the lane as it was (R53). -/
def State.pairsBound (s : State) (pairs : List (Nat × Nat)) : State :=
  pairs.foldl (fun u p => u.bindPair l account p) s

theorem pairsBound_lanes (s : State) (pairs : List (Nat × Nat)) : (s.pairsBound l account pairs).lanes = s.lanes :=
  foldl_keeps (fun x => x.lanes) _ (fun u p => by rw [bindPair_eq]; rfl) pairs s

theorem pairsBound_wf (s : State) (pairs : List (Nat × Nat)) (h : s.returns.records.wf = true) :
    (s.pairsBound l account pairs).returns.records.wf = true := by
  induction pairs generalizing s with
  | nil => exact h
  | cons p rest ih => exact ih _ (bindPair_wf s l account p h)

/-- Numbers that no pair names keep their records. -/
theorem ra_pairsBound_other (s : State) (pairs : List (Nat × Nat)) {n : Nat} (h : n ∉ pairs.map (·.1)) :
    (s.pairsBound l account pairs).ra n = s.ra n := by
  induction pairs generalizing s with
  | nil => rfl
  | cons p rest ih =>
    obtain ⟨hp, hr⟩ := not_or.1 (mt List.mem_cons.2 h)
    refine (ih (s.bindPair l account p) hr).trans ?_
    rw [bindPair_eq, ra_putRa, if_neg (Ne.symm hp)]

/-- Each pair's number has the record of its binding, when no number is named twice. -/
theorem ra_pairsBound (s : State) (pairs : List (Nat × Nat)) (nodup : (pairs.map (·.1)).Nodup) {p : Nat × Nat}
    (hp : p ∈ pairs) : (s.pairsBound l account pairs).ra p.1 = some (s.boundRecord l account p) := by
  induction pairs generalizing s with
  | nil => cases hp
  | cons q rest ih =>
    obtain ⟨hq, nodup⟩ := List.nodup_cons.1 nodup
    rcases List.mem_cons.1 hp with rfl | hp
    · refine (ra_pairsBound_other l account (s.bindPair l account p) rest hq).trans ?_
      rw [bindPair_eq, ra_putRa, if_pos rfl]
    · have other : q.1 ≠ p.1 := fun e => hq (List.mem_map.2 ⟨p, hp, e.symm⟩)
      exact (ih (s.bindPair l account q) nodup hp).trans (congrArg some (boundRecord_bindPair s l account q p other))

end Bound

/-- R53: the RAs that the parcel binds were held by no lane, and are its own now. -/
theorem openedParcel_kept (s : State) (l : LaneId) (account : Nat) (pairs : List (Nat × Nat))
    (nodup : (pairs.map (·.1)).Nodup) (unheld : ∀ p ∈ pairs, ∀ r, s.ra p.1 = some r → r.held = false) :
    s.ReturnsKept (s.openParcel l account pairs) := by
  have ra : ∀ n, (s.openParcel l account pairs).ra n = (s.pairsBound l account pairs).ra n := fun _ => rfl
  have lanes : (s.openParcel l account pairs).lanes = s.lanes.modify l fun x => x.opening account (pairs.map (·.1)) :=
    by
    rw [← pairsBound_lanes l account s pairs]; rfl
  refine ⟨State.ReturnsKept.records_of (pairsBound_wf l account s pairs) fun n r' hr' lawful => ?_, fun h => ?_⟩
  · rw [ra] at hr'
    by_cases hn : n ∈ pairs.map (·.1)
    · obtain ⟨p, hp, rfl⟩ := List.mem_map.1 hn
      rw [ra_pairsBound l account s pairs nodup hp] at hr'
      cases hr'
      exact boundRecord_lawful l account fun r hr => ⟨unheld p hp r hr, lawful r hr⟩
    · rw [ra_pairsBound_other l account s pairs hn] at hr'
      exact lawful r' hr'
  · rw [bindingsLawful_iff] at h ⊢
    intro m
    rw [lanes, quad_at_modify]
    split
    · next hm =>
      subst hm
      refine ⟨nodup, fun n hn => ?_⟩
      obtain ⟨p, hp, rfl⟩ := List.mem_map.1 hn
      obtain ⟨held, lane⟩ := boundRecord_held s l account p
      exact ⟨_, (ra p.1).trans (ra_pairsBound l account s pairs nodup hp), held, lane⟩
    · obtain ⟨nodup', bound⟩ := h m
      refine ⟨nodup', fun n hn => ?_⟩
      obtain ⟨r, hr, held, lane⟩ := bound n hn
      have other : n ∉ pairs.map (·.1) := fun hn => by
        obtain ⟨p, hp, rfl⟩ := List.mem_map.1 hn
        rw [unheld p hp r hr] at held
        cases held
      exact ⟨r, (ra n).trans ((ra_pairsBound_other l account s pairs other).trans hr), held, lane⟩

theorem openParcel_kept (lane account : Nat) (pairs : List (Nat × Nat)) (s : State) :
    s.ReturnsKept (openParcel lane account pairs s).state := by
  unfold openParcel
  repeat' split
  · exact .refl s
  · exact .refl s
  · exact .refl s
  · exact .refl s
  · exact .refl s
  · exact .refl s
  · exact .refl s
  · next once _ noFault =>
    exact openedParcel_kept s _ account pairs ((hasRepeat_eq_false_iff _).1 (Bool.eq_false_iff.2 once))
      fun p hp r hr => unheld_of_firstPairFault noFault hp hr

/-! ### The Lane Controllers (R55 to R66) -/

theorem presented_kept (s : State) (l : LaneId) : s.ReturnsKept (s.presented l) := by
  have created : ∀ number ticket, s.ReturnsKept (s.createItem l number ticket) := fun number ticket =>
    .aside rfl fun m => by
      show ((s.lanes.modify l _).at m).boundRas = _
      rw [quad_at_modify]
      split <;> rfl
  have afresh : s.ReturnsKept (s.presentAfresh l) := by
    unfold State.presentAfresh State.admission
    repeat' split
    exacts [(created _ _).trans (testItem_kept _ _), .refl s, modLane_kept s l _]
  unfold State.presented
  split
  exacts [.refl s, afresh, afresh]

theorem arrive_kept (s : State) (l : LaneId) (n : Nat) : s.ReturnsKept (s.arrive l n) := by
  unfold State.arrive
  repeat' split
  exacts [.refl s, (modItem_kept s n _).trans (modLane_kept _ l _), modItem_kept s n _, .refl s, .refl s, .refl s]

theorem atEnd_kept (s : State) (l : LaneId) (ticket : Nat) : s.ReturnsKept (s.atEnd l ticket) := by
  unfold State.atEnd
  dsimp only
  split
  · exact offer_kept _ _ _
  · exact (State.ReturnsKept.foldl (fun u m => withdraw_kept u m .skipped true) _ s).trans (arrive_kept _ l _)

theorem decisionExpiry_kept (s : State) (l : LaneId) : s.ReturnsKept (s.decisionExpiry l) := by
  have atOnce : ∀ (u : State) n, u.ReturnsKept (u.decideAtOnce n) := fun u n => by
    unfold State.decideAtOnce
    repeat' split
    exacts [.refl u, .refl u, (modItem_kept u n _).trans (decideItem_kept _ _)]
  unfold State.decisionExpiry
  repeat' split
  exacts [.refl s, (modLane_kept s l fun x => { x with timer := none }).trans (atOnce _ _), .refl s]

theorem close_kept (s : State) (l : LaneId) (cause : CloseCause) : s.ReturnsKept (s.close l cause) :=
  (modLane_kept s l _).trans (settlementTest_kept _ l)

theorem closeParcel_kept (lane : Nat) (s : State) : s.ReturnsKept (closeParcel lane s).state := by
  unfold closeParcel
  repeat' split
  exacts [.refl s, .refl s, close_kept s _ _, .refl s]

theorem parcelDone_kept (s : State) (l : LaneId) : s.ReturnsKept (s.parcelDone l) := by
  unfold State.parcelDone
  split
  exacts [.refl s, close_kept s l _, .refl s]

theorem abortLane_kept (lane : Nat) (s : State) : s.ReturnsKept (abortLane lane s).state := by
  unfold abortLane
  split
  exacts [.refl s, abort_kept s _ _ _]

/-! ### The Plan Store and the Destination Controller (R99 to R108, R155 to R166) -/

theorem writeBank_kept (inRange : Bool) (f : Bank → Bank) (s : State) :
    s.ReturnsKept (s.writeBank inRange f).state := by
  unfold State.writeBank
  repeat' split
  all_goals exact .elsewhere

theorem writeCheck_kept (number : Nat) (fields : CheckFields) (s : State) :
    s.ReturnsKept (writeCheck number fields s).state := by
  unfold writeCheck
  split <;> exact writeBank_kept _ _ s

theorem clearBank_kept (s : State) : s.ReturnsKept (clearBank s).state := by
  unfold clearBank
  split <;> exact .elsewhere

theorem validatePlan_kept (s : State) : s.ReturnsKept (validatePlan s).state := by
  unfold validatePlan
  repeat' split
  all_goals exact .elsewhere

theorem switchPlan_kept (s : State) : s.ReturnsKept (switchPlan s).state := by
  have switched : s.ReturnsKept s.switchBanks := by
    unfold State.switchBanks
    cases s.activeBank <;> exact .elsewhere (by simp) (by simp)
  unfold switchPlan
  repeat' split
  exacts [.elsewhere, .elsewhere, switched]

theorem setShadow_kept (value : Coded OnOff) (s : State) : s.ReturnsKept (setShadow value s).state := by
  unfold setShadow
  split <;> exact .elsewhere

theorem addTote_kept (d tote capacity weightLimit warnAt : Nat) (pause lotEnd : Coded Mark) (s : State) :
    s.ReturnsKept (addTote d tote capacity weightLimit warnAt pause lotEnd s).state := by
  unfold addTote
  repeat' split
  all_goals exact .elsewhere

theorem advance_kept (s : State) (d : Nat) : s.ReturnsKept (s.advance d) := .elsewhere (by simp) (by simp)

theorem complete_kept (s : State) (d : Nat) (t : Tote) (reason : CompletionReason) (item : Nat) :
    s.ReturnsKept (s.complete d t reason item) := .elsewhere (by simp) (by simp)

theorem modDest_kept (s : State) (d : Nat) (f : Destination → Destination) : s.ReturnsKept (s.modDest d f) := .elsewhere

theorem confirmSwap_kept (d : Nat) (s : State) : s.ReturnsKept (confirmSwap d s).state := by
  unfold confirmSwap
  repeat' split
  exacts [.refl s, advance_kept s d, .refl s, .refl s, .refl s]

theorem setLimit_kept (d : Nat) (limit : Option Nat) (s : State) : s.ReturnsKept (setLimit d limit s).state := by
  have released : ∀ u : State, u.ReturnsKept (u.releaseLimit d) := fun u => by
    unfold State.releaseLimit
    repeat' split
    exacts [.refl u, advance_kept u d, .refl u, .refl u, .refl u]
  unfold setLimit
  split
  exacts [.refl s, (modDest_kept s d _).trans (released _)]

theorem closeTote_kept (d tote : Nat) (s : State) : s.ReturnsKept (closeTote d tote s).state := by
  unfold closeTote
  repeat' split
  exacts [.refl s, .refl s, .refl s, complete_kept s d _ .forced 0, .refl s, .refl s]

theorem dropChain_kept (d : Nat) (s : State) : s.ReturnsKept (dropChain d s).state := by
  unfold dropChain
  split <;> exact .elsewhere

/-! ### The Sorter Tracker (R133 to R147) -/

theorem countDraw_kept (s : State) (choices : Nat) : s.ReturnsKept (s.countDraw choices) :=
  .elsewhere (by simp) (by simp)

theorem setPause_kept (s : State) (why : PauseCause) (cause : LineCause) : s.ReturnsKept (s.setPause why cause) :=
  .elsewhere (by simp) (by simp)

theorem grant_kept (s : State) (l : LaneId) (n carrier : Nat) : s.ReturnsKept (s.grant l n carrier) :=
  .aside rfl fun m => by
    show ((s.lanes.modify l _).at m).boundRas = _
    rw [quad_at_modify]
    split <;> rfl

theorem mergeWork_kept (s : State) : s.ReturnsKept s.mergeWork := by
  unfold State.mergeWork
  dsimp only
  repeat' split
  · exact modItem_kept s _ _
  · exact grant_kept s _ _ _
  · exact .refl s
  · exact .refl s

theorem fireGate_kept (s : State) (g : Nat) : s.ReturnsKept (s.fireGate g) := .elsewhere

theorem afterDrop_kept (s : State) (d : Nat) (t : Tote) (item : Nat) : s.ReturnsKept (s.afterDrop d t item) :=
  .elsewhere (by simp) (by simp)

theorem claim_kept (s : State) (n : Nat) (it : Item) (d : Nat) : s.ReturnsKept (s.claim n it d) := by
  unfold State.claim
  dsimp only
  repeat' split
  · exact .refl s
  · exact .refl s
  · exact modItem_kept s n _
  · exact complete_kept s d _ _ n
  · exact (modDest_kept s d _).trans <| (fireGate_kept _ d).trans <| (closeRecord_kept _ n it _).trans <|
      (afterDrop_kept _ d _ n).trans (afterRetirement_kept _ it true)

theorem gateWork_kept (s : State) (g : Nat) : s.ReturnsKept (s.gateWork g) := by
  unfold State.gateWork
  repeat' split
  · exact .refl s
  · exact .refl s
  · exact claim_kept s _ _ _
  · exact .refl s
  · exact (fireGate_kept s 16).trans <| (closeRecord_kept _ _ _ _).trans (afterRetirement_kept _ _ true)
  · exact .refl s

theorem pitch_kept (s : State) : s.ReturnsKept s.pitch := by
  have act : ∀ (u : State) a, u.ReturnsKept (u.pitchAct a) := fun u a => by
    cases a with
    | indexMissing => exact (offer_kept u _ _).trans (setPause_kept _ _ _)
    | merge => exact mergeWork_kept u
    | gate g => exact gateWork_kept u g
  exact (State.ReturnsKept.elsewhere (t := { s with sorter := s.sorter.advance })).trans <|
    (State.ReturnsKept.foldl act _ _).trans (countDraw_kept _ _)

theorem indexEdge_kept (s : State) : s.ReturnsKept s.indexEdge := by
  unfold State.indexEdge
  repeat' split
  exacts [.elsewhere, .elsewhere (by simp [State.slip]) (by simp [State.slip]), .elsewhere]

/-! ### The Line Controller (R172 to R183) -/

theorem offerLineState_kept (s : State) (line : LineControl) (cause : LineCause) :
    s.ReturnsKept (State.offerLineState { s with line := line } cause) := .elsewhere (by simp) (by simp)

theorem holdLevel_kept (s : State) (high : Bool) : s.ReturnsKept (s.holdLevel high) := by
  unfold State.holdLevel
  split
  exacts [.refl s, offerLineState_kept s _ _]

theorem startLine_kept (s : State) : s.ReturnsKept (startLine s).state := by
  unfold startLine
  repeat' split
  exacts [.refl s, .refl s, .refl s, .refl s, .refl s, offerLineState_kept s _ _]

theorem cutLanes_kept (s : State) : s.ReturnsKept s.cutLanes :=
  (State.ReturnsKept.foldl (fun u l => abort_kept u l .cut .cut) _ s).trans <|
    (State.ReturnsKept.foldl (fun u l => abort_kept u l .cut .cut) _ _).trans (countDraw_kept _ _)

theorem clearPause_kept (s : State) : s.ReturnsKept s.clearPause := by
  unfold State.clearPause
  split
  exacts [offerLineState_kept s _ _, .refl s]

theorem stopAs_kept (s : State) (kind : StopKind) : s.ReturnsKept (s.stopAs kind) := by
  have stopped : s.ReturnsKept
      (State.offerLineState { s with line := { s.line with mode := .draining kind } } .stop).endTest :=
    (offerLineState_kept s _ .stop).trans (endTest_kept _)
  unfold State.stopAs
  cases kind with
  | drain => exact stopped
  | cut => exact stopped.trans <| (cutLanes_kept _).trans .elsewhere

theorem stopLine_kept (kind : Coded StopKind) (s : State) : s.ReturnsKept (stopLine kind s).state := by
  have stopped : ∀ kind, s.ReturnsKept (s.stop kind) := fun kind => by
    unfold State.stop
    split
    exacts [.refl s, stopAs_kept s _, stopAs_kept s _, .refl s, .refl s]
  unfold stopLine
  repeat' split
  exacts [.refl s, .refl s, stopped _]

theorem configure_kept (name : SettingName) (value : SettingValue) (s : State) :
    s.ReturnsKept (configure name value s).state := by
  have written : s.ReturnsKept (s.writeSetting name value) := by
    unfold State.writeSetting
    split <;> exact .elsewhere
  unfold configure
  repeat' split
  exacts [.refl s, .refl s, .refl s, written]

/-- A reset unbinds every RA. -/
theorem bindings_of_unbound {t : State} (h : ∀ l, (t.lanes.at l).boundRas = []) : t.bindingsLawful = true :=
  (bindingsLawful_iff t).2 fun l => by rw [h]; exact ⟨List.nodup_nil, nofun⟩

theorem warm_kept (s : State) : s.ReturnsKept s.warm := by
  refine ⟨fun h => ?_, fun _ => bindings_of_unbound fun l => by simp [State.warm, Lane.warm, Lane.cold]⟩
  obtain ⟨wf, lawful⟩ := (returnsLawful_iff s).1 h
  refine (returnsLawful_iff _).2 ⟨returns_warm_wf s.returns wf, fun n r' hr' => ?_⟩
  obtain ⟨r, hr, rfl⟩ := Option.map_eq_some_iff.1 ((lookup_mapValues _ Ra.warm n).symm.trans hr')
  exact warm_lawful (lawful n r ((lookup_filter_values s.returns.records wf (fun r => !r.placeholder) n r).1 hr).1)

theorem cold_kept (s : State) (holdHigh : Bool) (strap : LinkRate) (pending : List Instr) (draws : Nat) :
    s.ReturnsKept (State.cold holdHigh strap pending draws) :=
  ⟨fun _ => rfl, fun _ => bindings_of_unbound fun l => by cases l <;> rfl⟩

/-! ### The clock and the link (R29, R171, R184 to R191) -/

/-- R29: the timers run down where they are. -/
theorem countDown_kept (s : State) : s.ReturnsKept { s with returns := s.returns.countDown } := by
  have ra : ∀ n, ({ s with returns := s.returns.countDown } : State).ra n =
      (s.ra n).map fun r => { r with timer := countDown r.timer } := fun n => lookup_mapValues s.returns.records _ n
  have wf := wf_mapValues s.returns.records fun r => { r with timer := countDown r.timer }
  refine ⟨State.ReturnsKept.records_of (fun hw => wf.trans hw) fun n r' hr' lawful => ?_,
    State.ReturnsKept.bindings_of (fun _ => rfl) fun n r hr hh => ?_⟩
  · rw [ra] at hr'
    obtain ⟨r, hr, rfl⟩ := Option.map_eq_some_iff.1 hr'
    exact (countDown_follows r).lawful (lawful r hr)
  · exact ⟨_, by rw [ra, hr]; rfl, (countDown_follows r).held.trans hh, (countDown_follows r).lane⟩

theorem tick_kept (s : State) : s.ReturnsKept s.tick := by
  have waits : s.ReturnsKept s.countWaits := by
    unfold State.countWaits
    split
    · exact .refl s
    · exact (countDown_kept s).trans (.aside rfl fun l => by simp [Lane.countDown])
  exact waits.trans <| (State.ReturnsKept.elsewhere).trans (countDraw_kept _ _)

theorem fetchEvents_kept (count : Nat) (s : State) : s.ReturnsKept (fetchEvents count s).state := by
  unfold fetchEvents
  split <;> exact .elsewhere

theorem serve_kept (s : State) (tag kind : Nat) (act : State → Answer)
    (h : ∀ u : State, u.ReturnsKept (act u).state) : s.ReturnsKept (s.serve tag kind act) := by
  have taken : s.ReturnsKept s.frameTaken := .elsewhere
  unfold State.serve
  dsimp only
  split
  · exact taken.trans (.elsewhere (by simp) (by simp))
  · exact taken.trans <| (h _).trans (.elsewhere (by simp) (by simp))

/-! ### Every step -/

theorem request_kept (c : Instr) (tag kind : Nat) (act : State → Answer) (h : requestAct c = some (tag, kind, act))
    (u : State) : u.ReturnsKept (act u).state := by
  cases c with
  | readItem tag item => cases h; exact kept_of_state_eq (readItem_state item) u
  | withdrawItem tag item => cases h; exact withdrawItem_kept item u
  | forceGrade tag item grade => cases h; exact forceGrade_kept item grade u
  | loadReturn tag load => cases h; exact loadReturn_kept load u
  | addTags tag ra line codes => cases h; exact addTags_kept ra line codes u
  | amendReturn tag ra label reason quantity => cases h; exact amendReturn_kept ra label reason quantity u
  | removeReturn tag ra => cases h; exact removeReturn_kept ra u
  | readReturn tag ra line => cases h; exact kept_of_state_eq (readReturn_state ra line) u
  | openParcel tag lane account pairs => cases h; exact openParcel_kept lane account pairs u
  | closeParcel tag lane => cases h; exact closeParcel_kept lane u
  | abortLane tag lane => cases h; exact abortLane_kept lane u
  | enrolStation tag lane role address => cases h; exact enrolStation_kept lane role address u
  | retireStation tag lane role => cases h; exact retireStation_kept lane role u
  | readStation tag lane role => cases h; exact readStation_kept lane role u
  | writeCheck tag number fields => cases h; exact writeCheck_kept number fields u
  | writeList | writeProgram | writeThresholds | writeMap => cases h; exact writeBank_kept _ _ u
  | clearBank tag => cases h; exact clearBank_kept u
  | validatePlan tag => cases h; exact validatePlan_kept u
  | switchPlan tag => cases h; exact switchPlan_kept u
  | setShadow tag value => cases h; exact setShadow_kept value u
  | addTote tag dest tote capacity weightLimit warnAt pause lotEnd =>
    cases h; exact addTote_kept dest tote capacity weightLimit warnAt pause lotEnd u
  | confirmSwap tag dest => cases h; exact confirmSwap_kept dest u
  | setLimit tag dest limit => cases h; exact setLimit_kept dest limit u
  | closeTote tag dest tote => cases h; exact closeTote_kept dest tote u
  | dropChain tag dest => cases h; exact dropChain_kept dest u
  | readDestination tag dest => cases h; exact kept_of_state_eq (readDestination_state dest) u
  | startLine tag => cases h; exact startLine_kept u
  | pauseLine tag => cases h; exact setPause_kept u _ _
  | resumeLine tag => cases h; exact clearPause_kept u
  | stopLine tag kind => cases h; exact stopLine_kept kind u
  | configure tag name value => cases h; exact configure_kept name value u
  | readSetting tag name => cases h; exact kept_of_state_eq (readSetting_state name) u
  | fetchEvents tag count => cases h; exact fetchEvents_kept count u
  | warmReset | readStatus | unknownRequest | malformedRequest => cases h; exact .refl u
  | _ => cases h

/-- Whatever the command, it keeps both laws of the Return Table. -/
theorem exec_kept (c : Instr) (s : State) : ∃ t, exec c s = .next t ∧ s.ReturnsKept t := by
  cases hc : requestAct c with
  | some r =>
    obtain ⟨tag, kind, act⟩ := r
    exact ⟨_, exec_request c tag kind act hc s, serve_kept s tag kind act (request_kept c tag kind act hc)⟩
  | none =>
    cases c with
    | coldReset holdHigh strap => exact ⟨_, rfl, cold_kept s holdHigh strap _ _⟩
    | warmResetActs =>
      refine ⟨_, rfl, ?_⟩
      split
      exacts [warm_kept s, .refl s]
    | hold high => exact ⟨_, rfl, holdLevel_kept s high⟩
    | pitch => exact ⟨_, rfl, pitch_kept s⟩
    | index => exact ⟨_, rfl, indexEdge_kept s⟩
    | sweepTimer => exact ⟨_, rfl, sweepExpiry_kept s⟩
    | turnTimeout partialAnswer => exact ⟨_, rfl, turnPassed_kept s partialAnswer⟩
    | manifestWaitExpiry ra => exact ⟨_, rfl, manifestExpiry_kept s ra⟩
    | decisionWaitExpiry lane => exact ⟨_, rfl, decisionExpiry_kept s lane⟩
    | interbyteTimeout | frameDiscarded | replySent | sweepFrameSent => exact ⟨_, rfl, .elsewhere⟩
    | busy tag kind =>
      refine ⟨_, rfl, ?_⟩
      split
      · exact (State.ReturnsKept.elsewhere (t := s.frameTaken)).trans (.elsewhere (by simp) (by simp))
      · exact .refl s
    | nothing a => exact ⟨_, rfl, takeAnswer_kept s a _ _ _ fun _ u => .refl u⟩
    | presented a => exact ⟨_, rfl, takeAnswer_kept s a _ _ _ fun x u => presented_kept u x.lane⟩
    | parcelDone a => exact ⟨_, rfl, takeAnswer_kept s a _ _ _ fun x u => parcelDone_kept u x.lane⟩
    | atEnd a => exact ⟨_, rfl, takeAnswer_kept s a _ _ _ fun x u => atEnd_kept u x.lane a.ticket⟩
    | tagReading a | weight a | vision a =>
      exact ⟨_, rfl, takeAnswer_kept s a _ _ _ fun x u => deliver_kept u x _ _ _⟩
    | garbledAnswer => exact ⟨_, rfl, takeGarbled_kept s⟩
    | answerOutsideTurn => exact ⟨_, rfl, .refl s⟩
    | _ => cases hc

theorem step_kept {s t : State} (h : step s = .next t) : s.ReturnsKept t := by
  unfold step at h
  split at h
  · cases h
    exact tick_kept s
  · next c rest _ =>
    obtain ⟨u, hu, kept⟩ := exec_kept c { s with pending := rest }
    rw [hu] at h
    cases h
    exact (State.ReturnsKept.elsewhere (t := { s with pending := rest })).trans kept

/-- Settles O56: every act of a step keeps each of the two laws. -/
theorem everyStepKeepsTheReturnsLawful : Obligations.EveryStepKeepsTheReturnsLawful := fun _ _ h =>
  ⟨(step_kept h).records, (step_kept h).bindings⟩

end Sys2Proof.Machine
end

section
/-! The requests of the Return Table that write (R31 to R36): the tests of each in their order, and what each writes. -/

namespace Sys2Proof.Machine

/-! ### LOAD RETURN (R31 to R33) -/

theorem lineInRange_iff (l : LineLoad) : LineLoad.inRange l = true ↔
    l.sku ≤ 16777215 ∧ l.category ≤ 30 ∧ 1 ≤ l.quantity ∧ l.quantity ≤ 15 ∧ 1 ≤ l.pieces ∧ l.pieces ≤ 8 ∧
      l.refWeight ≤ 30000 ∧ l.tags.length ≤ l.quantity ∧ ∀ c ∈ l.tags, c.sku = l.sku := by
  simp only [LineLoad.inRange, Bool.and_eq_true, decide_eq_true_eq, List.all_eq_true, and_assoc]

theorem loadInRange_iff (r : ReturnLoad) : loadInRange r = true ↔ loadAdmissible r := by
  simp only [loadInRange, loadAdmissible, Bool.and_eq_true, decide_eq_true_eq, List.all_eq_true, lineInRange_iff,
    and_assoc]

theorem loadReturn_outOfRange {r : ReturnLoad} (h : ¬ loadAdmissible r) (s : State) :
    loadReturn r s = s.refuse .outOfRange := by
  simp [loadReturn, Bool.eq_false_iff.2 fun e => h ((loadInRange_iff r).1 e)]

theorem loadReturn_duplicateTag {r : ReturnLoad} (h : loadAdmissible r) (repeats : ¬ (loadTags r).Nodup) (s : State) :
    loadReturn r s = s.refuse .duplicateTag := by
  have repeats' : hasRepeat (loadTags r) = true := by
    rw [← Bool.not_eq_false, hasRepeat_eq_false_iff]; exact repeats
  simp [loadReturn, (loadInRange_iff r).2 h, repeats']

theorem loadFull_iff (s : State) (r : ReturnLoad) (creates : Bool) : s.loadFull r creates = true ↔
    creates = true ∧ 1024 ≤ s.returns.records.size ∨ s.linesFree < r.lines.length ∨
      s.tagsFree < (loadTags r).length := by
  simp only [State.loadFull, Bool.or_eq_true, Bool.and_eq_true, decide_eq_true_eq, or_assoc]
  rfl

section Admissible

variable {r : ReturnLoad} {s : State} {p : Ra}

/-- Past its first two tests, LOAD RETURN goes by the record that carries the number. -/
theorem loadReturn_of_new (h : loadAdmissible r) (nodup : (loadTags r).Nodup) (hr : s.ra r.ra = none) :
    loadReturn r s = if s.loadFull r true then s.refuse .full else
      (s.putRa r.ra (loadedRecord r)).done (.loaded false .loaded false (s.putRa r.ra (loadedRecord r)).linesFree
        (s.putRa r.ra (loadedRecord r)).tagsFree) := by
  simp [loadReturn, (loadInRange_iff r).2 h, (hasRepeat_eq_false_iff _).2 nodup, hr]

theorem loadReturn_duplicate (h : loadAdmissible r) (nodup : (loadTags r).Nodup) (hp : s.ra r.ra = some p)
    (state : p.placeholder = false) : loadReturn r s = s.refuse .duplicate := by
  simp [loadReturn, (loadInRange_iff r).2 h, (hasRepeat_eq_false_iff _).2 nodup, hp, state]

theorem loadReturn_notOneAccount (h : loadAdmissible r) (nodup : (loadTags r).Nodup) (hp : s.ra r.ra = some p)
    (state : p.placeholder = true) (account : p.account ≠ r.account) : loadReturn r s = s.refuse .notOneAccount := by
  simp [loadReturn, (loadInRange_iff r).2 h, (hasRepeat_eq_false_iff _).2 nodup, hp, state, account]

/-- The state of a filling load: the placeholder filled, the undecided items of its parcel tested again (R33). -/
def State.filledAs (s : State) (n : Nat) (p : Ra) (r : ReturnLoad) : State :=
  (p.boundLane.map fun l => (s.modRa n fun _ => p.fill r).retest l).getD (s.modRa n fun _ => p.fill r)

theorem loadReturn_of_placeholder (h : loadAdmissible r) (nodup : (loadTags r).Nodup) (hp : s.ra r.ra = some p)
    (state : p.placeholder = true) (account : p.account = r.account) :
    loadReturn r s = if s.loadFull r false then s.refuse .full else
      (s.filledAs r.ra p r).done (.loaded true .bound (p.fill r).mismatch (s.filledAs r.ra p r).linesFree
        (s.filledAs r.ra p r).tagsFree) := by
  simp [loadReturn, (loadInRange_iff r).2 h, (hasRepeat_eq_false_iff _).2 nodup, hp, state, account, State.filledAs]

/-- R31, test 5, of a load that the tests before it let pass. -/
theorem loadReturn_full (h : loadAdmissible r) (nodup : (loadTags r).Nodup)
    (admitted : s.ra r.ra = none ∨
      ∃ p, s.ra r.ra = some p ∧ (p.state = .expected ∨ p.state = .overdue) ∧ p.account = r.account)
    (full : s.ra r.ra = none ∧ 1024 ≤ s.returns.records.size ∨ s.linesFree < r.lines.length ∨
      s.tagsFree < (loadTags r).length) : loadReturn r s = s.refuse .full := by
  rcases admitted with none | ⟨p, hp, state, account⟩
  · have full' : s.loadFull r true = true := (loadFull_iff s r true).2 (full.imp_left fun e => ⟨rfl, e.2⟩)
    exact (loadReturn_of_new h nodup none).trans (if_pos full')
  · have full' : s.loadFull r false = true := (loadFull_iff s r false).2 <| .inr <| full.resolve_left fun e => by
      rw [hp] at e; cases e.1
    exact (loadReturn_of_placeholder h nodup hp ((placeholder_iff p).2 state) account).trans (if_pos full')

end Admissible

/-! ### ADD TAGS (R34) -/

/-- R34, test 3: the codes are too few or too many, of another SKU, or more than the line's quantity leaves room for. -/
def Line.refuses (l : Line) (codes : List TagCode) : Prop :=
  codes = [] ∨ 15 < codes.length ∨ (∃ c ∈ codes, c.sku ≠ l.sku) ∨ l.quantity < l.tags.length + codes.length

theorem refuses_tests (l : Line) (codes : List TagCode) :
    (codes.isEmpty || decide (15 < codes.length) || (codes.any fun c => decide (c.sku ≠ l.sku)) ||
      decide (l.quantity < l.tags.length + codes.length)) = true ↔ l.refuses codes := by
  simp [Line.refuses, List.isEmpty_iff, or_assoc]

theorem not_refuses {l : Line} {codes : List TagCode} (one : 1 ≤ codes.length) (most : codes.length ≤ 15)
    (sku : ∀ c ∈ codes, c.sku = l.sku) (room : l.tags.length + codes.length ≤ l.quantity) : ¬ l.refuses codes := by
  rintro (rfl | h | ⟨c, hc, h⟩ | h)
  · exact Nat.not_succ_le_zero 0 one
  · exact absurd most (Nat.not_le.2 h)
  · exact h (sku c hc)
  · exact absurd room (Nat.not_le.2 h)

theorem lists_iff (r : Ra) (c : TagCode) : r.lists c = true ↔ ∃ m ∈ r.lines, ∃ x ∈ m.tags, x.code = c := by
  simp [Ra.lists]

/-- R34, test 4: a code repeats within the request, or is listed on the RA. -/
theorem duplicateCodes_iff (r : Ra) (codes : List TagCode) : (hasRepeat codes || codes.any r.lists) = true ↔
    ¬ codes.Nodup ∨ ∃ c ∈ codes, ∃ m ∈ r.lines, ∃ x ∈ m.tags, x.code = c := by
  rw [Bool.or_eq_true, ← Bool.not_eq_false, hasRepeat_eq_false_iff, List.any_eq_true]
  simp only [lists_iff]

section Tags

variable {s : State} {n i : Nat} {codes : List TagCode} {r : Ra} {l : Line}

theorem addTags_inUse (hr : s.ra n = some r) (state : r.placeholder = true) :
    addTags n i codes s = s.refuse .inUse := by
  simp [addTags, hr, state]

theorem addTags_noLine (hr : s.ra n = some r) (state : r.placeholder = false) (hl : r.line i = none) :
    addTags n i codes s = s.refuse .outOfRange := by
  simp [addTags, hr, state, hl]

theorem addTags_outOfRange (hr : s.ra n = some r) (state : r.placeholder = false) (hl : r.line i = some l)
    (refuses : l.refuses codes) : addTags n i codes s = s.refuse .outOfRange := by
  simp only [addTags, hr, state, hl, (refuses_tests l codes).2 refuses, if_true, Bool.false_eq_true, if_false]

/-- Past the test of its codes against the line, ADD TAGS looks for duplicates and then for room in the pool. -/
theorem addTags_of_fitting (hr : s.ra n = some r) (state : r.placeholder = false) (hl : r.line i = some l)
    (fits : ¬ l.refuses codes) : addTags n i codes s =
      if hasRepeat codes || codes.any r.lists then s.refuse .duplicateTag
      else if s.tagsFree < codes.length then s.refuse .full
      else (s.modRa n fun r => r.modLine i fun l => { l with tags := l.tags ++ codes.map fun c => ⟨c, false⟩ }).done
        (.listedTags (l.tags.length + codes.length)) := by
  have tests := Bool.eq_false_iff.2 (mt (refuses_tests l codes).1 fits)
  simp only [addTags, hr, state, hl, tests, Bool.false_eq_true, if_false]

theorem addTags_duplicateTag (hr : s.ra n = some r) (state : r.placeholder = false) (hl : r.line i = some l)
    (fits : ¬ l.refuses codes) (duplicate : ¬ codes.Nodup ∨ ∃ c ∈ codes, ∃ m ∈ r.lines, ∃ x ∈ m.tags, x.code = c) :
    addTags n i codes s = s.refuse .duplicateTag :=
  (addTags_of_fitting hr state hl fits).trans (if_pos ((duplicateCodes_iff r codes).2 duplicate))

/-- With no duplicate, ADD TAGS is FULL or is taken. -/
theorem addTags_of_new (hr : s.ra n = some r) (state : r.placeholder = false) (hl : r.line i = some l)
    (fits : ¬ l.refuses codes) (nodup : codes.Nodup) (unlisted : ∀ c ∈ codes, ∀ m ∈ r.lines, ∀ x ∈ m.tags, x.code ≠ c) :
    addTags n i codes s = if s.tagsFree < codes.length then s.refuse .full
      else (s.modRa n fun r => r.modLine i fun l => { l with tags := l.tags ++ codes.map fun c => ⟨c, false⟩ }).done
        (.listedTags (l.tags.length + codes.length)) := by
  refine (addTags_of_fitting hr state hl fits).trans (if_neg fun duplicate => ?_)
  rcases (duplicateCodes_iff r codes).1 duplicate with repeats | ⟨c, hc, m, hm, x, hx, listed⟩
  · exact repeats nodup
  · exact unlisted c hc m hm x hx listed

end Tags

/-! ### AMEND RETURN and REMOVE RETURN (R35, R36) -/

theorem held_iff (r : Ra) : r.held = true ↔ r.state = .bound ∨ r.state = .expected ∨ r.state = .overdue := by
  simp [Ra.held, placeholder_iff]

theorem placeholder_eq_false_iff (r : Ra) : r.placeholder = false ↔ r.state ≠ .expected ∧ r.state ≠ .overdue := by
  simp [Ra.placeholder]

/-- The quantity that an amendment names is one the line can take (R35). -/
theorem amendInRange_iff (r : Ra) (label reason : Option Nat) (quantity : Option (Nat × Nat)) :
    r.amendInRange label reason quantity = true ↔ label.getD 0 ≤ 255 ∧ reason.getD 0 ≤ 15 ∧
      ∀ i q, quantity = some (i, q) → ∃ l, r.line i = some l ∧ 1 ≤ q ∧ q ≤ 15 ∧ l.received ≤ q ∧ l.tags.length ≤ q := by
  unfold Ra.amendInRange
  rcases quantity with _ | ⟨i, q⟩
  · simp
  · cases hl : r.line i with
    | none => simp [hl]
    | some l => simp [hl, and_assoc]

/-- R35, test 3: a reason or a quantity out of range. -/
theorem amendInRange_eq_false {r : Ra} {label reason : Option Nat} {quantity : Option (Nat × Nat)}
    (out : (∃ k, reason = some k ∧ 15 < k) ∨
      (∃ i q, quantity = some (i, q) ∧ (i = 0 ∨ r.lines.length < i ∨ q = 0 ∨ 15 < q ∨
        ∃ l, r.lines[i - 1]? = some l ∧ (q < l.received ∨ q < l.tags.length)))) :
    r.amendInRange label reason quantity = false := by
  rw [← Bool.not_eq_true, amendInRange_iff]
  rintro ⟨_, hreason, hquantity⟩
  rcases out with ⟨k, rfl, hk⟩ | ⟨i, q, rfl, hq⟩
  · exact absurd hreason (Nat.not_le.2 hk)
  · obtain ⟨l, line, one, most, received, listed⟩ := hquantity i q rfl
    have isLine : ¬ (i = 0 ∨ r.lines.length < i) := fun h => by
      rw [(line_eq_none_iff r i).2 h] at line; cases line
    rcases hq with h | h | h | h | ⟨l', hl', low⟩
    · exact isLine (.inl h)
    · exact isLine (.inr h)
    · omega
    · omega
    · rw [((line_eq_some_iff r i l).1 line).2] at hl'
      cases hl'
      omega

section Amend

variable {s : State} {n : Nat} {label reason : Option Nat} {quantity : Option (Nat × Nat)} {r : Ra}

theorem amendReturn_inUse (hr : s.ra n = some r) (held : r.held = true) :
    amendReturn n label reason quantity s = s.refuse .inUse := by
  simp [amendReturn, hr, held]

theorem amendReturn_outOfRange (hr : s.ra n = some r) (unheld : r.held = false)
    (range : r.amendInRange label reason quantity = false) :
    amendReturn n label reason quantity s = s.refuse .outOfRange := by
  simp [amendReturn, hr, unheld, range]

theorem amendReturn_done (hr : s.ra n = some r) (unheld : r.held = false)
    (range : r.amendInRange label reason quantity = true) : amendReturn n label reason quantity s =
      (s.modRa n fun _ => r.amend label reason quantity).done (.raState (r.amend label reason quantity).state) := by
  simp [amendReturn, hr, unheld, range]

theorem removeReturn_inUse (hr : s.ra n = some r) (held : r.held = true) : removeReturn n s = s.refuse .inUse := by
  simp [removeReturn, hr, held]

theorem removeReturn_done (hr : s.ra n = some r) (unheld : r.held = false) :
    removeReturn n s = (s.removeRa n).done (.entriesReturned r.lines.length r.tagCount) := by
  simp [removeReturn, hr, unheld]

end Amend

/-! ### The refusals (R31, R34 to R36) -/

/-- Settles O15, test by test in the order of each rule. -/
theorem returnRequestsRefused : Obligations.ReturnRequestsRefused := by
  refine ⟨fun s tag r h => ?_, fun s tag n h => ⟨fun none i codes label reason quantity => ⟨?_, ?_, ?_⟩,
      fun r hr state i codes => ?_, fun r hr state label reason quantity => ⟨?_, ?_⟩⟩,
    fun s tag n i codes r h hr h1 h2 => ?_, fun s tag n label reason quantity r h hr state out => ?_⟩
  · have refused : ∀ {reason}, loadReturn r s.frameTaken = s.frameTaken.refuse reason →
        exec (.loadReturn tag r) s = .next (s.answeredRefused tag 32 reason .headOnly) := fun acts =>
      exec_refused (.loadReturn tag r) rfl h acts
    refine ⟨fun out => refused (loadReturn_outOfRange out _),
      fun range repeats => refused (loadReturn_duplicateTag range repeats _),
      fun range nodup p hp => ⟨fun h1 h2 => ?_, fun state account => ?_⟩,
      fun range nodup admitted full => refused (loadReturn_full (s := s.frameTaken) range nodup admitted full)⟩
    · exact refused (loadReturn_duplicate range nodup hp ((placeholder_eq_false_iff p).2 ⟨h1, h2⟩))
    · exact refused (loadReturn_notOneAccount range nodup hp ((placeholder_iff p).2 state) account)
  · exact exec_refused (.addTags tag n i codes) rfl h (by simp only [addTags, ra_frameTaken, none]; rfl)
  · exact exec_refused (.amendReturn tag n label reason quantity) rfl h
      (by simp only [amendReturn, ra_frameTaken, none]; rfl)
  · exact exec_refused (.removeReturn tag n) rfl h (by simp only [removeReturn, ra_frameTaken, none]; rfl)
  · exact exec_refused (.addTags tag n i codes) rfl h
      (addTags_inUse (s := s.frameTaken) hr ((placeholder_iff r).2 state))
  · exact exec_refused (.amendReturn tag n label reason quantity) rfl h
      (amendReturn_inUse (s := s.frameTaken) hr ((held_iff r).2 state))
  · exact exec_refused (.removeReturn tag n) rfl h (removeReturn_inUse (s := s.frameTaken) hr ((held_iff r).2 state))
  · have refused : ∀ {reason}, addTags n i codes s.frameTaken = s.frameTaken.refuse reason →
        exec (.addTags tag n i codes) s = .next (s.answeredRefused tag 33 reason .headOnly) := fun acts =>
      exec_refused (.addTags tag n i codes) rfl h acts
    have unplaced := (placeholder_eq_false_iff r).2 ⟨h1, h2⟩
    refine ⟨fun hi => refused (addTags_noLine hr unplaced ((line_eq_none_iff r i).2 hi)), fun l hi hl => ?_⟩
    have line := (line_eq_some_iff r i l).2 ⟨hi, hl⟩
    refine ⟨fun refuses => refused (addTags_outOfRange hr unplaced line refuses), fun one most sku room => ?_⟩
    have fits := not_refuses one most sku room
    exact ⟨fun duplicate => refused (addTags_duplicateTag hr unplaced line fits duplicate), fun nodup unlisted full =>
      refused ((addTags_of_new (s := s.frameTaken) hr unplaced line fits nodup unlisted).trans (if_pos full))⟩
  · exact exec_refused (.amendReturn tag n label reason quantity) rfl h
      (amendReturn_outOfRange (s := s.frameTaken) hr ((held_eq_false_iff r).2 state) (amendInRange_eq_false out))

/-! ### What ADD TAGS, AMEND RETURN and REMOVE RETURN write -/

theorem modLine_of_ne_zero {r : Ra} {i : Nat} (h : i ≠ 0) (f : Line → Line) :
    r.modLine i f = { r with lines := r.lines.modify (i - 1) f } := if_neg h

/-- R35: a LOADED record keeps its state when a quantity is amended; a COMPLETE or SHORT one is placed by its counts. -/
theorem amend_quantity {r : Ra} {i : Nat} (h : i ≠ 0) (label reason : Option Nat) (q : Nat) :
    r.amend label reason (some (i, q)) = Ra.replace { r with
      label := label.getD r.label, reason := reason.getD r.reason
      lines := r.lines.modify (i - 1) fun m => { m with quantity := q } } :=
  congrArg Ra.replace <|
    modLine_of_ne_zero (r := { r with label := label.getD r.label, reason := reason.getD r.reason }) h _

theorem replace_of_loaded {r : Ra} (h : r.state = .loaded) : r.replace = r := if_pos h

theorem replace_of_closed {r : Ra} (h : r.state ≠ .loaded) : r.replace = { r with
    state := if r.lines.all (fun m => decide (m.received = m.quantity)) then .complete else .short
    closed := true } := if_neg h

/-- Settles O16: past its tests each request writes one record, or takes it out. -/
theorem addTagsAmendAndRemoveReturn : Obligations.AddTagsAmendAndRemoveReturn := by
  refine ⟨fun s tag n i codes r l h hr state hi hl one most sku room nodup unlisted pool => ?_,
    fun s tag n r h hr state => ?_⟩
  · have taken := addTags_of_new (s := s.frameTaken) hr ((placeholder_eq_false_iff r).2 state)
      ((line_eq_some_iff r i l).2 ⟨hi, hl⟩) (not_refuses one most sku room) nodup unlisted
    simp only [modLine_of_ne_zero hi] at taken
    exact exec_done (.addTags tag n i codes) rfl h _ rfl (taken.trans (if_neg (Nat.not_lt.2 pool)))
  · have unheld := (held_eq_false_iff r).2 state
    refine ⟨fun label reason hlabel hreason => ⟨?_, fun i q l hi hl one most received listed u hu => ?_⟩, ?_⟩
    · exact exec_done (.amendReturn tag n label reason none) rfl h _ rfl
        (amendReturn_done (s := s.frameTaken) hr unheld ((amendInRange_iff ..).2 ⟨hlabel, hreason, nofun⟩))
    · have range : r.amendInRange label reason (some (i, q)) = true := (amendInRange_iff ..).2 ⟨hlabel, hreason,
        fun j k e => by cases e; exact ⟨l, (line_eq_some_iff r i l).2 ⟨hi, hl⟩, one, most, received, listed⟩⟩
      have taken := amendReturn_done (s := s.frameTaken) hr unheld range
      rw [amend_quantity hi, ← hu] at taken
      have same : u.state = r.state := by rw [hu]
      refine ⟨fun loaded => ?_, fun closed x hx => ?_⟩
      · rw [replace_of_loaded (same.trans loaded), same, loaded] at taken
        exact exec_done (.amendReturn tag n label reason (some (i, q))) rfl h _ rfl taken
      · rw [replace_of_closed (same ▸ closed), ← hx] at taken
        exact exec_done (.amendReturn tag n label reason (some (i, q))) rfl h _ rfl taken
    · exact exec_done (.removeReturn tag n) rfl h _ rfl (removeReturn_done (s := s.frameTaken) hr unheld)

end Sys2Proof.Machine
end

section
/-! The re-test of a parcel's items (R115), and LOAD RETURN, which creates a record or fills a placeholder (R31 to
R33). -/

namespace Sys2Proof.Machine

/-! ### One decision (R117) -/

/-- What a decision writes into the record. -/
def State.decisionOf (s : State) (it : Item) : Item := (s.decisionFor it (matchReturn (s.searchFor it))).1

/-- A decision before its events: the counts, the record, its timer (R117). -/
def State.decisionWritten (s : State) (n : Nat) (it : Item) : State :=
  ((s.countFound it (s.searchFor it)).modItem n fun _ => s.decisionOf it).modLane it.lane fun x => x.stopTimer n

/-- A decision before the lane's settlement test (R117). -/
def State.decisionMade (s : State) (n : Nat) (it : Item) : State :=
  (s.decisionFor it (matchReturn (s.searchFor it))).2.foldl (fun u f => u.offerFailure n it.bank f)
    ((s.decisionWritten n it).offer n (.itemGraded (s.decisionOf it).gradedFields))

theorem decideItem_eq {s : State} {n : Nat} {it : Item} (live : s.item n = some it) (h : it.decided = false) :
    s.decideItem n = (s.decisionMade n it).settlementTest it.lane := decideItem_of_undecided s n it live h

theorem decisionOf_decided (s : State) (it : Item) : (s.decisionOf it).decided = true := rfl

section Made

variable (s : State) (n : Nat) (it : Item)

/-- The decision's events leave what an event leaves. -/
theorem decisionMade_keeps {β : Type} (field : State → β)
    (h : ∀ (u : State) item body, field (u.offer item body) = field u) :
    field (s.decisionMade n it) = field (s.decisionWritten n it) :=
  (foldl_keeps field _ (fun u _ => h u n _) _ _).trans (h _ n _)

theorem decisionMade_returns : (s.decisionMade n it).returns = (s.countFound it (s.searchFor it)).returns :=
  decisionMade_keeps s n it (fun x => x.returns) offer_returns

theorem decisionMade_lanes : (s.decisionMade n it).lanes = s.lanes.modify it.lane fun x => x.stopTimer n :=
  (decisionMade_keeps s n it (fun x => x.lanes) offer_lanes).trans
    (congrArg (fun q : Quad Lane => q.modify it.lane fun x => x.stopTimer n) (countFound_lanes s it _))

theorem decisionMade_item {it : Item} (live : s.item n = some it) (m : Nat) :
    (s.decisionMade n it).item m = if n = m then some (s.decisionOf it) else s.item m := by
  have items := decisionMade_keeps s n it (fun x => x.items) offer_items
  rw [item_of_items_eq items]
  show ((s.countFound it (s.searchFor it)).modItem n fun _ => s.decisionOf it).item m = _
  rw [item_modItem, item_of_items_eq (countFound_items s it _)]
  split
  · next h => rw [← h, live]; rfl
  · rfl

theorem eventsGrow_foldl {α : Type} {f : State → α → State} (h : ∀ (u : State) a, u.eventsGrow (f u a)) (l : List α)
    (s : State) : s.eventsGrow (l.foldl f s) := by
  induction l generalizing s with
  | nil => exact eventsGrow_refl s
  | cons a rest ih => exact (h s a).trans (ih _)

theorem eventsGrow_decisionMade : s.eventsGrow (s.decisionMade n it) := by
  have written : s.eventsGrow (s.decisionWritten n it) := eventsGrow_of_queue_eq (countFound_queue s it _)
  exact written.trans <| (eventsGrow_offer _ _ _).trans (eventsGrow_foldl (fun u f => eventsGrow_offer u n _) _ _)

theorem countFound_with_port (p : Port) (found : MatchResult × Option Found) :
    State.countFound { s with port := p } it found = { s.countFound it found with port := p } := by
  unfold State.countFound
  repeat' split
  all_goals rfl

theorem decisionWritten_with_port (p : Port) :
    State.decisionWritten { s with port := p } n it = { s.decisionWritten n it with port := p } :=
  congrArg (fun u : State => (u.modItem n fun _ => s.decisionOf it).modLane it.lane fun x => x.stopTimer n)
    (countFound_with_port s it p (s.searchFor it))

theorem decisionMade_with_port (p : Port) :
    State.decisionMade { s with port := p } n it = { s.decisionMade n it with port := p } := by
  have offered := offer_with_port (s.decisionWritten n it) p n (.itemGraded (s.decisionOf it).gradedFields)
  rw [← decisionWritten_with_port] at offered
  unfold State.decisionMade
  rw [← foldl_with_port p _ (fun u f => offer_with_port u p n _), ← offered]
  rfl

end Made

theorem decideItem_of_none {s : State} {n : Nat} (h : s.item n = none) : s.decideItem n = s := by
  simp only [State.decideItem, h]

theorem decideItem_of_decided {s : State} {n : Nat} {it : Item} (live : s.item n = some it) (h : it.decided = true) :
    s.decideItem n = s := by
  simp only [State.decideItem, live, h, if_true]

theorem decideItem_with_port (p : Port) (s : State) (n : Nat) :
    State.decideItem { s with port := p } n = { s.decideItem n with port := p } := by
  cases live : s.item n with
  | none => rw [decideItem_of_none live]; exact decideItem_of_none (s := { s with port := p }) live
  | some it =>
    cases h : it.decided with
    | true => rw [decideItem_of_decided live h]; exact decideItem_of_decided (s := { s with port := p }) live h
    | false =>
      rw [decideItem_eq live h, ← settlementTest_with_port, ← decisionMade_with_port]
      exact decideItem_eq (s := { s with port := p }) live h

/-- A decision is about one item alone. -/
theorem decideItem_item {s : State} {n : Nat} {it : Item} (live : s.item n = some it) (h : it.decided = false)
    (m : Nat) : (s.decideItem n).item m = if n = m then some (s.decisionOf it) else s.item m := by
  rw [decideItem_eq live h, item_of_items_eq (settlementTest_items _ _), decisionMade_item s n live]

/-! ### The test of one item (R113 to R115) -/

theorem measured_iff (it : Item) : it.measured = true ↔
    it.tagStatus ≠ .awaited ∧ it.scaleStatus ≠ .awaited ∧ it.visionStatus ≠ .awaited := by
  simp [Item.measured, and_assoc]

section Test

variable {s : State} {n : Nat} {it : Item}

theorem testItem_decides (live : s.item n = some it) (undecided : it.decided = false) (measured : it.measured = true)
    (settled : s.raSettled it = true) : s.testItem n = s.decideItem n := by
  simp [State.testItem, live, undecided, measured, settled]

theorem testItem_leaves (live : s.item n = some it)
    (h : it.decided = true ∨ it.measured = false ∨ s.raSettled it = false) : s.testItem n = s := by
  rcases h with h | h | h <;> simp [State.testItem, live, h]

/-- A test decides the item, or leaves everything. -/
theorem testItem_cases (s : State) (n : Nat) : s.testItem n = s ∨ s.testItem n = s.decideItem n := by
  unfold State.testItem
  split
  · exact .inl rfl
  · split
    · exact .inr rfl
    · exact .inl rfl

end Test

theorem testItem_with_port (p : Port) (s : State) (n : Nat) :
    State.testItem { s with port := p } n = { s.testItem n with port := p } := by
  have item : State.item { s with port := p } n = s.item n := rfl
  have settled : ∀ it, State.raSettled { s with port := p } it = s.raSettled it := fun _ => rfl
  unfold State.testItem
  simp only [item, settled, decideItem_with_port]
  split
  · rfl
  · split <;> rfl

/-! ### The re-test of one item of the lane's queue (R115) -/

/-- The test of one queued item, if it is an undecided item of the lane's parcel. -/
def State.retestItem (l : LaneId) (s : State) (n : Nat) : State :=
  match s.item n with
  | none => s
  | some it => if s.undecidedOf l it then s.testItem n else s

theorem retest_eq (s : State) (l : LaneId) : s.retest l = (s.lanes.at l).queue.foldl (State.retestItem l) s := rfl

section Retest

variable {s : State} {l : LaneId} {n : Nat} {it : Item}

theorem undecidedOf_iff : s.undecidedOf l it = true ↔
    it.lane = l ∧ it.parcel = (s.lanes.at l).parcelCounter ∧ it.decided = false := by
  simp [State.undecidedOf, and_assoc]

theorem retestItem_of_none (h : s.item n = none) : s.retestItem l n = s := by
  simp only [State.retestItem, h]

theorem retestItem_of_other (live : s.item n = some it) (h : s.undecidedOf l it = false) : s.retestItem l n = s := by
  simp only [State.retestItem, live, h, Bool.false_eq_true, if_false]

theorem retestItem_of_undecided (live : s.item n = some it) (h : s.undecidedOf l it = true) :
    s.retestItem l n = s.testItem n := by
  simp only [State.retestItem, live, h, if_true]

/-- A re-test leaves everything, or is the decision of an undecided item of the lane's parcel. -/
theorem retestItem_cases (l : LaneId) (s : State) (n : Nat) : s.retestItem l n = s ∨
    ∃ it, s.item n = some it ∧ s.undecidedOf l it = true ∧
      s.retestItem l n = (s.decisionMade n it).settlementTest l := by
  cases live : s.item n with
  | none => exact .inl (retestItem_of_none live)
  | some it =>
    cases h : s.undecidedOf l it with
    | false => exact .inl (retestItem_of_other live h)
    | true =>
      obtain ⟨lane, _, undecided⟩ := undecidedOf_iff.1 h
      rw [retestItem_of_undecided live h]
      refine (testItem_cases s n).imp id fun decides => ⟨it, rfl, h, ?_⟩
      rw [decides, decideItem_eq live undecided, lane]

theorem retestItem_item_cases (l : LaneId) (s : State) (n m : Nat) : (s.retestItem l n).item m = s.item m ∨
    n = m ∧ ∃ it d, s.item n = some it ∧ it.decided = false ∧ (s.retestItem l n).item m = some d ∧
      d.decided = true := by
  rcases retestItem_cases l s n with same | ⟨it, live, h, made⟩
  · rw [same]; exact .inl rfl
  · rw [made, item_of_items_eq (settlementTest_items _ _), decisionMade_item s n live]
    split
    · next hm => exact .inr ⟨hm, it, _, live, (undecidedOf_iff.1 h).2.2, rfl, decisionOf_decided s it⟩
    · exact .inl rfl

/-- A decided item stays as it is. -/
theorem retestItem_keeps_decided (live : s.item n = some it) (decided : it.decided = true) (m : Nat) :
    (s.retestItem l m).item n = some it := by
  rcases retestItem_item_cases l s m n with same | ⟨rfl, x, _, hx, undecided, _⟩
  · rw [same, live]
  · rw [live] at hx
    cases hx
    rw [decided] at undecided
    cases undecided

theorem foldl_retestItem_keeps_decided (ns : List Nat) (live : s.item n = some it) (decided : it.decided = true) :
    (ns.foldl (State.retestItem l) s).item n = some it := by
  induction ns generalizing s with
  | nil => exact live
  | cons m rest ih => exact ih (retestItem_keeps_decided live decided m)

end Retest

/-! ### The question an RA answers, which counts do not change (R45, R114) -/

/-- What the question of R114 reads of a record. -/
def Ra.question (r : Ra) : RaState × List Nat := (r.state, r.lines.map Line.sku)

theorem question_countMatch (r : Ra) (i : Nat) (res : MatchResult) (c : TagCode) :
    (r.countMatch i res c).question = r.question := by
  unfold Ra.countMatch Ra.modLine Ra.question
  split
  · rfl
  · refine congrArg (Prod.mk r.state) (List.ext_getElem? fun j => ?_)
    simp only [List.getElem?_map, List.getElem?_modify]
    cases r.lines[j]? <;> simp
    split <;> rfl

theorem countFound_question (s : State) (it : Item) (found : MatchResult × Option Found) (n : Nat) :
    ((s.countFound it found).ra n).map Ra.question = (s.ra n).map Ra.question := by
  unfold State.countFound
  split
  · split
    · split
      · rw [ra_modRa]
        split
        · cases s.ra n with
          | none => rfl
          | some r => exact congrArg some (question_countMatch r _ _ _)
        · rfl
      · rfl
    all_goals rfl
  · rfl

/-- A record answers an item's question: BOUND, with a line of the SKU (R114). -/
def answersSku (c : TagCode) (q : RaState × List Nat) : Bool :=
  decide (q.1 = .bound) && q.2.any fun sku => decide (sku = c.sku)

theorem raSettled_of_read {s : State} {it : Item} {c : TagCode} (h : it.tagState = .read c) : s.raSettled it =
    (((s.lanes.at it.lane).boundRas.filterMap fun n => (s.ra n).map Ra.question).any (answersSku c) ||
      !((s.lanes.at it.lane).boundRas.filterMap fun n => (s.ra n).map Ra.question).any fun q =>
        decide (q.1 = .expected)) := by
  have questions : ∀ p : RaState × List Nat → Bool,
      ((s.boundRecords it.lane).any fun e => p e.2.question) =
        ((s.lanes.at it.lane).boundRas.filterMap fun n => (s.ra n).map Ra.question).any p := fun p => by
    rw [boundRecords_any s it.lane fun r => p r.question, ← List.map_filterMap, List.any_map]
    rfl
  rw [← questions, ← questions]
  simp only [State.raSettled, h, State.searchedRas, List.any_filter, answersSku, Ra.question, List.any_map]
  rfl

theorem raSettled_congr {s t : State} {it : Item}
    (bound : (t.lanes.at it.lane).boundRas = (s.lanes.at it.lane).boundRas)
    (questions : ∀ n, (t.ra n).map Ra.question = (s.ra n).map Ra.question) : t.raSettled it = s.raSettled it := by
  cases h : it.tagState with
  | read c => rw [raSettled_of_read h, raSettled_of_read h, bound]; simp only [questions]
  | noTag | corrupt | conflict => simp only [State.raSettled, h]

/-! ### The re-test leaves the questions of the items it has not come to (R64, R115) -/

section Waiting

variable {s : State} {l : LaneId} {n : Nat} {it : Item}

/-- While an item of the parcel is undecided, the parcel is not settled, and a decision of another item leaves the item
undecided, with its RA question as it was. -/
theorem retestItem_keeps_question (live : s.item n = some it) (h : s.undecidedOf l it = true) {m : Nat}
    (other : m ≠ n) :
    (s.retestItem l m).item n = some it ∧ (s.retestItem l m).undecidedOf l it = true ∧
      (s.retestItem l m).raSettled it = s.raSettled it := by
  rcases retestItem_cases l s m with same | ⟨x, hx, hu, made⟩
  · rw [same]; exact ⟨live, h, rfl⟩
  · have item : (s.decisionMade m x).item n = some it := by rw [decisionMade_item s m hx, if_neg other, live]
    have lane : ∀ k, ((s.decisionMade m x).lanes.at k).parcelCounter = (s.lanes.at k).parcelCounter ∧
        ((s.decisionMade m x).lanes.at k).boundRas = (s.lanes.at k).boundRas := fun k => by
      rw [decisionMade_lanes, quad_at_modify]; split <;> exact ⟨rfl, rfl⟩
    have undecided : (s.decisionMade m x).undecidedOf l it = true := by
      rw [undecidedOf_iff, (lane l).1]; exact undecidedOf_iff.1 h
    have waits : (s.decisionMade m x).anyUndecided l = true :=
      List.any_eq_true.2 ⟨(n, it), mem_of_lookup _ _ _ item, undecided⟩
    rw [made, settlementTest_of_waiting (.inr waits)]
    refine ⟨item, undecided, raSettled_congr (lane it.lane).2 fun k => ?_⟩
    have ra : (s.decisionMade m x).ra k = (s.countFound x (s.searchFor x)).ra k := by
      unfold State.ra; rw [decisionMade_returns]
    rw [ra, countFound_question]

/-- An undecided item that is not measured, or whose RA question is not settled, is left as it stands. -/
theorem foldl_retestItem_leaves (ns : List Nat) (live : s.item n = some it) (h : s.undecidedOf l it = true)
    (unsettled : it.measured = false ∨ s.raSettled it = false) : (ns.foldl (State.retestItem l) s).item n = some it := by
  induction ns generalizing s with
  | nil => exact live
  | cons m rest ih =>
    by_cases hm : m = n
    · subst hm
      have left : s.retestItem l m = s := (retestItem_of_undecided live h).trans (testItem_leaves live (.inr unsettled))
      rw [List.foldl_cons, left]
      exact ih live h unsettled
    · obtain ⟨live', h', settled⟩ := retestItem_keeps_question live h hm
      exact ih live' h' (settled ▸ unsettled)

/-- An undecided item of the queue that is measured, and whose RA question is settled, is decided. -/
theorem foldl_retestItem_decides (ns : List Nat) (hn : n ∈ ns) (live : s.item n = some it)
    (h : s.undecidedOf l it = true) (measured : it.measured = true) (settled : s.raSettled it = true) :
    ∃ d, (ns.foldl (State.retestItem l) s).item n = some d ∧ d.decided = true := by
  induction ns generalizing s with
  | nil => cases hn
  | cons m rest ih =>
    by_cases hm : m = n
    · subst hm
      obtain ⟨_, _, undecided⟩ := undecidedOf_iff.1 h
      have decides : s.retestItem l m = s.decideItem m :=
        (retestItem_of_undecided live h).trans (testItem_decides live undecided measured settled)
      have item : (s.retestItem l m).item m = some (s.decisionOf it) := by
        rw [decides, decideItem_item live undecided, if_pos rfl]
      exact ⟨_, foldl_retestItem_keeps_decided rest item (decisionOf_decided s it), decisionOf_decided s it⟩
    · obtain ⟨live', h', settled'⟩ := retestItem_keeps_question live h hm
      exact ih ((List.mem_cons.1 hn).resolve_left (Ne.symm hm)) live' h' (settled'.trans settled)

end Waiting

/-! ### The whole re-test -/

theorem retestItem_with_port (p : Port) (l : LaneId) (s : State) (n : Nat) :
    State.retestItem l { s with port := p } n = { s.retestItem l n with port := p } := by
  have item : State.item { s with port := p } n = s.item n := rfl
  have undecided : ∀ it, State.undecidedOf { s with port := p } l it = s.undecidedOf l it := fun _ => rfl
  unfold State.retestItem
  simp only [item, undecided, testItem_with_port]
  split
  · rfl
  · split <;> rfl

theorem retest_frameTaken (s : State) (l : LaneId) : s.frameTaken.retest l = (s.retest l).frameTaken := by
  refine (foldl_with_port _ (State.retestItem l) (retestItem_with_port _ l) _ s).trans ?_
  unfold State.frameTaken
  rw [retest_port]
  rfl

theorem eventsGrow_retestItem (l : LaneId) (s : State) (n : Nat) : s.eventsGrow (s.retestItem l n) := by
  rcases retestItem_cases l s n with same | ⟨it, _, _, made⟩
  · rw [same]; exact eventsGrow_refl s
  · rw [made]; exact (eventsGrow_decisionMade s n it).trans (eventsGrow_settlementTest _ _)

theorem eventsGrow_retest (s : State) (l : LaneId) : s.eventsGrow (s.retest l) :=
  eventsGrow_foldl (eventsGrow_retestItem l) _ s

/-- With no undecided item of the lane's parcel, nothing is tested. -/
theorem retest_of_decided {s : State} {l : LaneId} (h : s.anyUndecided l = false) : s.retest l = s := by
  have left : ∀ n, s.retestItem l n = s := fun n => by
    cases live : s.item n with
    | none => exact retestItem_of_none live
    | some it =>
      refine retestItem_of_other live ?_
      rw [State.anyUndecided, List.any_eq_false] at h
      exact Bool.eq_false_iff.2 (h (n, it) (mem_of_lookup _ _ _ live))
  rw [retest_eq]
  generalize (s.lanes.at l).queue = ns
  induction ns with
  | nil => rfl
  | cons n rest ih => rw [List.foldl_cons, left, ih]

/-! ### LOAD RETURN (R32, R33) -/

/-- R32: with room, an admissible load under a new number makes a LOADED record. -/
theorem exec_loadReturn_creates {s : State} (tag : Nat) {r : ReturnLoad} (h : s.serving = false)
    (range : loadAdmissible r) (nodup : (loadTags r).Nodup) (lines : r.lines.length ≤ s.linesFree)
    (tags : (loadTags r).length ≤ s.tagsFree) (new : s.ra r.ra = none) (room : s.returns.records.size < 1024)
    (u : State) (hu : u = s.putRa r.ra (loadedRecord r)) :
    exec (.loadReturn tag r) s = .next (u.answered tag 32 (.loaded false .loaded false u.linesFree u.tagsFree)) := by
  subst hu
  have notFull : ¬ s.loadFull r true = true := by
    rw [loadFull_iff]; rintro (⟨_, h⟩ | h | h) <;> omega
  exact exec_done (.loadReturn tag r) rfl h _ rfl
    ((loadReturn_of_new (s := s.frameTaken) range nodup new).trans (if_neg notFull))

/-- R33: with room, an admissible load of a placeholder's account fills it, and its parcel's items are tested again. -/
theorem exec_loadReturn_fills {s : State} (tag : Nat) {r : ReturnLoad} (h : s.serving = false)
    (range : loadAdmissible r) (nodup : (loadTags r).Nodup) (lines : r.lines.length ≤ s.linesFree)
    (tags : (loadTags r).length ≤ s.tagsFree) {p : Ra} {l : LaneId} (hp : s.ra r.ra = some p)
    (state : p.state = .expected ∨ p.state = .overdue) (account : p.account = r.account) (lane : p.boundLane = some l) (v : State)
    (hv : v = (s.modRa r.ra fun _ => p.fill r).retest l) : exec (.loadReturn tag r) s =
      .next (v.answered tag 32 (.loaded true .bound (p.fill r).mismatch v.linesFree v.tagsFree)) := by
  have notFull : ¬ s.loadFull r false = true := by
    rw [loadFull_iff]; rintro (⟨h, _⟩ | h | h)
    · cases h
    · omega
    · omega
  have filled : s.frameTaken.filledAs r.ra p r = v.frameTaken := by
    rw [hv, ← retest_frameTaken, State.filledAs, lane]; rfl
  have taken := (loadReturn_of_placeholder (s := s.frameTaken) range nodup hp ((placeholder_iff p).2 state)
    account).trans (if_neg notFull)
  rw [filled] at taken
  exact exec_done (.loadReturn tag r) rfl h v (by rw [hv]; simp) taken

/-- Settles O14: the record created, or the placeholder filled and the parcel's items tested again one after another. -/
theorem loadReturnCreatesOrFills : Obligations.LoadReturnCreatesOrFills := by
  intro s tag r h range nodup lines tags
  refine ⟨fun new room u hu => exec_loadReturn_creates tag h range nodup lines tags new room u hu,
    fun p l hp state account lane f hf u hu => ?_, fun l => rfl,
    fun u l => ⟨State.retestItem l, rfl, fun v n => ⟨retestItem_of_none, fun it live =>
      ⟨retestItem_of_other live, retestItem_of_undecided live⟩⟩⟩, fun u n it live => ⟨?_, ?_⟩⟩
  · have hf : f = p.fill r := hf
    subst hf hu
    have taken := exec_loadReturn_fills tag h range nodup lines tags hp state account lane
    have growth := eventsGrow_retest (s.modRa r.ra fun _ => p.fill r) l
    refine ⟨fun decided => taken _ (retest_of_decided (s := s.modRa r.ra fun _ => p.fill r) decided).symm, taken, _,
      taken _ rfl, growth, retest_bus _ l, retest_plan _ l, retest_sorter _ l, retest_totes _ l,
      fun n it live decided => ?_, fun n hn it live undecided measured settled => ?_,
      fun n it live undecided unsettled => ?_⟩
    · exact foldl_retestItem_keeps_decided (s := s.modRa r.ra fun _ => p.fill r) _ live decided
    · exact foldl_retestItem_decides (s := s.modRa r.ra fun _ => p.fill r) _ hn live undecided measured settled
    · exact foldl_retestItem_leaves (s := s.modRa r.ra fun _ => p.fill r) _ live undecided unsettled
  · exact fun undecided tag scale vision settled =>
      testItem_decides live undecided ((measured_iff it).2 ⟨tag, scale, vision⟩) settled
  · intro left
    have unmeasured : it.measured = false ↔
        it.tagStatus = .awaited ∨ it.scaleStatus = .awaited ∨ it.visionStatus = .awaited := by
      rw [← Bool.not_eq_true, measured_iff]; tauto
    exact testItem_leaves live (by rw [unmeasured, or_assoc, or_assoc]; exact left)

end Sys2Proof.Machine
end

section
/-! The laws of the lanes and of the roster (R49, R57, R70, R79): what a lane holds in each of its states, and what a slot
holds. Every command keeps both, act by act. -/

namespace Sys2Proof.Machine

/-! ### The law of one lane (R49, R57) -/

/-- `Lane.lawful`, clause by clause. -/
structure Lane.Lawful (x : Lane) : Prop where
  queue   : x.queue.length ≤ 6
  counter : x.parcelCounter ≤ 65535
  ticket  : x.nextTicket ≤ 255
  cause   : x.closeCause.isSome = decide (x.state = .closing)
  account : x.account.isSome = decide (x.state ≠ .idle)
  unbound : x.state = .idle → x.boundRas = []
  bound   : x.state ≠ .idle → 1 ≤ x.boundRas.length ∧ x.boundRas.length ≤ 4

theorem lane_lawful_iff (x : Lane) : x.lawful = true ↔ x.Lawful := by
  have parcel : (if x.state = .idle then x.boundRas.isEmpty
      else decide (1 ≤ x.boundRas.length) && decide (x.boundRas.length ≤ 4)) = true ↔
        (x.state = .idle → x.boundRas = []) ∧ (x.state ≠ .idle → 1 ≤ x.boundRas.length ∧ x.boundRas.length ≤ 4) := by
    by_cases idle : x.state = .idle <;> simp [idle]
  simp only [Lane.lawful, Bool.and_eq_true, decide_eq_true_eq, parcel]
  exact ⟨fun ⟨⟨⟨⟨⟨q, p⟩, t⟩, c⟩, a⟩, u, b⟩ => ⟨q, p, t, c, a, u, b⟩,
    fun ⟨q, p, t, c, a, u, b⟩ => ⟨⟨⟨⟨⟨q, p⟩, t⟩, c⟩, a⟩, u, b⟩⟩

theorem wrapNext_le {lo hi : Nat} (h : lo ≤ hi) (n : Nat) : wrapNext lo hi n ≤ hi := by
  unfold wrapNext
  split <;> omega

/-- What a lane holds of its parcel, beside its counters (R49). -/
def Lane.parcel (x : Lane) : LaneState × Nat × Option Nat × List Nat × Option CloseCause × Nat :=
  (x.state, x.parcelCounter, x.account, x.boundRas, x.closeCause, x.nextTicket)

/-- The law looks at the parcel, the counters and the length of the queue alone. -/
theorem Lane.Lawful.of_parcel {x y : Lane} (h : x.Lawful) (parcel : y.parcel = x.parcel)
    (queue : y.queue.length ≤ x.queue.length) : y.Lawful := by
  simp only [Lane.parcel, Prod.mk.injEq] at parcel
  obtain ⟨state, counter, account, bound, cause, ticket⟩ := parcel
  exact ⟨queue.trans h.queue, counter ▸ h.counter, ticket ▸ h.ticket, by rw [cause, state, h.cause],
    by rw [account, state, h.account], by rw [state, bound]; exact h.unbound, by rw [state, bound]; exact h.bound⟩

theorem settled_lawful {x : Lane} (h : x.Lawful) : x.settled.Lawful :=
  ⟨h.queue, h.counter, h.ticket, rfl, rfl, fun _ => rfl, fun e => absurd rfl e⟩

/-- R53: an OPEN PARCEL names one to four RAs. -/
theorem opening_lawful {x : Lane} (h : x.Lawful) (account : Nat) {ras : List Nat} (one : 1 ≤ ras.length)
    (four : ras.length ≤ 4) : (x.opening account ras).Lawful :=
  ⟨h.queue, wrapNext_le (Nat.zero_le _) _, h.ticket, rfl, rfl, nofun, fun _ => ⟨one, four⟩⟩

/-- R63: an OPEN lane that becomes CLOSING keeps its parcel. -/
theorem closing_lawful_of_opened {x : Lane} (h : x.Lawful) (opened : x.state = .opened) (cause : CloseCause) :
    ({ x with state := .closing, closeCause := some cause } : Lane).Lawful :=
  ⟨h.queue, h.counter, h.ticket, rfl, by rw [h.account, opened]; rfl, nofun, fun _ => h.bound (by simp [opened])⟩

/-- R57: an item joins a queue that has room. -/
theorem admitted_lawful {x : Lane} (h : x.Lawful) (room : x.queue.length < 6) (number ticket : Nat) :
    ({ x with queue := x.queue ++ [number], nextTicket := wrapNext 0 255 ticket, verdict := .accept ticket } : Lane).Lawful :=
  ⟨by rw [List.length_append]; exact room, h.counter, wrapNext_le (Nat.zero_le _) _, h.cause, h.account, h.unbound,
    h.bound⟩

theorem warm_lane_lawful {x : Lane} (h : x.Lawful) : x.warm.Lawful :=
  ⟨Nat.zero_le _, h.counter, h.ticket, rfl, rfl, fun _ => rfl, fun e => absurd rfl e⟩

theorem cold_lane_lawful : Lane.cold.Lawful :=
  ⟨Nat.zero_le _, Nat.zero_le _, Nat.zero_le _, rfl, rfl, fun _ => rfl, fun e => absurd rfl e⟩

theorem lanesLawful_iff (s : State) : s.lanesLawful = true ↔ ∀ l, (s.lanes.at l).Lawful := by
  simp only [State.lanesLawful, Quad.toList, List.all_cons, List.all_nil, Bool.and_true, Bool.and_eq_true,
    lane_lawful_iff]
  constructor
  · rintro ⟨h1, h2, h3, h4⟩ l
    cases l <;> assumption
  · exact fun h => ⟨h .l1, h .l2, h .l3, h .l4⟩

/-! ### The law of one slot, and of the roster (R70, R79) -/

/-- `Slot.lawful`, clause by clause. -/
structure Slot.Lawful (x : Slot) : Prop where
  address : x.address.isSome = x.enrolled
  range   : ∀ a, x.address = some a → 1 ≤ a ∧ a ≤ 62
  score   : x.score ≤ x.maxScore
  most    : x.maxScore ≤ 255

theorem slot_lawful_iff (x : Slot) : x.lawful = true ↔ x.Lawful := by
  have range : (x.address.all fun a => decide (1 ≤ a) && decide (a ≤ 62)) = true ↔
      ∀ a, x.address = some a → 1 ≤ a ∧ a ≤ 62 := by
    cases x.address <;> simp
  simp only [Slot.lawful, Bool.and_eq_true, decide_eq_true_eq, range]
  exact ⟨fun ⟨⟨⟨a, r⟩, s⟩, m⟩ => ⟨a, r, s, m⟩, fun ⟨a, r, s, m⟩ => ⟨⟨⟨a, r⟩, s⟩, m⟩⟩

theorem scoreAfter_le {score : Nat} (h : score ≤ 255) (o : SweepOutcome) : scoreAfter score o ≤ 255 := by
  have raised : (if 247 < score then 255 else score + 8) ≤ 255 := by split <;> omega
  cases o with
  | valid => exact (Nat.sub_le score 1).trans h
  | garbled | silent => exact raised

/-- A slot keeps its address and its lawfulness. -/
structure Slot.Follows (x y : Slot) : Prop where
  lawful  : x.Lawful → y.Lawful
  address : y.address = x.address

theorem Slot.Follows.trans {x y z : Slot} (h : x.Follows y) (h' : y.Follows z) : x.Follows z :=
  ⟨h'.lawful ∘ h.lawful, h'.address.trans h.address⟩

/-- R79: the score of an outcome, with the maximum that it may raise. -/
theorem scored_follows (x : Slot) (o : SweepOutcome) : x.Follows (x.scored o) :=
  ⟨fun h => ⟨h.address, h.range, Nat.le_max_right _ _,
    Nat.max_le.2 ⟨h.most, scoreAfter_le (h.score.trans h.most) o⟩⟩, rfl⟩

/-- R80, R81: an enrolled slot changes between UP and DOWN. -/
theorem enrolled_follows {x : Slot} {state : SlotState} (enrolled : x.state ≠ .vacant) (h : state ≠ .vacant) :
    x.Follows { x with state := state } := by
  have both : ({ x with state := state } : Slot).enrolled = x.enrolled := by simp [Slot.enrolled, enrolled, h]
  exact ⟨fun l => ⟨l.address.trans both.symm, l.range, l.score, l.most⟩, rfl⟩

/-- R91: a warm reset brings every enrolled slot UP. -/
theorem warm_follows (x : Slot) : x.Follows x.warm := by
  have both : x.warm.enrolled = x.enrolled := by
    unfold Slot.warm Slot.enrolled
    cases x.state <;> rfl
  exact ⟨fun l => ⟨l.address.trans both.symm, l.range, Nat.le_refl _, Nat.zero_le _⟩, rfl⟩

@[simp] theorem mem_allRoles (r : Role) : r ∈ allRoles := by cases r <;> decide

@[simp] theorem mem_allSlots (x : SlotId) : x ∈ allSlots := by
  obtain ⟨l, r⟩ := x
  exact List.mem_flatMap.2 ⟨l, mem_allLanes l, List.mem_map_of_mem (mem_allRoles r)⟩

/-- `State.rosterLawful`: every slot is lawful, and an address is one slot's alone. -/
theorem rosterLawful_iff (s : State) : s.rosterLawful = true ↔ (∀ x, (s.slot x).Lawful) ∧
    ∀ x y a, (s.slot x).address = some a → (s.slot y).address = some a → x = y := by
  have nodup : allSlots.Nodup := by decide
  simp only [State.rosterLawful, Bool.and_eq_true, List.all_eq_true, mem_allSlots, true_implies, slot_lawful_iff,
    Bool.not_eq_true', hasRepeat_eq_false_iff]
  refine and_congr_right fun _ => ⟨fun h x y a hx hy => ?_, fun h => nodup.filterMap fun x y a hx hy => h x y a hx hy⟩
  by_contra ne
  have apart := List.pairwise_filterMap.1 h
  have symm : Std.Symm fun x y => ∀ b, (s.slot x).address = some b → ∀ c, (s.slot y).address = some c → b ≠ c :=
    ⟨fun x y hxy b hb c hc => (hxy c hc b hb).symm⟩
  exact apart.forall (mem_allSlots x) (mem_allSlots y) ne a hx a hy rfl

theorem slot_modSlot (s : State) (x y : SlotId) (f : Slot → Slot) :
    (s.modSlot x f).slot y = if x = y then f (s.slot y) else s.slot y := by
  obtain ⟨l, r⟩ := x
  obtain ⟨m, q⟩ := y
  simp only [State.slot, State.modSlot, quad_at_modify, SlotId.mk.injEq]
  by_cases hl : l = m
  · by_cases hr : r = q
    · subst hl hr; simp
    · simp [hl, hr, perRole_at_modify_other]
  · simp [hl]

/-! ### What keeps the laws -/

/-- Whatever made the second state of the first keeps the law of each lane, and that of the roster. -/
structure State.BothKept (s t : State) : Prop where
  lanes  : ∀ l, (s.lanes.at l).Lawful → (t.lanes.at l).Lawful
  roster : s.rosterLawful = true → t.rosterLawful = true

namespace State.BothKept

variable {s t u : State}

theorem refl (s : State) : s.BothKept s := ⟨fun _ h => h, id⟩

theorem trans (h : s.BothKept t) (h' : t.BothKept u) : s.BothKept u :=
  ⟨fun l => h'.lanes l ∘ h.lanes l, h'.roster ∘ h.roster⟩

theorem foldl {α : Type} {f : State → α → State} (h : ∀ (s : State) a, s.BothKept (f s a)) (l : List α) (s : State) :
    s.BothKept (l.foldl f s) := by
  induction l generalizing s with
  | nil => exact refl s
  | cons a rest ih => exact (h s a).trans (ih _)

/-- The law of the roster looks at the roster alone. -/
theorem roster_of_eq (h : t.bus.roster = s.bus.roster) (lawful : s.rosterLawful = true) : t.rosterLawful = true := by
  unfold State.rosterLawful State.slot at *
  rw [h]
  exact lawful

/-- Neither the lanes nor the roster change. -/
theorem elsewhere (lanes : t.lanes = s.lanes := by rfl) (bus : t.bus.roster = s.bus.roster := by rfl) : s.BothKept t :=
  ⟨fun _ h => lanes ▸ h, roster_of_eq bus⟩

/-- Every slot follows its former self. -/
theorem of_slots (lanes : ∀ l, (s.lanes.at l).Lawful → (t.lanes.at l).Lawful)
    (slots : ∀ x, (s.slot x).Follows (t.slot x)) : s.BothKept t := by
  refine ⟨lanes, fun h => ?_⟩
  obtain ⟨lawful, apart⟩ := (rosterLawful_iff s).1 h
  refine (rosterLawful_iff t).2 ⟨fun x => (slots x).lawful (lawful x), fun x y a hx hy => apart x y a ?_ ?_⟩
  · rw [← (slots x).address, hx]
  · rw [← (slots y).address, hy]

end State.BothKept

/-! ### One entry of a block -/

theorem modLane_bothKept (s : State) (l : LaneId) (f : Lane → Lane)
    (h : (s.lanes.at l).Lawful → (f (s.lanes.at l)).Lawful) : s.BothKept (s.modLane l f) := by
  refine ⟨fun m hm => ?_, id⟩
  rw [modLane_lanes, quad_at_modify]
  split
  · next e => subst e; exact h hm
  · exact hm

/-- A change of a lane that keeps its parcel and lengthens no queue. -/
theorem modLane_parcel_bothKept (s : State) (l : LaneId) (f : Lane → Lane)
    (parcel : ∀ x, (f x).parcel = x.parcel := by intro x; rfl)
    (queue : ∀ x, (f x).queue.length ≤ x.queue.length := by intro x; exact Nat.le_refl _) : s.BothKept (s.modLane l f) :=
  modLane_bothKept s l f fun h => h.of_parcel (parcel _) (queue _)

theorem modSlot_bothKept (s : State) (x : SlotId) (f : Slot → Slot) (h : (s.slot x).Follows (f (s.slot x))) :
    s.BothKept (s.modSlot x f) := by
  refine .of_slots (fun _ h => h) fun y => ?_
  rw [slot_modSlot]
  split
  · next e => subst e; exact h
  · exact ⟨id, rfl⟩

/-- An outcome or the time of the last valid answer is written into a slot (R76). -/
theorem modSlot_outcome_bothKept (s : State) (x : SlotId) (outcome : Option SweepOutcome) (last : Slot → Option Nat) :
    s.BothKept (s.modSlot x fun y => { y with outcome := outcome, lastValid := last y }) :=
  modSlot_bothKept s x _ ⟨fun h => ⟨h.address, h.range, h.score, h.most⟩, rfl⟩

theorem offer_bothKept (s : State) (item : Nat) (body : EventBody) : s.BothKept (s.offer item body) :=
  .elsewhere (by simp) (by simp)

/-! ### Settlement, retirement and aborts (R13, R64 to R66) -/

theorem settle_bothKept (s : State) (l : LaneId) (cause : EndCause) (retired : Nat) :
    s.BothKept (s.settle l cause retired) := by
  refine (modLane_bothKept s l Lane.settled settled_lawful).trans (.elsewhere ?_ ?_)
  · exact settle_lanes s l cause retired
  · rw [settle_bus]; rfl

theorem settlementTest_bothKept (s : State) (l : LaneId) : s.BothKept (s.settlementTest l) := by
  unfold State.settlementTest
  split
  · exact settle_bothKept s l _ 0
  · exact .refl s

theorem afterRetirement_bothKept (s : State) (it : Item) (tell : Bool) : s.BothKept (s.afterRetirement it tell) := by
  have told : ∀ u : State, u.BothKept (if tell && !it.decided then u.settlementTest it.lane else u) := fun u => by
    split
    · exact settlementTest_bothKept u it.lane
    · exact .refl u
  have ended : ∀ u : State, u.BothKept (if u.live = 0 then u.endTest else u) := fun u => by
    split
    · exact .elsewhere (by simp) (by simp)
    · exact .refl u
  have released : s.BothKept (s.releaseBank it.bank) := .elsewhere (by simp) (by simp)
  exact released.trans ((told _).trans (ended _))

theorem closeRecord_bothKept (s : State) (n : Nat) (it : Item) (final : EventBody) :
    s.BothKept (s.closeRecord n it final) :=
  (modLane_parcel_bothKept s it.lane (fun x => x.dropItem n) (queue := fun _ => List.length_filter_le _ _)).trans
    .elsewhere

theorem withdraw_bothKept (s : State) (n : Nat) (reason : WithdrawReason) (tell : Bool) :
    s.BothKept (s.withdraw n reason tell) := by
  unfold State.withdraw
  split
  · exact .refl s
  · exact (closeRecord_bothKept s n _ _).trans (afterRetirement_bothKept _ _ _)

theorem abort_bothKept (s : State) (l : LaneId) (reason : WithdrawReason) (cause : EndCause) :
    s.BothKept (s.abort l reason cause) := by
  have emptied := (State.BothKept.foldl (fun u n => withdraw_bothKept u n reason false) (s.lanes.at l).queue s).trans
    (modLane_parcel_bothKept _ l (fun x => { x with queue := [], verdict := .none, timer := none })
      (queue := fun _ => Nat.zero_le _))
  unfold State.abort
  dsimp only
  split
  · exact emptied
  · exact emptied.trans (settle_bothKept _ _ _ _)

/-! ### Decisions (R115, R117) and the requests of the Item Table (R15 to R18) -/

theorem decideItem_bothKept (s : State) (n : Nat) : s.BothKept (s.decideItem n) := by
  cases live : s.item n with
  | none => rw [decideItem_of_none live]; exact .refl s
  | some it =>
    cases undecided : it.decided with
    | true => rw [decideItem_of_decided live undecided]; exact .refl s
    | false =>
      have made : s.BothKept (s.decisionMade n it) :=
        (modLane_parcel_bothKept s it.lane fun x => x.stopTimer n).trans <| .elsewhere (decisionMade_lanes s n it) <| by
          have bus := decisionMade_keeps s n it (fun x => x.bus) offer_bus
          rw [bus]
          exact congrArg StationBus.roster (countFound_bus s it _)
      rw [decideItem_eq live undecided]
      exact made.trans (settlementTest_bothKept _ _)

theorem testItem_bothKept (s : State) (n : Nat) : s.BothKept (s.testItem n) := by
  rcases testItem_cases s n with h | h <;> rw [h]
  · exact .refl s
  · exact decideItem_bothKept s n

theorem retest_bothKept (s : State) (l : LaneId) : s.BothKept (s.retest l) := by
  refine State.BothKept.foldl (fun u n => ?_) _ s
  split
  · exact .refl u
  · split
    · exact testItem_bothKept u n
    · exact .refl u

theorem withdrawItem_bothKept (n : Nat) (s : State) : s.BothKept (withdrawItem n s).state := by
  unfold withdrawItem
  repeat' split
  exacts [.refl s, withdraw_bothKept s n .host true, .elsewhere]

theorem forceGrade_bothKept (n : Nat) (grade : Coded Grade) (s : State) : s.BothKept (forceGrade n grade s).state := by
  unfold forceGrade
  repeat' split
  · exact .refl s
  · exact .refl s
  · exact .elsewhere (by simp [State.done]) (by simp [State.done])
  · next it _ _ _ _ _ =>
    exact (modLane_parcel_bothKept s it.lane fun x => x.stopTimer n).trans <|
      (State.BothKept.elsewhere (by simp) (by simp)).trans (settlementTest_bothKept _ _)

/-! ### The Station Bus (R71 to R91) -/

theorem endTurn_bothKept (s : State) : s.BothKept s.endTurn := .elsewhere

theorem noteValid_bothKept (s : State) (x : SlotId) : s.BothKept (s.endTurn.noteValid x) :=
  (endTurn_bothKept s).trans (modSlot_outcome_bothKept _ x _ _)

theorem noteGarbled_bothKept (s : State) (x : SlotId) : s.BothKept (s.endTurn.noteGarbled x) :=
  (endTurn_bothKept s).trans (modSlot_outcome_bothKept _ x _ Slot.lastValid)

theorem takeAnswer_bothKept (s : State) (a : AnswerHead) (fromRole : Role → Bool) (dataOk : Bool)
    (act : SlotId → State → State) (h : ∀ x u, State.BothKept u (act x u)) :
    s.BothKept (s.takeAnswer a fromRole dataOk act) := by
  unfold State.takeAnswer
  repeat' split
  exacts [.refl s, (noteValid_bothKept s _).trans (h _ _), noteGarbled_bothKept s _, endTurn_bothKept s]

theorem takeGarbled_bothKept (s : State) : s.BothKept s.takeGarbled := by
  unfold State.takeGarbled
  repeat' split
  exacts [.refl s, noteGarbled_bothKept s _, endTurn_bothKept s]

theorem turnPassed_bothKept (s : State) (partialAnswer : Bool) : s.BothKept (s.turnPassed partialAnswer) := by
  unfold State.turnPassed
  repeat' split
  exacts [.refl s, noteGarbled_bothKept s _, endTurn_bothKept s]

theorem modItem_testItem_bothKept (s : State) (n : Nat) (f : Item → Item) : s.BothKept ((s.modItem n f).testItem n) :=
  (State.BothKept.elsewhere (t := s.modItem n f)).trans (testItem_bothKept _ n)

theorem deliver_bothKept (s : State) (x : SlotId) (ticket : Nat) (kind : ReportKind) (write : Item → Item) :
    s.BothKept (s.deliver x ticket kind write) := by
  unfold State.deliver
  repeat' split
  exacts [offer_bothKept _ _ _, offer_bothKept _ _ _, modItem_testItem_bothKept s _ _, offer_bothKept _ _ _,
    offer_bothKept _ _ _]

theorem roleDown_bothKept (s : State) (x : SlotId) : s.BothKept (s.roleDown x) := by
  have lost : ∀ (u : State) n, u.BothKept (u.loseRole x.role n) := fun u n => by
    unfold State.loseRole
    repeat' split
    exacts [.refl u, modItem_testItem_bothKept u n _, .refl u]
  unfold State.roleDown
  split
  · exact State.BothKept.foldl lost _ s
  · exact .refl s

/-- R79 to R82: the slot is scored, and may change between UP and DOWN. -/
theorem scoreSlot_bothKept (s : State) (x : SlotId) : s.BothKept (s.scoreSlot x) := by
  unfold State.scoreSlot
  split
  · exact .refl s
  · next o _ =>
    dsimp only
    have scored : s.BothKept (s.modSlot x fun _ => (s.slot x).scored o) :=
      modSlot_bothKept s x _ (scored_follows _ o)
    have slot : (s.modSlot x fun _ => (s.slot x).scored o).slot x = (s.slot x).scored o := by
      rw [slot_modSlot, if_pos rfl]
    have changed : ∀ state, ((s.slot x).scored o).state ≠ .vacant → state ≠ .vacant →
        (s.modSlot x fun _ => (s.slot x).scored o).BothKept
          ((s.modSlot x fun _ => (s.slot x).scored o).modSlot x fun y => { y with state := state }) :=
      fun state enrolled h => modSlot_bothKept _ x _ (by rw [slot]; exact enrolled_follows enrolled h)
    refine scored.trans ?_
    split
    · next up =>
      exact (changed .down (by simp [up.1]) nofun).trans ((offer_bothKept _ _ _).trans (roleDown_bothKept _ x))
    · split
      · next down => exact (changed .up (by simp [down.1]) nofun).trans (offer_bothKept _ _ _)
      · exact .refl _

/-- A change made to every slot of the roster. -/
theorem follows_of_roster_map (s : State) {t : State} {f : Slot → Slot} (follows : ∀ y : Slot, y.Follows (f y))
    (roster : t.bus.roster = s.bus.roster.map fun lane => lane.map f) (x : SlotId) :
    (s.slot x).Follows (t.slot x) := by
  have slot : t.slot x = f (s.slot x) := by
    unfold State.slot
    rw [roster, quad_at_map, perRole_at_map]
  rw [slot]
  exact follows _

theorem rolled_follows (x : Slot) : x.Follows x.rolled := ⟨fun h => ⟨h.address, h.range, h.score, h.most⟩, rfl⟩

/-- R74, R75: a sweep begins with every lane's verdict taken and every enrolled slot SILENT. -/
theorem beginSweep_bothKept (s : State) : s.BothKept s.beginSweep := by
  unfold State.beginSweep
  dsimp only
  split
  · exact .refl s
  · refine .of_slots (fun l h => ?_) fun x => follows_of_roster_map s rolled_follows rfl x
    rw [quad_at_map]
    exact h.of_parcel rfl (Nat.le_refl _)

theorem sweepExpiry_bothKept (s : State) : s.BothKept s.sweepExpiry := by
  have closed : s.BothKept s.closeSweep := by
    unfold State.closeSweep
    split
    · exact .refl s
    · exact (State.BothKept.foldl scoreSlot_bothKept _ s).trans .elsewhere
  exact closed.trans <| (beginSweep_bothKept _).trans .elsewhere

/-- R71: the address that a slot is enrolled at is in range, and no other slot's. -/
theorem enrolStation_bothKept (lane : Nat) (role : Coded Role) (address : Nat) (s : State) :
    s.BothKept (enrolStation lane role address s).state := by
  unfold enrolStation
  split
  · exact .refl s
  · next x _ =>
    split
    · exact .refl s
    · next inRange =>
      repeat' split
      · exact .refl s
      · exact .refl s
      · exact .refl s
      · next free =>
        have new : ∀ y, (s.slot y).address ≠ some address := fun y hy =>
          free (List.any_eq_true.2 ⟨y, mem_allSlots y, decide_eq_true hy⟩)
        refine ⟨fun _ h => h, fun h => ?_⟩
        obtain ⟨lawful, apart⟩ := (rosterLawful_iff s).1 h
        refine (rosterLawful_iff _).2 ⟨fun y => ?_, fun y z a hy hz => ?_⟩
        · show ((s.modSlot x _).slot y).Lawful
          rw [slot_modSlot]
          split
          · refine ⟨rfl, fun a ha => ?_, Nat.le_refl _, Nat.zero_le _⟩
            cases ha
            omega
          · exact lawful y
        · change ((s.modSlot x _).slot y).address = some a at hy
          change ((s.modSlot x _).slot z).address = some a at hz
          rw [slot_modSlot] at hy hz
          split at hy <;> split at hz
          · next hy' hz' => exact hy'.symm.trans hz'
          · cases hy; exact absurd hz (new z)
          · cases hz; exact absurd hy (new y)
          · exact apart y z a hy hz

/-- R72: a slot that leaves the roster gives up its address. -/
theorem retireStation_bothKept (lane : Nat) (role : Coded Role) (s : State) :
    s.BothKept (retireStation lane role s).state := by
  unfold retireStation
  repeat' split
  · exact .refl s
  · exact .refl s
  · exact .refl s
  · next x _ _ _ =>
    refine ⟨fun _ h => h, fun h => ?_⟩
    obtain ⟨lawful, apart⟩ := (rosterLawful_iff s).1 h
    have address : ∀ y a, ((s.modSlot x fun _ => Slot.vacant).slot y).address = some a →
        (s.slot y).address = some a := fun y a hy => by
      rw [slot_modSlot] at hy
      split at hy
      · cases hy
      · exact hy
    refine (rosterLawful_iff _).2 ⟨fun y => ?_, fun y z a hy hz => apart y z a (address y a hy) (address z a hz)⟩
    show ((s.modSlot x fun _ => Slot.vacant).slot y).Lawful
    rw [slot_modSlot]
    split
    · exact ⟨rfl, nofun, Nat.le_refl _, Nat.zero_le _⟩
    · exact lawful y

/-- R73: the maximum score starts again from the score. -/
theorem readStation_bothKept (lane : Nat) (role : Coded Role) (s : State) :
    s.BothKept (readStation lane role s).state := by
  unfold readStation
  split
  · exact .refl s
  · exact modSlot_bothKept s _ _
      ⟨fun h => ⟨h.address, h.range, Nat.le_refl _, h.score.trans h.most⟩, rfl⟩

/-! ### The Return Table (R29 to R38) -/

theorem loadReturn_bothKept (r : ReturnLoad) (s : State) : s.BothKept (loadReturn r s).state := by
  have filled : ∀ (f : Ra → Ra) (l : Option LaneId), s.BothKept
      ((l.map fun l => (s.modRa r.ra f).retest l).getD (s.modRa r.ra f)) := fun f l => by
    refine (State.BothKept.elsewhere (t := s.modRa r.ra f)).trans ?_
    cases l with
    | none => exact .refl _
    | some l => exact retest_bothKept _ l
  unfold loadReturn
  repeat' split
  exacts [.refl s, .refl s, .refl s, .elsewhere, .refl s, .refl s, .refl s, filled _ _]

theorem manifestExpiry_bothKept (s : State) (n : Nat) : s.BothKept (s.manifestExpiry n) := by
  have overdue : ∀ r, s.BothKept (s.manifestOverdue n r) := fun r => by
    unfold State.manifestOverdue
    dsimp only
    refine (State.BothKept.elsewhere (t := s.modRa n fun x => { x with state := .overdue, timer := none })).trans ?_
    split
    · exact .refl _
    · exact (offer_bothKept _ _ _).trans (retest_bothKept _ _)
  unfold State.manifestExpiry
  repeat' split
  exacts [.refl s, .refl s, overdue _, .refl s]

/-! ### The Lane Controllers (R51 to R66) -/

theorem openParcel_bothKept (lane account : Nat) (pairs : List (Nat × Nat)) (s : State) :
    s.BothKept (openParcel lane account pairs s).state := by
  unfold openParcel
  split
  · exact .refl s
  · next l _ =>
    split
    · exact .refl s
    · next inRange =>
      simp only [Bool.or_eq_true, List.isEmpty_iff, decide_eq_true_eq, not_or] at inRange
      obtain ⟨⟨some, four⟩, _⟩ := inRange
      have opened : s.BothKept (s.openParcel l account pairs) := by
        have bound : s.BothKept (s.pairsBound l account pairs) :=
          .elsewhere (pairsBound_lanes l account s pairs) <| congrArg StationBus.roster <|
            foldl_keeps (fun x => x.bus) _ (fun u p => by rw [bindPair_eq]; rfl) pairs s
        refine bound.trans (modLane_bothKept _ l _ fun h => opening_lawful h account ?_ ?_)
        · rw [List.length_map]; exact List.length_pos_iff.2 some
        · rw [List.length_map]; exact Nat.not_lt.1 four
      repeat' split
      exacts [.refl s, .refl s, .refl s, .refl s, .refl s, opened]

/-- R55: a lane whose queue is full refuses an item. -/
theorem queue_room_of_admitted {s : State} {l : LaneId} (h : s.entryRefusal l = none) :
    (s.lanes.at l).queue.length < 6 := by
  by_contra full
  have full : Config.laneQueue ≤ (s.lanes.at l).queue.length := Nat.not_lt.1 full
  unfold State.entryRefusal at h
  rw [if_pos full] at h
  repeat' split at h
  all_goals cases h

theorem presented_bothKept (s : State) (l : LaneId) : s.BothKept (s.presented l) := by
  have created : ∀ number ticket, (s.lanes.at l).queue.length < 6 → s.BothKept (s.createItem l number ticket) :=
    fun number ticket room =>
      (modLane_bothKept s l _ fun h => admitted_lawful h room number ticket).trans .elsewhere
  have afresh : s.BothKept (s.presentAfresh l) := by
    unfold State.presentAfresh
    split
    · next admitted =>
      unfold State.admission
      split
      · exact (created _ _ (queue_room_of_admitted admitted)).trans (testItem_bothKept _ _)
      · exact .refl s
    · exact modLane_parcel_bothKept s l _
  unfold State.presented
  split
  exacts [.refl s, afresh, afresh]

theorem atEnd_bothKept (s : State) (l : LaneId) (ticket : Nat) : s.BothKept (s.atEnd l ticket) := by
  have arrives : ∀ (u : State) n, u.BothKept (u.arrive l n) := fun u n => by
    unfold State.arrive
    repeat' split
    exacts [.refl u, (State.BothKept.elsewhere (t := u.modItem n _)).trans (modLane_parcel_bothKept _ l _), .elsewhere,
      .refl u, .refl u, .refl u]
  unfold State.atEnd
  dsimp only
  split
  · exact offer_bothKept _ _ _
  · exact (State.BothKept.foldl (fun u m => withdraw_bothKept u m .skipped true) _ s).trans (arrives _ _)

theorem decisionExpiry_bothKept (s : State) (l : LaneId) : s.BothKept (s.decisionExpiry l) := by
  have atOnce : ∀ (u : State) n, u.BothKept (u.decideAtOnce n) := fun u n => by
    unfold State.decideAtOnce
    repeat' split
    exacts [.refl u, .refl u, (State.BothKept.elsewhere (t := u.modItem n Item.giveUp)).trans (decideItem_bothKept _ _)]
  unfold State.decisionExpiry
  repeat' split
  exacts [.refl s, (modLane_parcel_bothKept s l fun x => { x with timer := none }).trans (atOnce _ _), .refl s]

theorem close_bothKept (s : State) (l : LaneId) (cause : CloseCause) (opened : (s.lanes.at l).state = .opened) :
    s.BothKept (s.close l cause) :=
  (modLane_bothKept s l _ fun h => closing_lawful_of_opened h opened cause).trans (settlementTest_bothKept _ l)

theorem closeParcel_bothKept (lane : Nat) (s : State) : s.BothKept (closeParcel lane s).state := by
  unfold closeParcel
  split
  · exact .refl s
  · split
    · exact .refl s
    · next opened => exact close_bothKept s _ .host opened
    · exact .refl s

theorem parcelDone_bothKept (s : State) (l : LaneId) : s.BothKept (s.parcelDone l) := by
  unfold State.parcelDone
  split
  · exact .refl s
  · next opened => exact close_bothKept s l .key opened
  · exact .refl s

theorem abortLane_bothKept (lane : Nat) (s : State) : s.BothKept (abortLane lane s).state := by
  unfold abortLane
  split
  exacts [.refl s, abort_bothKept s _ _ _]

/-! ### The Plan Store and the Destination Controller (R99 to R108, R155 to R166) -/

theorem writeBank_bothKept (inRange : Bool) (f : Bank → Bank) (s : State) : s.BothKept (s.writeBank inRange f).state := by
  unfold State.writeBank
  repeat' split
  all_goals exact .elsewhere

theorem switchPlan_bothKept (s : State) : s.BothKept (switchPlan s).state := by
  have switched : s.BothKept s.switchBanks := by
    unfold State.switchBanks
    cases s.activeBank <;> exact .elsewhere (by simp) (by simp)
  unfold switchPlan
  repeat' split
  exacts [.elsewhere, .elsewhere, switched]

theorem advance_bothKept (s : State) (d : Nat) : s.BothKept (s.advance d) := .elsewhere (by simp) (by simp)

theorem complete_bothKept (s : State) (d : Nat) (t : Tote) (reason : CompletionReason) (item : Nat) :
    s.BothKept (s.complete d t reason item) := .elsewhere (by simp) (by simp)

theorem confirmSwap_bothKept (d : Nat) (s : State) : s.BothKept (confirmSwap d s).state := by
  unfold confirmSwap
  repeat' split
  exacts [.refl s, advance_bothKept s d, .refl s, .refl s, .refl s]

theorem setLimit_bothKept (d : Nat) (limit : Option Nat) (s : State) : s.BothKept (setLimit d limit s).state := by
  have released : ∀ u : State, u.BothKept (u.releaseLimit d) := fun u => by
    unfold State.releaseLimit
    repeat' split
    exacts [.refl u, advance_bothKept u d, .refl u, .refl u, .refl u]
  unfold setLimit
  split
  exacts [.refl s, (State.BothKept.elsewhere (t := s.modDest d fun x => { x with limit := limit })).trans (released _)]

theorem closeTote_bothKept (d tote : Nat) (s : State) : s.BothKept (closeTote d tote s).state := by
  unfold closeTote
  repeat' split
  exacts [.refl s, .refl s, .refl s, complete_bothKept s d _ .forced 0, .refl s, .refl s]

/-! ### The Sorter Tracker (R133 to R147) -/

/-- R139: a granted item leaves the head of its lane's queue. -/
theorem grant_bothKept (s : State) (l : LaneId) (n carrier : Nat) : s.BothKept (s.grant l n carrier) :=
  (modLane_parcel_bothKept s l (fun x => { x with queue := x.queue.tail })
    (queue := fun x => by rw [List.length_tail]; exact Nat.sub_le _ _)).trans .elsewhere

theorem mergeWork_bothKept (s : State) : s.BothKept s.mergeWork := by
  unfold State.mergeWork
  dsimp only
  repeat' split
  exacts [.elsewhere, grant_bothKept s _ _ _, .refl s, .refl s]

theorem claim_bothKept (s : State) (n : Nat) (it : Item) (d : Nat) : s.BothKept (s.claim n it d) := by
  have dropped : ∀ t w, s.BothKept (s.acceptDrop n it d t w) := fun t w => by
    have fired : ∀ f : Destination → Destination, s.BothKept ((s.modDest d f).fireGate d) := fun _ => .elsewhere
    have after : ∀ (u : State) t, u.BothKept (u.afterDrop d t n) := fun _ _ => .elsewhere (by simp) (by simp)
    exact (fired _).trans <| (closeRecord_bothKept _ n it _).trans <|
      (after _ _).trans (afterRetirement_bothKept _ it true)
  unfold State.claim
  dsimp only
  repeat' split
  exacts [.refl s, .refl s, .elsewhere, complete_bothKept s d _ _ n, dropped _ _]

theorem gateWork_bothKept (s : State) (g : Nat) : s.BothKept (s.gateWork g) := by
  unfold State.gateWork
  repeat' split
  · exact .refl s
  · exact .refl s
  · exact claim_bothKept s _ _ _
  · exact .refl s
  · exact (State.BothKept.elsewhere (t := s.fireGate 16)).trans <|
      (closeRecord_bothKept _ _ _ _).trans (afterRetirement_bothKept _ _ true)
  · exact .refl s

theorem setPause_bothKept (s : State) (why : PauseCause) (cause : LineCause) : s.BothKept (s.setPause why cause) :=
  .elsewhere (by simp) (by simp)

theorem countDraw_bothKept (s : State) (choices : Nat) : s.BothKept (s.countDraw choices) :=
  .elsewhere (by simp) (by simp)

theorem pitch_bothKept (s : State) : s.BothKept s.pitch := by
  have act : ∀ (u : State) a, u.BothKept (u.pitchAct a) := fun u a => by
    cases a with
    | indexMissing => exact (offer_bothKept u _ _).trans (setPause_bothKept _ _ _)
    | merge => exact mergeWork_bothKept u
    | gate g => exact gateWork_bothKept u g
  exact (State.BothKept.elsewhere (t := { s with sorter := s.sorter.advance })).trans <|
    (State.BothKept.foldl act _ _).trans (countDraw_bothKept _ _)

/-! ### The Line Controller (R172 to R183) -/

theorem offerLineState_bothKept (s : State) (line : LineControl) (cause : LineCause) :
    s.BothKept (State.offerLineState { s with line := line } cause) := .elsewhere (by simp) (by simp)

theorem startLine_bothKept (s : State) : s.BothKept (startLine s).state := by
  unfold startLine
  repeat' split
  exacts [.refl s, .refl s, .refl s, .refl s, .refl s, offerLineState_bothKept s _ _]

theorem clearPause_bothKept (s : State) : s.BothKept s.clearPause := by
  unfold State.clearPause
  split
  exacts [offerLineState_bothKept s _ _, .refl s]

theorem stopAs_bothKept (s : State) (kind : StopKind) : s.BothKept (s.stopAs kind) := by
  have stopped : s.BothKept
      (State.offerLineState { s with line := { s.line with mode := .draining kind } } .stop).endTest :=
    .elsewhere (by simp) (by simp)
  have cut : ∀ u : State, u.BothKept u.cutLanes := fun u =>
    (State.BothKept.foldl (fun u l => abort_bothKept u l .cut .cut) _ u).trans <|
      (State.BothKept.foldl (fun u l => abort_bothKept u l .cut .cut) _ _).trans (countDraw_bothKept _ _)
  unfold State.stopAs
  cases kind with
  | drain => exact stopped
  | cut => exact stopped.trans <| (cut _).trans .elsewhere

theorem stopLine_bothKept (kind : Coded StopKind) (s : State) : s.BothKept (stopLine kind s).state := by
  have stopped : ∀ kind, s.BothKept (s.stop kind) := fun kind => by
    unfold State.stop
    split
    exacts [.refl s, stopAs_bothKept s _, stopAs_bothKept s _, .refl s, .refl s]
  unfold stopLine
  repeat' split
  exacts [.refl s, .refl s, stopped _]

theorem configure_bothKept (name : SettingName) (value : SettingValue) (s : State) :
    s.BothKept (configure name value s).state := by
  have written : s.BothKept (s.writeSetting name value) := by
    unfold State.writeSetting
    split <;> exact .elsewhere
  unfold configure
  repeat' split
  exacts [.refl s, .refl s, .refl s, written]

theorem warm_bothKept (s : State) : s.BothKept s.warm := by
  refine .of_slots (fun l h => ?_) fun x => follows_of_roster_map s warm_follows rfl x
  show ((s.lanes.map Lane.warm).at l).Lawful
  rw [quad_at_map]
  exact warm_lane_lawful h

theorem cold_bothKept (s : State) (holdHigh : Bool) (strap : LinkRate) (pending : List Instr) (draws : Nat) :
    s.BothKept (State.cold holdHigh strap pending draws) := by
  refine ⟨fun l _ => ?_, fun _ => (by decide : (State.cold false .baud115200 [] 0).rosterLawful = true)⟩
  have cold : (State.cold holdHigh strap pending draws).lanes.at l = Lane.cold := by cases l <;> rfl
  rw [cold]
  exact cold_lane_lawful

/-! ### The clock and the link (R61, R171, R184 to R191) -/

theorem tick_bothKept (s : State) : s.BothKept s.tick := by
  have waits : s.BothKept s.countWaits := by
    unfold State.countWaits
    split
    · exact .refl s
    · refine ⟨fun l h => ?_, State.BothKept.roster_of_eq rfl⟩
      rw [quad_at_map]
      exact h.of_parcel rfl (Nat.le_refl _)
  exact waits.trans <| (State.BothKept.elsewhere).trans (countDraw_bothKept _ _)

theorem serve_bothKept (s : State) (tag kind : Nat) (act : State → Answer)
    (h : ∀ u : State, u.BothKept (act u).state) : s.BothKept (s.serve tag kind act) := by
  have taken : s.BothKept s.frameTaken := .elsewhere
  unfold State.serve
  dsimp only
  split
  · exact taken.trans (.elsewhere (by simp) (by simp))
  · exact taken.trans <| (h _).trans (.elsewhere (by simp) (by simp))

/-! ### Every step -/

theorem bothKept_of_state_eq {act : State → Answer} (h : ∀ u, (act u).state = u) (u : State) :
    u.BothKept (act u).state := by
  rw [h]; exact .refl u

theorem request_bothKept (c : Instr) (tag kind : Nat) (act : State → Answer) (h : requestAct c = some (tag, kind, act))
    (u : State) : u.BothKept (act u).state := by
  cases c with
  | readItem tag item => cases h; exact bothKept_of_state_eq (readItem_state item) u
  | withdrawItem tag item => cases h; exact withdrawItem_bothKept item u
  | forceGrade tag item grade => cases h; exact forceGrade_bothKept item grade u
  | loadReturn tag load => cases h; exact loadReturn_bothKept load u
  | addTags =>
    cases h
    unfold addTags
    repeat' split
    all_goals exact .elsewhere
  | amendReturn =>
    cases h
    unfold amendReturn
    repeat' split
    all_goals exact .elsewhere
  | removeReturn =>
    cases h
    unfold removeReturn
    repeat' split
    all_goals exact .elsewhere
  | readReturn tag ra line => cases h; exact bothKept_of_state_eq (readReturn_state ra line) u
  | openParcel tag lane account pairs => cases h; exact openParcel_bothKept lane account pairs u
  | closeParcel tag lane => cases h; exact closeParcel_bothKept lane u
  | abortLane tag lane => cases h; exact abortLane_bothKept lane u
  | enrolStation tag lane role address => cases h; exact enrolStation_bothKept lane role address u
  | retireStation tag lane role => cases h; exact retireStation_bothKept lane role u
  | readStation tag lane role => cases h; exact readStation_bothKept lane role u
  | writeCheck => cases h; unfold writeCheck; split <;> exact writeBank_bothKept _ _ u
  | writeList | writeProgram | writeThresholds | writeMap => cases h; exact writeBank_bothKept _ _ u
  | clearBank => cases h; unfold clearBank; split <;> exact .elsewhere
  | validatePlan =>
    cases h
    unfold validatePlan
    repeat' split
    all_goals exact .elsewhere
  | switchPlan tag => cases h; exact switchPlan_bothKept u
  | setShadow => cases h; unfold setShadow; split <;> exact .elsewhere
  | addTote =>
    cases h
    unfold addTote
    repeat' split
    all_goals exact .elsewhere
  | confirmSwap tag dest => cases h; exact confirmSwap_bothKept dest u
  | setLimit tag dest limit => cases h; exact setLimit_bothKept dest limit u
  | closeTote tag dest tote => cases h; exact closeTote_bothKept dest tote u
  | dropChain => cases h; unfold dropChain; split <;> exact .elsewhere
  | readDestination tag dest => cases h; exact bothKept_of_state_eq (readDestination_state dest) u
  | startLine tag => cases h; exact startLine_bothKept u
  | pauseLine => cases h; exact setPause_bothKept u _ _
  | resumeLine tag => cases h; exact clearPause_bothKept u
  | stopLine tag kind => cases h; exact stopLine_bothKept kind u
  | configure tag name value => cases h; exact configure_bothKept name value u
  | readSetting tag name => cases h; exact bothKept_of_state_eq (readSetting_state name) u
  | fetchEvents => cases h; unfold fetchEvents; split <;> exact .elsewhere
  | warmReset | readStatus | unknownRequest | malformedRequest => cases h; exact .refl u
  | _ => cases h

/-- Whatever the command, it keeps the law of each lane, and that of the roster. -/
theorem exec_bothKept (c : Instr) (s : State) : ∃ t, exec c s = .next t ∧ s.BothKept t := by
  cases hc : requestAct c with
  | some r =>
    obtain ⟨tag, kind, act⟩ := r
    exact ⟨_, exec_request c tag kind act hc s, serve_bothKept s tag kind act (request_bothKept c tag kind act hc)⟩
  | none =>
    cases c with
    | coldReset holdHigh strap => exact ⟨_, rfl, cold_bothKept s holdHigh strap _ _⟩
    | warmResetActs =>
      refine ⟨_, rfl, ?_⟩
      split
      exacts [warm_bothKept s, .refl s]
    | hold high =>
      refine ⟨_, rfl, ?_⟩
      unfold State.holdLevel
      split
      exacts [.refl s, offerLineState_bothKept s _ _]
    | pitch => exact ⟨_, rfl, pitch_bothKept s⟩
    | index =>
      refine ⟨_, rfl, ?_⟩
      unfold State.indexEdge
      repeat' split
      exacts [.elsewhere, .elsewhere (by simp [State.slip]) (by simp [State.slip]), .elsewhere]
    | sweepTimer => exact ⟨_, rfl, sweepExpiry_bothKept s⟩
    | turnTimeout partialAnswer => exact ⟨_, rfl, turnPassed_bothKept s partialAnswer⟩
    | manifestWaitExpiry ra => exact ⟨_, rfl, manifestExpiry_bothKept s ra⟩
    | decisionWaitExpiry lane => exact ⟨_, rfl, decisionExpiry_bothKept s lane⟩
    | interbyteTimeout | frameDiscarded | replySent | sweepFrameSent => exact ⟨_, rfl, .elsewhere⟩
    | busy tag kind =>
      refine ⟨_, rfl, ?_⟩
      split
      · exact (State.BothKept.elsewhere (t := s.frameTaken)).trans (.elsewhere (by simp) (by simp))
      · exact .refl s
    | nothing a => exact ⟨_, rfl, takeAnswer_bothKept s a _ _ _ fun _ u => .refl u⟩
    | presented a => exact ⟨_, rfl, takeAnswer_bothKept s a _ _ _ fun x u => presented_bothKept u x.lane⟩
    | parcelDone a => exact ⟨_, rfl, takeAnswer_bothKept s a _ _ _ fun x u => parcelDone_bothKept u x.lane⟩
    | atEnd a => exact ⟨_, rfl, takeAnswer_bothKept s a _ _ _ fun x u => atEnd_bothKept u x.lane a.ticket⟩
    | tagReading a | weight a | vision a =>
      exact ⟨_, rfl, takeAnswer_bothKept s a _ _ _ fun x u => deliver_bothKept u x _ _ _⟩
    | garbledAnswer => exact ⟨_, rfl, takeGarbled_bothKept s⟩
    | answerOutsideTurn => exact ⟨_, rfl, .refl s⟩
    | _ => cases hc

theorem step_bothKept {s t : State} (h : step s = .next t) : s.BothKept t := by
  unfold step at h
  split at h
  · cases h
    exact tick_bothKept s
  · next c rest _ =>
    obtain ⟨u, hu, kept⟩ := exec_bothKept c { s with pending := rest }
    rw [hu] at h
    cases h
    exact (State.BothKept.elsewhere (t := { s with pending := rest })).trans kept

/-- Settles O57: every act of a step keeps the law of each lane, and that of the roster. -/
theorem everyStepKeepsLanesAndRoster : Obligations.EveryStepKeepsLanesAndRoster := fun s t h =>
  ⟨fun lawful => (lanesLawful_iff t).2 fun l => (step_bothKept h).lanes l ((lanesLawful_iff s).1 lawful l),
    (step_bothKept h).roster⟩

end Sys2Proof.Machine
end

section
/-! OPEN PARCEL (R51 to R53): its tests in their order, and what it leaves when it is taken. -/

namespace Sys2Proof.Machine

/-! ### The test of the pairs (R52) -/

/-- How many placeholders the pairs need. -/
def State.placeholdersFor (s : State) (pairs : List (Nat × Nat)) : Nat := (pairs.filter fun q => (s.ra q.1).isNone).length

/-- The pair names an unknown RA, with room for `needed` placeholders, or an RA that the account's parcel can bind (R52). -/
def State.bindable (s : State) (account needed : Nat) (p : Nat × Nat) : Prop :=
  (s.ra p.1 = none ∧ s.returns.records.size + needed ≤ 1024) ∨
    ∃ r, s.ra p.1 = some r ∧ (r.state = .loaded ∨ r.state = .short) ∧ r.account = account ∧ r.label = p.2

theorem placeholdersFor_cons (s : State) (p : Nat × Nat) (rest : List (Nat × Nat)) :
    s.placeholdersFor (p :: rest) = (if (s.ra p.1).isNone then 1 else 0) + s.placeholdersFor rest := by
  unfold State.placeholdersFor
  rw [List.filter_cons]
  split
  · rw [List.length_cons, Nat.add_comm]
  · rw [Nat.zero_add]

section Pair

variable {s : State} {account earlier : Nat} {p : Nat × Nat} {r : Ra}

/-- A record that no parcel holds is tested for its account, then for its label. -/
theorem pairFault_of_free (hr : s.ra p.1 = some r) (free : r.state = .loaded ∨ r.state = .short) :
    s.pairFault account earlier p =
      if r.account ≠ account then some .notOneAccount else if r.label ≠ p.2 then some .staleLabel else none := by
  rcases free with h | h <;> simp only [State.pairFault, hr, h]

theorem pairFault_of_held (hr : s.ra p.1 = some r) (held : r.state = .bound ∨ r.state = .expected ∨ r.state = .overdue) :
    s.pairFault account earlier p = some .inUse := by
  rcases held with h | h | h <;> simp only [State.pairFault, hr, h]

theorem pairFault_of_complete (hr : s.ra p.1 = some r) (complete : r.state = .complete) :
    s.pairFault account earlier p = some .alreadyComplete := by
  simp only [State.pairFault, hr, complete]

theorem pairFault_of_unknown (none : s.ra p.1 = none) :
    s.pairFault account earlier p = if 1024 ≤ s.returns.records.size + earlier then some .full else .none := by
  simp only [State.pairFault, none]
  rfl

theorem pairFault_of_bindable {needed : Nat} (h : s.bindable account needed p)
    (place : s.ra p.1 = none → earlier < needed) : s.pairFault account earlier p = none := by
  rcases h with ⟨unknown, room⟩ | ⟨r, hr, free, same, label⟩
  · have := place unknown
    rw [pairFault_of_unknown unknown, if_neg (by omega)]
  · rw [pairFault_of_free hr free, if_neg (by simpa using same), if_neg (by simpa using label)]

end Pair

/-- The pairs that can be bound are passed by, and the placeholders they need are counted. -/
theorem firstPairFault_append {s : State} {account : Nat} (before rest : List (Nat × Nat)) {earlier : Nat}
    (h : ∀ q ∈ before, s.bindable account (earlier + s.placeholdersFor before) q) :
    s.firstPairFault account earlier (before ++ rest) =
      s.firstPairFault account (earlier + s.placeholdersFor before) rest := by
  induction before generalizing earlier with
  | nil => rfl
  | cons q before ih =>
    rw [placeholdersFor_cons, ← Nat.add_assoc] at h ⊢
    have noFault : s.pairFault account earlier q = none :=
      pairFault_of_bindable (h q List.mem_cons_self) fun unknown => by simp [unknown]; omega
    have next : (if s.returns.records.has q.1 then earlier else earlier + 1) =
        earlier + if (s.ra q.1).isNone then 1 else 0 := by
      unfold Table.has State.ra
      cases s.returns.records.lookup q.1 <;> rfl
    rw [List.cons_append, State.firstPairFault, noFault]
    dsimp only
    rw [next]
    exact ih fun q' hq' => h q' (List.mem_cons_of_mem q hq')

theorem firstPairFault_of_bindable {s : State} {account : Nat} {pairs : List (Nat × Nat)}
    (h : ∀ q ∈ pairs, s.bindable account (s.placeholdersFor pairs) q) : s.firstPairFault account 0 pairs = none := by
  have passed := firstPairFault_append (earlier := 0) pairs [] (by simpa using h)
  rw [List.append_nil] at passed
  exact passed

/-- The first pair at fault gives the reason, with its RA (R51). -/
theorem firstPairFault_of_fault {s : State} {account : Nat} {before after : List (Nat × Nat)} {p : Nat × Nat}
    {reason : RefusalReason} (h : ∀ q ∈ before, s.bindable account (s.placeholdersFor before) q)
    (fault : s.pairFault account (s.placeholdersFor before) p = some reason) :
    s.firstPairFault account 0 (before ++ p :: after) = some (reason, p.1) := by
  rw [firstPairFault_append (earlier := 0) before (p :: after) (by simpa using h), Nat.zero_add, State.firstPairFault, fault]

/-! ### The tests of the request (R51) -/

/-- R51, test 1, of the pairs: none, more than four, or one that names RA 0. -/
def pairsBeyondRange (pairs : List (Nat × Nat)) : Prop := pairs = [] ∨ 4 < pairs.length ∨ ∃ p ∈ pairs, p.1 = 0

theorem pairsBeyondRange_tests (pairs : List (Nat × Nat)) :
    (pairs.isEmpty || decide (4 < pairs.length) || (pairs.any fun p => decide (p.1 = 0))) = true ↔
      pairsBeyondRange pairs := by
  simp [pairsBeyondRange, List.isEmpty_iff, or_assoc]

theorem not_pairsBeyondRange {pairs : List (Nat × Nat)} (one : 1 ≤ pairs.length) (four : pairs.length ≤ 4)
    (named : ∀ p ∈ pairs, p.1 ≠ 0) : ¬ pairsBeyondRange pairs := by
  rintro (rfl | many | ⟨p, hp, zero⟩)
  · exact Nat.not_succ_le_zero 0 one
  · exact Nat.not_le.2 many four
  · exact named p hp zero

section Tests

variable {s : State} {lane account : Nat} {pairs : List (Nat × Nat)} {l : LaneId}

theorem openParcel_outOfRange (h : laneOf lane = none ∨ pairsBeyondRange pairs) :
    openParcel lane account pairs s = s.refuse .outOfRange := by
  unfold openParcel
  split
  · rfl
  · next l hl => exact if_pos ((pairsBeyondRange_tests pairs).2 (h.resolve_left (by simp [hl])))

theorem openParcel_inUse (hl : laneOf lane = some l) (range : ¬ pairsBeyondRange pairs)
    (open' : (s.lanes.at l).state ≠ .idle) : openParcel lane account pairs s = s.refuse .inUse := by
  unfold openParcel
  rw [hl]
  dsimp only
  rw [if_neg (mt (pairsBeyondRange_tests pairs).1 range), if_pos open']

theorem openParcel_laneIncomplete (hl : laneOf lane = some l) (range : ¬ pairsBeyondRange pairs)
    (idle : (s.lanes.at l).state = .idle) (incomplete : s.usable l = false) :
    openParcel lane account pairs s = s.refuse .laneIncomplete := by
  unfold openParcel
  rw [hl]
  dsimp only
  rw [if_neg (mt (pairsBeyondRange_tests pairs).1 range), if_neg (not_not.2 idle), if_pos (by simp [incomplete])]

theorem isRunning_iff (m : LineMode) : m.isRunning = true ↔ m = .running := by
  cases m <;> simp [LineMode.isRunning]

theorem openParcel_lineState (hl : laneOf lane = some l) (range : ¬ pairsBeyondRange pairs)
    (idle : (s.lanes.at l).state = .idle) (usable : s.usable l = true) (mode : s.line.mode ≠ .running) :
    openParcel lane account pairs s = s.refuse .lineState := by
  unfold openParcel
  rw [hl]
  dsimp only
  rw [if_neg (mt (pairsBeyondRange_tests pairs).1 range), if_neg (not_not.2 idle), if_neg (by simp [usable]),
    if_pos (by simpa [← isRunning_iff] using mode)]

/-- The tests of R52, and the act (R53). -/
def State.openPairs (s : State) (l : LaneId) (account : Nat) (pairs : List (Nat × Nat)) : Answer :=
  if hasRepeat (pairs.map (·.1)) then s.refuse .contradiction
  else
    match s.firstPairFault account 0 pairs with
    | some (reason, ra) => s.refuseWith reason (.faultRa ra)
    | none => (s.openParcel l account pairs).done (.parcelOpened (wrapNext 0 65535 (s.lanes.at l).parcelCounter)
        (pairs.map fun p => s.returns.records.has p.1))

/-- Past the tests of the lane and the line, OPEN PARCEL goes by its pairs. -/
theorem openParcel_pairs (hl : laneOf lane = some l) (range : ¬ pairsBeyondRange pairs)
    (idle : (s.lanes.at l).state = .idle) (usable : s.usable l = true) (mode : s.line.mode = .running) :
    openParcel lane account pairs s = s.openPairs l account pairs := by
  unfold openParcel
  rw [hl]
  dsimp only
  rw [if_neg (mt (pairsBeyondRange_tests pairs).1 range), if_neg (not_not.2 idle), if_neg (by simp [usable]),
    if_neg (by simp [mode, LineMode.isRunning])]
  rfl

theorem openPairs_contradiction (repeats : ¬ (pairs.map fun p => p.1).Nodup) :
    s.openPairs l account pairs = s.refuse .contradiction :=
  if_pos (by rw [← Bool.not_eq_false, hasRepeat_eq_false_iff]; exact repeats)

theorem openPairs_refused {reason : RefusalReason} {ra : Nat} (nodup : (pairs.map fun p => p.1).Nodup)
    (fault : s.firstPairFault account 0 pairs = some (reason, ra)) :
    s.openPairs l account pairs = s.refuseWith reason (.faultRa ra) := by
  simp only [State.openPairs, (hasRepeat_eq_false_iff _).2 nodup, fault, Bool.false_eq_true, if_false]

theorem openPairs_taken (nodup : (pairs.map fun p => p.1).Nodup) (noFault : s.firstPairFault account 0 pairs = none) :
    s.openPairs l account pairs =
      (s.openParcel l account pairs).done (.parcelOpened (wrapNext 0 65535 (s.lanes.at l).parcelCounter)
        (pairs.map fun p => (s.ra p.1).isSome)) := by
  simp only [State.openPairs, (hasRepeat_eq_false_iff _).2 nodup, noFault, Bool.false_eq_true, if_false]
  rfl

end Tests

/-- Settles O18: the five tests of the request, then the first pair at fault. -/
theorem openParcelRefusals : Obligations.OpenParcelRefusals := by
  intro s tag lane account pairs h
  have refused : ∀ {reason data}, openParcel lane account pairs s.frameTaken = s.frameTaken.refuseWith reason data →
      exec (.openParcel tag lane account pairs) s = .next (s.answeredRefused tag 48 reason data) :=
    exec_refused (.openParcel tag lane account pairs) rfl h
  refine ⟨fun beyond => refused (openParcel_outOfRange beyond), fun l hl one four named => ?_⟩
  have range := not_pairsBeyondRange one four named
  refine ⟨fun open' => refused (openParcel_inUse hl range open'), fun idle =>
    ⟨fun incomplete => refused (openParcel_laneIncomplete hl range idle incomplete),
      fun usable mode => refused (openParcel_lineState hl range idle usable mode), fun usable mode repeats =>
        refused ((openParcel_pairs (s := s.frameTaken) hl range idle usable mode).trans (openPairs_contradiction repeats)),
      fun usable mode nodup before p after split passed => ?_⟩⟩
  have faulty : ∀ {reason}, s.pairFault account (s.placeholdersFor before) p = some reason →
      exec (.openParcel tag lane account pairs) s = .next (s.answeredRefused tag 48 reason (.faultRa p.1)) :=
    fun fault => by
      have first := firstPairFault_of_fault (s := s.frameTaken) (after := after) passed fault
      rw [← split] at first
      exact refused ((openParcel_pairs (s := s.frameTaken) hl range idle usable mode).trans (openPairs_refused nodup first))
  refine ⟨fun unknown full => faulty ((pairFault_of_unknown unknown).trans (if_pos full)), fun r hr =>
    ⟨fun free other => faulty ((pairFault_of_free hr free).trans (if_pos other)),
      fun free same stale => faulty ?_, fun held => faulty (pairFault_of_held hr held),
      fun complete => faulty (pairFault_of_complete hr complete)⟩⟩
  rw [pairFault_of_free hr free, if_neg (not_not.2 same), if_pos stale]

/-! ### What OPEN PARCEL leaves (R53) -/

theorem pairsBound_keeps {β : Type} (field : State → β) (h : ∀ (u : State) n r, field (u.putRa n r) = field u)
    (s : State) (l : LaneId) (account : Nat) (pairs : List (Nat × Nat)) :
    field (s.pairsBound l account pairs) = field s :=
  foldl_keeps field _ (fun u p => by rw [bindPair_eq]; exact h u _ _) pairs s

theorem openParcel_with_port (p : Port) (s : State) (l : LaneId) (account : Nat) (pairs : List (Nat × Nat)) :
    State.openParcel { s with port := p } l account pairs = { s.openParcel l account pairs with port := p } := by
  have bound := foldl_with_port p (fun u q => u.bindPair l account q) (fun u q => by
    rw [bindPair_eq, bindPair_eq]; rfl) pairs s
  exact congrArg (fun u : State => u.modLane l fun x => x.opening account (pairs.map (·.1))) bound

/-- Settles O17: the tests pass, and the pairs are bound one after another. -/
theorem openParcelBindsAll : Obligations.OpenParcelBindsAll := by
  intro s tag lane account pairs l h hl one four named nodup idle usable mode bindable
  have taken : openParcel lane account pairs s.frameTaken = _ :=
    (openParcel_pairs (s := s.frameTaken) hl (not_pairsBeyondRange one four named) idle usable mode).trans
      (openPairs_taken nodup (firstPairFault_of_bindable bindable))
  have port : (s.openParcel l account pairs).port = s.port :=
    pairsBound_keeps (fun x => x.port) (fun _ _ _ => rfl) s l account pairs
  have act : s.frameTaken.openParcel l account pairs = (s.openParcel l account pairs).frameTaken := by
    unfold State.frameTaken
    rw [port]
    exact openParcel_with_port _ s l account pairs
  rw [act] at taken
  have lanes : (s.openParcel l account pairs).lanes = s.lanes.modify l fun x => x.opening account (pairs.map (·.1)) := by
    rw [← pairsBound_lanes l account s pairs]; rfl
  have opened : (s.openParcel l account pairs).lanes.at l = (s.lanes.at l).opening account (pairs.map (·.1)) := by
    rw [lanes, quad_at_modify_self]
  refine ⟨_, exec_done (.openParcel tag lane account pairs) rfl h _ port taken, opened, fun m hm => ?_, fun p hp => ?_,
    fun n hn => ra_pairsBound_other l account s pairs hn, ?_, ?_, ?_, ?_, ?_, ?_, ?_, ?_⟩
  · show (s.openParcel l account pairs).lanes.at m = _
    rw [lanes, quad_at_modify_other _ _ _ _ (Ne.symm hm)]
  · refine (ra_pairsBound l account s pairs nodup hp).trans (congrArg some ?_)
    unfold State.boundRecord
    cases s.ra p.1 <;> rfl
  · exact pairsBound_keeps (fun x => x.items) (fun _ _ _ => rfl) s l account pairs
  · exact pairsBound_keeps (fun x => x.queue) (fun _ _ _ => rfl) s l account pairs
  · exact pairsBound_keeps (fun x => x.line) (fun _ _ _ => rfl) s l account pairs
  · exact pairsBound_keeps (fun x => x.bus) (fun _ _ _ => rfl) s l account pairs
  · exact pairsBound_keeps (fun x => x.plan) (fun _ _ _ => rfl) s l account pairs
  · exact pairsBound_keeps (fun x => x.sorter) (fun _ _ _ => rfl) s l account pairs
  · exact pairsBound_keeps (fun x => x.totes) (fun _ _ _ => rfl) s l account pairs
  · show (s.openParcel l account pairs).port.answered _ = s.port.answered ⟨_, _, _,
      .parcelOpened ((s.openParcel l account pairs).lanes.at l).parcelCounter _⟩
    rw [port, opened]
    rfl

end Sys2Proof.Machine
end

section
/-! The answers of a lane's ENTRY slot, and the close of a parcel (R55, R56, R63 to R65). -/

namespace Sys2Proof.Machine

/-! ### A valid answer (R76) -/

/-- A valid answer in its slot's turn is handed on in the state that has heard it. -/
theorem takeAnswer_heard {s : State} {x : SlotId} {a : AnswerHead} (h : s.turnFor x a = true) {fromRole : Role → Bool}
    (role : fromRole x.role = true) (act : SlotId → State → State) :
    s.takeAnswer a fromRole true act = act x (s.heard x) := by
  simp only [State.turnFor, Bool.and_eq_true, decide_eq_true_eq] at h
  obtain ⟨⟨⟨turn, scored⟩, address⟩, echo⟩ := h
  simp only [State.takeAnswer, turn, scored, State.answerValid, address, echo, role, decide_true, Bool.and_self, if_true]
  rfl

section Heard

variable (s : State) (x : SlotId)

@[simp] theorem heard_port : (s.heard x).port = s.port := rfl
@[simp] theorem heard_queue : (s.heard x).queue = s.queue := rfl
@[simp] theorem heard_line : (s.heard x).line = s.line := rfl
@[simp] theorem heard_returns : (s.heard x).returns = s.returns := rfl
@[simp] theorem heard_lanes : (s.heard x).lanes = s.lanes := rfl
@[simp] theorem heard_items : (s.heard x).items = s.items := rfl
@[simp] theorem heard_plan : (s.heard x).plan = s.plan := rfl
@[simp] theorem heard_sorter : (s.heard x).sorter = s.sorter := rfl
@[simp] theorem heard_totes : (s.heard x).totes = s.totes := rfl

/-- An answer that is heard changes no slot's state. -/
theorem heard_slot_state (y : SlotId) : ((s.heard x).slot y).state = (s.slot y).state := by
  unfold State.heard State.noteValid
  rw [slot_modSlot]
  split <;> rfl

end Heard

/-! ### The close of a parcel (R63 to R65) -/

/-- Making a lane CLOSING changes no item's place in its parcel. -/
theorem anyUndecided_modLane (s : State) (l m : LaneId) (f : Lane → Lane)
    (counter : ∀ x, (f x).parcelCounter = x.parcelCounter := by intro x; rfl) :
    (s.modLane l f).anyUndecided m = s.anyUndecided m := by
  have same : ((s.modLane l f).lanes.at m).parcelCounter = (s.lanes.at m).parcelCounter := by
    rw [modLane_lanes, quad_at_modify]
    split
    · exact counter _
    · rfl
  unfold State.anyUndecided State.undecidedOf
  rw [same]
  rfl

section Close

variable {s : State} {l : LaneId}

theorem close_of_undecided (cause : CloseCause) (h : s.anyUndecided l = true) :
    s.close l cause = s.modLane l fun x => { x with state := .closing, closeCause := some cause } :=
  settlementTest_of_waiting (.inr ((anyUndecided_modLane s l l _).trans h))

theorem close_of_decided (cause : CloseCause) (h : s.anyUndecided l = false) :
    s.close l cause =
      (s.modLane l fun x => { x with state := .closing, closeCause := some cause }).settle l cause.endCause 0 := by
  have lane := quad_at_modify_self s.lanes l fun x => { x with state := .closing, closeCause := some cause }
  refine (settlementTest_of_settling ?_ ((anyUndecided_modLane s l l _).trans h)).trans ?_
  · rw [modLane_lanes, lane]
  · rw [modLane_lanes, lane]; rfl

/-- A settlement overwrites what made the lane CLOSING. -/
theorem close_settles (cause : CloseCause) (h : s.anyUndecided l = false) :
    s.settles (s.close l cause) l cause.endCause 0 := by
  have lane := quad_at_modify_self s.lanes l fun x => { x with state := .closing, closeCause := some cause }
  have settled := settle_settles (s.modLane l fun x => { x with state := .closing, closeCause := some cause }) l
    cause.endCause 0
  rw [← close_of_decided cause h] at settled
  unfold State.settles at settled ⊢
  simp only [modLane_lanes, lane] at settled
  obtain ⟨bound, others, idle, lanes, event, items, bus, plan, sorter, totes, stop⟩ := settled
  exact ⟨bound, others, idle, fun m hm => (lanes m hm).trans (quad_at_modify_other _ _ _ _ (Ne.symm hm)), event, items, bus,
    plan, sorter, totes, stop⟩

@[simp] theorem close_port (s : State) (l : LaneId) (cause : CloseCause) : (s.close l cause).port = s.port := by
  simp [State.close]

theorem close_frameTaken (s : State) (l : LaneId) (cause : CloseCause) :
    s.frameTaken.close l cause = (s.close l cause).frameTaken :=
  settlementTest_frameTaken (s.modLane l _) l

theorem closeParcel_of_opened {lane : Nat} (hl : laneOf lane = some l) (opened : (s.lanes.at l).state = .opened) :
    closeParcel lane s.frameTaken =
      (s.close l .host).frameTaken.done (.laneState ((s.close l .host).lanes.at l).state) := by
  have opened : (s.frameTaken.lanes.at l).state = .opened := opened
  simp only [closeParcel, hl, opened, close_frameTaken]
  rfl

theorem parcelDone_of_opened (opened : (s.lanes.at l).state = .opened) : s.parcelDone l = s.close l .key := by
  simp only [State.parcelDone, opened]

theorem parcelDone_of_not_opened (h : (s.lanes.at l).state ≠ .opened) : s.parcelDone l = s := by
  unfold State.parcelDone
  split
  · rfl
  · next opened => exact absurd opened h
  · rfl

end Close

/-- Settles O19: the request and the key each close an OPEN lane, which settles a decided parcel at once. -/
theorem closingAndSettlingAParcel : Obligations.ClosingAndSettlingAParcel := by
  refine ⟨⟨fun s tag lane l h hl => ⟨fun opened undecided => ?_, fun opened decided => ?_, fun closing => ?_, fun idle => ?_⟩,
    fun s a x turn role => ?_⟩, fun s l => ⟨fun h => settlementTest_of_waiting (.inl h),
      fun h => settlementTest_of_waiting (.inr h), fun cause closing hc decided => ?_⟩⟩
  · have taken := exec_done (.closeParcel tag lane) rfl h _ (close_port s l .host) (closeParcel_of_opened hl opened)
    rw [taken, close_of_undecided .host undecided, modLane_lanes, quad_at_modify_self]
  · have settled := close_settles .host decided
    have taken := exec_done (.closeParcel tag lane) rfl h _ (close_port s l .host) (closeParcel_of_opened hl opened)
    refine ⟨_, taken, settled, ?_⟩
    obtain ⟨_, _, idle, _⟩ := settled
    show (s.close l .host).port.answered _ = _
    rw [idle, close_port]
  · refine exec_done (.closeParcel tag lane) rfl h s rfl ?_
    have closing : (s.frameTaken.lanes.at l).state = .closing := closing
    simp only [closeParcel, hl, closing]
  · refine exec_refused (.closeParcel tag lane) rfl h ?_
    have idle : (s.frameTaken.lanes.at l).state = .idle := idle
    simp only [closeParcel, hl, idle]
    rfl
  · have key : exec (.parcelDone a) s = .next ((s.heard x).parcelDone x.lane) :=
      congrArg _ (takeAnswer_heard turn (by simp [role]) fun x s => s.parcelDone x.lane)
    refine ⟨fun opened undecided => ?_, fun opened decided => ⟨_, key, ?_⟩, fun h => ?_⟩
    · rw [key, parcelDone_of_opened (s := s.heard x) opened, close_of_undecided (s := s.heard x) .key undecided]
    · rw [parcelDone_of_opened (s := s.heard x) opened]
      exact ⟨close_settles (s := s.heard x) .key decided, close_port _ _ _⟩
    · rw [key, parcelDone_of_not_opened (s := s.heard x) h]
  · have settled := settle_settles s l (s.lanes.at l).endCause 0
    rw [← settlementTest_of_settling closing decided] at settled
    have endCause : (s.lanes.at l).endCause = cause.endCause := by
      unfold Lane.endCause
      rw [hc]
      rfl
    rw [endCause] at settled
    cases cause <;> exact settled

/-! ### The refusals of a presentation (R55, R56) -/

/-- The first condition of R55 that fails. -/
theorem entryRefusal_eq (s : State) (l : LaneId) : s.entryRefusal l =
    if (s.lanes.at l).state ≠ .opened then some .notOpen
    else if s.line.mode ≠ .running ∨ s.suspended = true then some .line
    else if 6 ≤ (s.lanes.at l).queue.length then some .queueFull
    else if 256 ≤ s.used + s.live then some .eventsFull
    else if (s.slot ⟨l, .entry⟩).state ≠ .up then some .entryDown
    else if (s.slot ⟨l, .laneEnd⟩).state ≠ .up then some .endDown
    else none := by
  have line : (!s.line.mode.isRunning || s.suspended) = true ↔ s.line.mode ≠ .running ∨ s.suspended = true := by
    rw [Bool.or_eq_true, Bool.not_eq_true', ← Bool.not_eq_true, isRunning_iff]
  have room : (!s.roomForEvent) = true ↔ 256 ≤ s.used + s.live := by
    unfold State.roomForEvent
    rw [Bool.not_eq_true', decide_eq_false_iff_not]
    exact Nat.not_lt
  unfold State.entryRefusal
  simp only [line, room]
  rfl

theorem entryRefusal_heard (s : State) (x : SlotId) (l : LaneId) : (s.heard x).entryRefusal l = s.entryRefusal l := by
  rw [entryRefusal_eq, entryRefusal_eq, heard_slot_state, heard_slot_state]
  rfl

theorem exec_presented {s : State} {a : AnswerHead} {x : SlotId} (turn : s.turnFor x a = true) (role : x.role = .entry) :
    exec (.presented a) s = .next ((s.heard x).presented x.lane) :=
  congrArg _ (takeAnswer_heard turn (by simp [role]) fun x s => s.presented x.lane)

/-- With no accept waiting to be carried, a presentation is tested (R56). -/
theorem presented_afresh {s : State} {l : LaneId} (h : ∀ ticket, (s.lanes.at l).verdict ≠ .accept ticket) :
    s.presented l = s.presentAfresh l := by
  unfold State.presented
  split
  · next ticket accepted => exact absurd accepted (h ticket)
  · rfl
  · rfl

theorem presentAfresh_of_refused {s : State} {l : LaneId} {reason : EntryRefusal} (h : s.entryRefusal l = some reason) :
    s.presentAfresh l = s.modLane l fun x => { x with verdict := .refuse reason } := by
  simp only [State.presentAfresh, h]

theorem presentAfresh_of_admitted {s : State} {l : LaneId} (h : s.entryRefusal l = none) :
    s.presentAfresh l = s.admission l := by
  simp only [State.presentAfresh, h]

/-- Settles O22: the conditions of R55 fail one after another. -/
theorem presentedIsRefused : Obligations.PresentedIsRefused := by
  intro s a x turn role
  have slot : (⟨x.lane, .entry⟩ : SlotId) = x := by rw [← role]
  refine ⟨fun ticket accepted => ?_, fun fresh reason failed => ?_⟩
  · rw [exec_presented turn role]
    have accepted : ((s.heard x).lanes.at x.lane).verdict = .accept ticket := accepted
    simp only [State.presented, accepted]
  · have refusal : (s.heard x).entryRefusal x.lane = some reason := by
      rw [entryRefusal_heard, entryRefusal_eq, slot]
      rcases failed with ⟨c1, rfl⟩ | ⟨c1, c2, rfl⟩ | ⟨c1, c2, c3, c4, rfl⟩ | ⟨c1, c2, c3, c4, c5, rfl⟩ |
        ⟨c1, c2, c3, c4, c5, c6, rfl⟩ | ⟨c1, c2, c3, c4, c5, c6, c7, rfl⟩
      · simp [c1]
      · simp [c1, c2]
      · simp [c1, c2, c3, c4]
      · simp [c1, c2, c3, Nat.not_le.2 c4, c5]
      · simp [c1, c2, c3, Nat.not_le.2 c4, Nat.not_le.2 c5, c6]
      · simp [c1, c2, c3, Nat.not_le.2 c4, Nat.not_le.2 c5, c6, c7]
    rw [exec_presented turn role, presented_afresh (s := s.heard x) fresh, presentAfresh_of_refused refusal]

end Sys2Proof.Machine
end

section
/-! What one decision leaves (R117, R129), and the two acts that end in one: the expiries of the decision-wait and
manifest-wait timers (R30, R62, R116), and the admission of an item (R55, R56). -/

namespace Sys2Proof.Machine

/-! ### One decision (R117) -/

theorem matchReturn_result (found : MatchResult × Option Found) : (matchReturn found).result = found.1 := by
  obtain ⟨r, _ | f⟩ := found
  · rfl
  · unfold matchReturn
    dsimp only
    split <;> rfl

/-- The search looks at the item's tag and lane, at the lane's bound RAs and at the Return Table (R39). -/
theorem searchFor_congr {s t : State} {it it' : Item} (tag : it'.tagState = it.tagState) (lane : it'.lane = it.lane)
    (bound : (t.lanes.at it.lane).boundRas = (s.lanes.at it.lane).boundRas) (returns : t.returns = s.returns) :
    t.searchFor it' = s.searchFor it := by
  unfold State.searchFor State.searchedRas State.boundRecords
  rw [tag, lane, bound, returns]

theorem settlementTest_timer (s : State) (l m : LaneId) :
    ((s.settlementTest l).lanes.at m).timer = (s.lanes.at m).timer := by
  unfold State.settlementTest
  split
  · rw [settle_lanes, quad_at_modify]
    split <;> rfl
  · rfl

section Decided

variable {s : State} {n : Nat} {it : Item}

theorem decideItem_queue (live : s.item n = some it) (undecided : it.decided = false) (m : LaneId) :
    ((s.decideItem n).lanes.at m).queue = (s.lanes.at m).queue := by
  rw [decideItem_eq live undecided, queue_settlementTest, decisionMade_lanes, quad_at_modify]
  split <;> rfl

/-- R129: a decision stops its item's timer, and no other. -/
theorem decideItem_timer (live : s.item n = some it) (undecided : it.decided = false) (m : LaneId) :
    ((s.decideItem n).lanes.at m).timer =
      if it.lane = m then (s.lanes.at m).timer.filter fun w => decide (w.item ≠ n) else (s.lanes.at m).timer := by
  rw [decideItem_eq live undecided, settlementTest_timer, decisionMade_lanes, quad_at_modify]
  split <;> rfl

theorem eventsGrow_decideItem (live : s.item n = some it) (undecided : it.decided = false) :
    s.eventsGrow (s.decideItem n) := by
  rw [decideItem_eq live undecided]
  exact (eventsGrow_decisionMade s n it).trans (eventsGrow_settlementTest _ _)

end Decided

/-! ### The decision-wait expiry (R62, R116) -/

theorem giveUp_eq (it : Item) : it.giveUp = { it with
    tagStatus := if it.tagStatus = .awaited then .missing else it.tagStatus
    scaleStatus := if it.scaleStatus = .awaited then .missing else it.scaleStatus
    visionStatus := if it.visionStatus = .awaited then .missing else it.visionStatus } := by
  have status : ∀ r : RoleStatus, r.giveUp = if r = .awaited then .missing else r := fun r => by cases r <;> rfl
  unfold Item.giveUp
  rw [status, status, status]

theorem timerCanExpire_iff (s : State) (remaining : Nat) :
    s.timerCanExpire remaining = true ↔ s.suspended = false ∨ remaining = 0 := by
  simp [State.timerCanExpire]

section DecisionWait

variable {s : State} {l : LaneId} {w : WaitTimer} {it : Item}

theorem decisionExpiry_of_running (timer : (s.lanes.at l).timer = some w) (runs : s.suspended = false ∨ w.remaining = 0) :
    s.decisionExpiry l = (s.modLane l fun x => { x with timer := none }).decideAtOnce w.item := by
  simp only [State.decisionExpiry, timer, (timerCanExpire_iff s w.remaining).2 runs, if_true]

theorem decideAtOnce_of_decided {n : Nat} (live : s.item n = some it) (h : it.decided = true) :
    s.decideAtOnce n = s := by
  simp only [State.decideAtOnce, live, h, if_true]

theorem decideAtOnce_of_undecided {n : Nat} (live : s.item n = some it) (h : it.decided = false) :
    s.decideAtOnce n = (s.modItem n Item.giveUp).decideItem n := by
  simp only [State.decideAtOnce, live, h, Bool.false_eq_true, if_false]

/-- The state in which the item of an expired timer is decided: the timer gone, every awaited status MISSING. -/
def State.givenUp (s : State) (l : LaneId) (n : Nat) : State :=
  (s.modLane l fun x => { x with timer := none }).modItem n Item.giveUp

theorem givenUp_item (live : s.item w.item = some it) (m : Nat) :
    (s.givenUp l w.item).item m = if w.item = m then some it.giveUp else s.item m := by
  refine (item_modItem _ w.item m Item.giveUp).trans ?_
  split
  · next h => exact congrArg (Option.map Item.giveUp) (h ▸ live)
  · rfl

theorem givenUp_lane (s : State) (l m : LaneId) (n : Nat) :
    (s.givenUp l n).lanes.at m = if l = m then { s.lanes.at m with timer := none } else s.lanes.at m :=
  quad_at_modify s.lanes l m _

theorem givenUp_searchFor (s : State) (l : LaneId) (n : Nat) (it : Item) :
    (s.givenUp l n).searchFor it.giveUp = s.searchFor it :=
  searchFor_congr rfl rfl (by rw [givenUp_lane]; split <;> rfl) rfl

end DecisionWait

/-- What the decision at the end of the decision wait writes, and what it leaves (R62, R116, R129). -/
theorem decisionExpiry_decides {s : State} {l : LaneId} {w : WaitTimer} {it : Item}
    (live : s.item w.item = some it) (undecided : it.decided = false) :
    ∃ t d, t = (s.givenUp l w.item).decideItem w.item ∧ d = (s.givenUp l w.item).decisionOf it.giveUp ∧
      t.item w.item = some d ∧ d.result = some (s.searchFor it).1 ∧ (∀ m, m ≠ w.item → t.item m = s.item m) ∧
      (t.lanes.at l).timer = none ∧ (∀ m, (t.lanes.at m).queue = (s.lanes.at m).queue) ∧ s.eventsGrow t ∧
      t.bus = s.bus ∧ t.plan = s.plan ∧ t.sorter = s.sorter ∧ t.totes = s.totes ∧ t.port = s.port := by
  have given : (s.givenUp l w.item).item w.item = some it.giveUp := by rw [givenUp_item live, if_pos rfl]
  have item := decideItem_item given undecided
  refine ⟨_, _, rfl, rfl, by rw [item, if_pos rfl], ?_, fun m hm => ?_, ?_, fun m => ?_,
    eventsGrow_decideItem (s := s.givenUp l w.item) given undecided, decideItem_bus _ _, decideItem_plan _ _,
    decideItem_sorter _ _, decideItem_totes _ _, decideItem_port _ _⟩
  · show some (matchReturn _).result = _
    rw [matchReturn_result, givenUp_searchFor]
  · rw [item, if_neg (Ne.symm hm), givenUp_item live, if_neg (Ne.symm hm)]
  · rw [decideItem_timer given undecided, givenUp_lane, if_pos rfl]
    split <;> rfl
  · rw [decideItem_queue given undecided, givenUp_lane]
    split <;> rfl

/-! ### The manifest-wait expiry (R29, R30) -/

section ManifestWait

variable {s : State} {n k : Nat} {r : Ra} {l : LaneId}

/-- The placeholder OVERDUE, and MANIFEST OVERDUE offered (R30). -/
def State.madeOverdue (s : State) (n : Nat) (r : Ra) (l : LaneId) : State :=
  (s.modRa n fun x => { x with state := .overdue, timer := none }).offer 0
    (.manifestOverdue n l (s.lanes.at l).parcelCounter r.account r.label)

theorem manifestExpiry_of_running (hr : s.ra n = some r) (expected : r.state = .expected) (timer : r.timer = some k)
    (lane : r.boundLane = some l) (runs : s.suspended = false ∨ k = 0) :
    s.manifestExpiry n = (s.madeOverdue n r l).retest l := by
  simp only [State.manifestExpiry, hr, timer, expected, decide_true, (timerCanExpire_iff s k).2 runs, Bool.and_self,
    if_true, State.manifestOverdue, lane]
  rfl

theorem madeOverdue_item (s : State) (n : Nat) (r : Ra) (l : LaneId) (m : Nat) :
    (s.madeOverdue n r l).item m = s.item m := item_of_items_eq (offer_items _ _ _) m

theorem madeOverdue_lanes (s : State) (n : Nat) (r : Ra) (l : LaneId) : (s.madeOverdue n r l).lanes = s.lanes :=
  offer_lanes _ _ _

theorem madeOverdue_undecidedOf (s : State) (n : Nat) (r : Ra) (l : LaneId) (it : Item) :
    (s.madeOverdue n r l).undecidedOf l it = s.undecidedOf l it := by
  unfold State.undecidedOf
  rw [madeOverdue_lanes]

theorem madeOverdue_raSettled (s : State) (n : Nat) (r : Ra) (l : LaneId) (it : Item) :
    (s.madeOverdue n r l).raSettled it =
      (s.modRa n fun x => { x with state := .overdue, timer := none }).raSettled it :=
  raSettled_congr (by rw [madeOverdue_lanes]; rfl) fun m => by
    unfold State.ra State.madeOverdue
    rw [offer_returns]

end ManifestWait

/-- Settles O24: the item of the one timer is decided by `State.givenUp`, the parcel of the other is tested again by
`State.retest`. -/
theorem timerExpiries : Obligations.TimerExpiries := by
  refine ⟨fun s l w it timer runs live => ?_, fun s n k r l hr expected timer lane runs => ?_, fun s => ?_⟩
  · have expiry : exec (.decisionWaitExpiry l) s = _ :=
      congrArg Host.Outcome.next (decisionExpiry_of_running timer runs)
    refine ⟨fun decided => expiry.trans (congrArg _ (decideAtOnce_of_decided live decided)), fun undecided => ?_⟩
    have atOnce := expiry.trans (congrArg _ (decideAtOnce_of_undecided (s := s.modLane l _) live undecided))
    obtain ⟨t, d, ht, hd, item, result, others, stopped, queues, events, bus, plan, sorter, totes, port⟩ :=
      decisionExpiry_decides (l := l) live undecided
    have fields := giveUp_eq it
    refine ⟨t, d, atOnce.trans (congrArg _ ht.symm), ?_, item, ?_⟩
    · rw [ht, State.givenUp, funext giveUp_eq]
    · subst hd
      refine ⟨rfl, rfl, rfl, rfl, fun h => congrArg decidedState h, fun h => congrArg decidedState h,
        congrArg Item.tagStatus fields, congrArg Item.scaleStatus fields, congrArg Item.visionStatus fields, result, rfl,
        rfl, rfl, rfl, rfl, rfl, rfl, others, stopped, queues, events, bus, plan, sorter, totes, port⟩
  · have expiry : exec (.manifestWaitExpiry n) s = .next ((s.madeOverdue n r l).retest l) :=
      congrArg _ (manifestExpiry_of_running hr expected timer lane runs)
    have events : s.eventsGrow (s.madeOverdue n r l) :=
      (eventsGrow_of_queue_eq rfl).trans (eventsGrow_offer (s.modRa n _) _ _)
    refine ⟨fun decided => ?_, fun v hv => hv ▸ expiry, _, expiry, events.trans (eventsGrow_retest _ l),
      fun m it live decided => ?_, fun m hm it live undecided measured settled => ?_, ?_⟩
    · refine expiry.trans (congrArg _ (retest_of_decided ?_))
      rw [← decided]
      unfold State.anyUndecided
      simp only [madeOverdue_undecidedOf]
      exact congrArg (fun x : ItemTable => x.records.entries.any _) (offer_items (s.modRa n _) _ _)
    · exact foldl_retestItem_keeps_decided _ ((madeOverdue_item s n r l m).trans live) decided
    · exact foldl_retestItem_decides _ (by rw [madeOverdue_lanes]; exact hm) ((madeOverdue_item s n r l m).trans live)
        (by rw [madeOverdue_undecidedOf]; exact undecided) measured (by rw [madeOverdue_raSettled]; exact settled)
    · simp [State.madeOverdue]
  · refine ⟨fun l none => congrArg Host.Outcome.next ?_, fun l w timer suspended left => congrArg Host.Outcome.next ?_,
      fun n h => congrArg Host.Outcome.next ?_⟩
    · simp only [State.decisionExpiry, none]
    · have stopped : s.timerCanExpire w.remaining = false := by simp [State.timerCanExpire, suspended, left]
      simp only [State.decisionExpiry, timer, stopped, Bool.false_eq_true, if_false]
    · rcases h with none | ⟨r, hr, none⟩
      · simp only [State.manifestExpiry, none]
      · simp only [State.manifestExpiry, hr, none]

end Sys2Proof.Machine
end

section
/-! The admission of an item (R2, R3, R9, R10, R55, R56). -/

namespace Sys2Proof.Machine

/-! ### The number and the ticket (R2, R3) -/

/-- R2: the number is the first free one from the counter on. -/
theorem issueNumber_spec {s : State} {n : Nat} (h : s.issueNumber = some n) :
    s.item n = none ∧ ∃ j, n = counterAt 1 65535 s.items.nextNumber j ∧
      ∀ i, i < j → s.item (counterAt 1 65535 s.items.nextNumber i) ≠ none := by
  obtain ⟨_, j, hj, taken⟩ := firstFree_spec _ _ _ _ _ _ h
  refine ⟨issueNumber_free s n h, j, hj, fun i hi none => ?_⟩
  have used : (s.item (counterAt 1 65535 s.items.nextNumber i)).isSome = true := taken i hi
  rw [none] at used
  cases used

theorem itemByTicket_isSome_iff (s : State) (l : LaneId) (ticket : Nat) : (s.itemByTicket l ticket).isSome = true ↔
    ∃ e ∈ s.items.records.entries, e.2.lane = l ∧ e.2.ticket = ticket := by
  unfold State.itemByTicket
  rw [List.find?_isSome]
  simp only [Bool.and_eq_true, decide_eq_true_eq]

/-- R3: the ticket is the first from the lane's counter on that no live record of the lane carries. -/
theorem issueTicket_spec {s : State} {l : LaneId} {k : Nat} (h : s.issueTicket l = some k) :
    (∀ m it, s.item m = some it → it.lane = l → it.ticket ≠ k) ∧
      ∃ j, k = counterAt 0 255 (s.lanes.at l).nextTicket j ∧ ∀ i, i < j → ∃ e ∈ s.items.records.entries,
        e.2.lane = l ∧ e.2.ticket = counterAt 0 255 (s.lanes.at l).nextTicket i := by
  obtain ⟨free, j, hj, taken⟩ := firstFree_spec _ _ _ _ _ _ h
  refine ⟨fun m it live lane ticket => ?_, j, hj, fun i hi => (itemByTicket_isSome_iff s l _).1 (taken i hi)⟩
  have carried := (itemByTicket_isSome_iff s l k).2 ⟨(m, it), mem_of_lookup _ _ _ live, lane, ticket⟩
  rw [carried] at free
  cases free

/-! ### The item as it is created, and its test (R9, R56) -/

theorem admission_eq {s : State} {l : LaneId} {n k : Nat} (hn : s.issueNumber = some n) (hk : s.issueTicket l = some k) :
    s.admission l = (s.createItem l n k).testItem n := by
  simp only [State.admission, hn, hk]

theorem entryRefusal_of_admitted {s : State} {l : LaneId} (opened : (s.lanes.at l).state = .opened)
    (mode : s.line.mode = .running) (running : s.suspended = false) (queue : (s.lanes.at l).queue.length < 6)
    (room : s.used + s.live < 256) (entry : (s.slot ⟨l, .entry⟩).state = .up)
    (laneEnd : (s.slot ⟨l, .laneEnd⟩).state = .up) : s.entryRefusal l = none := by
  simp [entryRefusal_eq, opened, mode, running, Nat.not_le.2 queue, Nat.not_le.2 room, entry, laneEnd]

section Created

variable (s : State) (l : LaneId) (n k : Nat)

theorem createItem_lane : (s.createItem l n k).lanes.at l = { s.lanes.at l with
    queue := (s.lanes.at l).queue ++ [n], nextTicket := wrapNext 0 255 k, verdict := .accept k } :=
  quad_at_modify_self s.lanes l _

theorem createItem_other_lane {m : LaneId} (h : m ≠ l) : (s.createItem l n k).lanes.at m = s.lanes.at m :=
  quad_at_modify_other s.lanes l m _ (Ne.symm h)

theorem createItem_bank : (s.createItem l n k).plan.banks.at (s.newItem l k).bank =
    { s.plan.banks.at (s.newItem l k).bank with bound := (s.plan.banks.at (s.newItem l k).bank).bound + 1 } :=
  pair_at_modify_self s.plan.banks _ _

theorem createItem_other_bank {b : BankId} (h : b ≠ (s.newItem l k).bank) :
    (s.createItem l n k).plan.banks.at b = s.plan.banks.at b :=
  pair_at_modify_other s.plan.banks _ b _ (Ne.symm h)

/-- R9, R113: a new item waits for no measurement exactly when no measurement role of its lane is UP. -/
theorem newItem_measured_iff : (s.newItem l k).measured = true ↔
    (s.slot ⟨l, .tag⟩).state ≠ .up ∧ (s.slot ⟨l, .scale⟩).state ≠ .up ∧ (s.slot ⟨l, .vision⟩).state ≠ .up := by
  have status : ∀ r, s.statusAtCreation l r ≠ .awaited ↔ (s.slot ⟨l, r⟩).state ≠ .up := fun r => by
    unfold State.statusAtCreation
    split <;> simp [*]
  rw [measured_iff, ← status, ← status, ← status]
  rfl

end Created

section Unread

variable {s : State} {n : Nat} {it : Item}

/-- A decision without a READ tag counts nothing (R42, R45). -/
theorem countFound_of_unread (h : it.tagState = .noTag ∨ it.tagState = .corrupt ∨ it.tagState = .conflict) :
    s.countFound it (s.searchFor it) = s := by
  rw [searchFor_of_unread h]
  exact countFound_of_not_counts none rfl

/-- What a decision without a READ tag writes, and what it leaves, in a lane that is not CLOSING (R117). -/
theorem decideItem_unread (live : s.item n = some it) (undecided : it.decided = false)
    (h : it.tagState = .noTag ∨ it.tagState = .corrupt ∨ it.tagState = .conflict)
    (notClosing : (s.lanes.at it.lane).state ≠ .closing) :
    (s.decisionOf it).result = some .unread ∧ (s.decisionOf it).category = some 31 ∧
      (s.decideItem n).returns = s.returns ∧ (s.decideItem n).line = s.line ∧ (s.decideItem n).items.nextNumber =
        s.items.nextNumber ∧ (s.decideItem n).lanes = s.lanes.modify it.lane fun x => x.stopTimer n := by
  have found := searchFor_of_unread (s := s) h
  have counted := countFound_of_unread (s := s) h
  have lane : ((s.decisionMade n it).lanes.at it.lane).state ≠ .closing := by
    rw [decisionMade_lanes, quad_at_modify_self]; exact notClosing
  rw [decideItem_eq live undecided, settlementTest_of_waiting (.inl lane), decisionMade_returns, counted,
    decisionMade_lanes, decisionMade_keeps s n it (fun x => x.line) offer_line,
    decisionMade_keeps s n it (fun x => x.items) offer_items, State.decisionWritten, counted]
  unfold State.decisionOf
  rw [found]
  exact ⟨rfl, rfl, rfl, rfl, rfl, rfl⟩

end Unread

/-- R10: a new item binds the ACTIVE bank. -/
theorem newItem_bank {s : State} {b : BankId} (bank : s.activeBank = some b) (l : LaneId) (k : Nat) :
    (s.newItem l k).bank = b := by
  show s.activeBank.getD _ = b
  rw [bank]
  rfl

theorem statusAtCreation_heard (s : State) (x : SlotId) (l : LaneId) (r : Role) :
    (s.heard x).statusAtCreation l r = if (s.slot ⟨l, r⟩).state = .up then .awaited else .missing := by
  unfold State.statusAtCreation
  rw [heard_slot_state]

/-- R55, R56: past every condition, the item is created and tested. -/
theorem exec_presented_admitted {s : State} {a : AnswerHead} {x : SlotId} {n k : Nat} (turn : s.turnFor x a = true)
    (role : x.role = .entry) (fresh : ∀ ticket, (s.lanes.at x.lane).verdict ≠ .accept ticket)
    (admitted : s.entryRefusal x.lane = none) (hn : s.issueNumber = some n) (hk : s.issueTicket x.lane = some k) :
    exec (.presented a) s = .next (((s.heard x).createItem x.lane n k).testItem n) := by
  rw [exec_presented turn role, presented_afresh (s := s.heard x) fresh,
    presentAfresh_of_admitted ((entryRefusal_heard s x x.lane).trans admitted), admission_eq (s := s.heard x) hn hk]

/-- Settles O21: the item is created as `State.createItem` says, and its test decides it exactly when no role is UP. -/
theorem presentedIsAdmitted : Obligations.PresentedIsAdmitted := by
  intro s a x b n k turn role fresh opened mode running queue room entry laneEnd bank hn hk
  obtain ⟨free, number⟩ := issueNumber_spec hn
  obtain ⟨unused, ticket⟩ := issueTicket_spec hk
  refine ⟨free, number, unused, ticket, ?_⟩
  have slot : (⟨x.lane, .entry⟩ : SlotId) = x := by rw [← role]
  have taken := exec_presented_admitted turn role fresh
    (entryRefusal_of_admitted opened mode running queue room (slot ▸ entry) laneEnd) hn hk
  have item := item_createItem (s.heard x) x.lane n k
  have live : ((s.heard x).createItem x.lane n k).item n = some ((s.heard x).newItem x.lane k) := by
    rw [item, if_pos rfl]
  have others : ∀ m, m ≠ n → ((s.heard x).createItem x.lane n k).item m = s.item m := fun m hm => by
    rw [item, if_neg (Ne.symm hm)]; rfl
  have itsBank : ((s.heard x).newItem x.lane k).bank = b := newItem_bank (s := s.heard x) bank x.lane k
  have measured := newItem_measured_iff (s.heard x) x.lane k
  have banks := createItem_bank (s.heard x) x.lane n k
  have otherBanks : ∀ c, c ≠ b → ((s.heard x).createItem x.lane n k).plan.banks.at c = s.plan.banks.at c := fun c hc =>
    createItem_other_bank (s.heard x) x.lane n k (itsBank ▸ hc)
  have status := statusAtCreation_heard s x x.lane
  simp only [heard_slot_state] at measured
  rw [itsBank] at banks
  by_cases up : (s.slot ⟨x.lane, .tag⟩).state = .up ∨ (s.slot ⟨x.lane, .scale⟩).state = .up ∨
      (s.slot ⟨x.lane, .vision⟩).state = .up
  · have left := testItem_leaves live (.inr (.inl (Bool.eq_false_iff.2 fun h => by
      obtain ⟨tag, scale, vision⟩ := measured.1 h
      exact up.elim tag fun up => up.elim scale vision)))
    rw [left] at taken
    exact ⟨_, _, taken, live, others, rfl, rfl, rfl, itsBank, rfl, rfl, rfl, rfl, rfl, rfl, rfl, rfl, rfl, status .tag,
      status .scale, status .vision, fun _ => ⟨rfl, rfl, rfl, rfl, rfl, rfl, rfl, rfl, rfl, rfl, rfl, rfl, rfl, rfl⟩,
      fun down => absurd up (by simp [down]), rfl, createItem_lane _ _ _ _, fun m hm => createItem_other_lane _ _ _ _ hm,
      banks, otherBanks, rfl, rfl, rfl, rfl, rfl, rfl, rfl⟩
  · have down : (s.slot ⟨x.lane, .tag⟩).state ≠ .up ∧ (s.slot ⟨x.lane, .scale⟩).state ≠ .up ∧
        (s.slot ⟨x.lane, .vision⟩).state ≠ .up := by simpa using up
    have decides := testItem_decides live rfl (measured.2 down) rfl
    have lane := createItem_lane (s.heard x) x.lane n k
    obtain ⟨result, category, returns, line, next, lanes⟩ := decideItem_unread live rfl (.inl rfl)
      (by show (((s.heard x).createItem x.lane n k).lanes.at x.lane).state ≠ _
          rw [lane]; simp [opened])
    have decided := decideItem_item live rfl
    have plan := decideItem_plan ((s.heard x).createItem x.lane n k) n
    rw [decides] at taken
    refine ⟨_, ((s.heard x).createItem x.lane n k).decisionOf ((s.heard x).newItem x.lane k), taken,
      by rw [decided, if_pos rfl], fun m hm => by rw [decided, if_neg (Ne.symm hm), others m hm],
      rfl, rfl, rfl, itsBank, rfl, rfl, rfl, rfl, rfl, rfl, rfl, rfl, ?_, status .tag, status .scale, status .vision,
      fun h => absurd h up, fun _ => ⟨rfl, result, category, rfl, rfl, rfl, rfl, ?_⟩, next, ?_, fun m hm => ?_, ?_,
      fun c hc => ?_, ?_, returns, line, ?_, ?_, ?_, ?_⟩
    · show (matchReturn _).matched = none
      rw [searchFor_of_unread (.inl rfl)]; rfl
    · exact (eventsGrow_of_queue_eq (s := s) rfl).trans (eventsGrow_decideItem live rfl)
    · rw [lanes]
      exact (quad_at_modify_self _ _ _).trans (congrArg (fun y : Lane => y.stopTimer n) lane)
    · rw [lanes]
      exact (quad_at_modify_other _ _ _ _ (Ne.symm hm)).trans (createItem_other_lane _ _ _ _ hm)
    · rw [plan, banks]; rfl
    · rw [plan, otherBanks c hc]
    · rw [plan]; rfl
    · rw [decideItem_sorter]; rfl
    · rw [decideItem_totes]; rfl
    · rw [decideItem_port]; rfl
    · rw [decideItem_bus]; rfl

end Sys2Proof.Machine
end

section
/-! What the retirement of several queued items leaves (R13), and an AT END answer (R58 to R61). -/

namespace Sys2Proof.Machine

/-! ### The steps after a retirement (R13, R64) -/

/-- Within an abort the lane is not told, and the settlement test is left out (R64). -/
theorem afterRetirement_untold (s : State) (it : Item) :
    s.afterRetirement it false = (s.releaseBank it.bank).endIfEmpty := rfl

/-- The end of a stop changes the mode of the line alone (R177). -/
theorem line_of_stopEnds {s t : State} (h : s.stopEnds t) : t.line = { s.line with mode := t.line.mode } := by
  obtain ⟨ended, kept⟩ := h
  by_cases due : s.line.mode.isDraining = true ∧ t.live = 0 ∧ ∀ l, (t.lanes.at l).state = .idle
  · rw [ended due.1 due.2.1 due.2.2]
  · rw [kept due]

section After

variable (s : State) (it : Item) (tell : Bool)

theorem afterRetirement_told_timer (l : LaneId) :
    ((s.afterRetirement it tell).lanes.at l).timer = (s.lanes.at l).timer := by
  cases tell with
  | true => exact afterRetirement_timer s it l
  | false => rw [afterRetirement_untold, endIfEmpty_lanes, releaseBank_lanes]

theorem afterRetirement_told_other_lane {l : LaneId} (hl : l ≠ it.lane) :
    (s.afterRetirement it tell).lanes.at l = s.lanes.at l := by
  cases tell with
  | true => exact afterRetirement_other_lane s it hl
  | false => rw [afterRetirement_untold, endIfEmpty_lanes, releaseBank_lanes]

theorem afterRetirement_told_line :
    (s.afterRetirement it tell).line = { s.line with mode := (s.afterRetirement it tell).line.mode } := by
  cases tell with
  | true => exact line_of_stopEnds (afterRetirement_stopEnds s it)
  | false => exact line_of_stopEnds (stopEnds_endIfEmpty (.inl (releaseBank_line s it.bank)))

theorem eventsGrow_afterRetirement_told : s.eventsGrow (s.afterRetirement it tell) := by
  obtain ⟨more, h, _⟩ := releaseBank_events s it.bank
  have released : s.eventsGrow (s.releaseBank it.bank) := ⟨more, h⟩
  cases tell with
  | true => exact released.trans (eventsGrow_afterRetirement s it)
  | false => exact released.trans (eventsGrow_endIfEmpty _)

end After

/-! ### The retirement of queued items -/

/-- ITEM WITHDRAWN of each of the items that is live, in their order (R14). -/
def State.withdrawals (s : State) (ns : List Nat) (reason : WithdrawReason) : List Event :=
  ns.filterMap fun n => (s.item n).map fun it => ⟨s.line.clock, n, .itemWithdrawn reason it.finalFields⟩

/-- `t` is `s` with items of lane `l`'s queue retired one after another: what that leaves of the blocks that the lane's
settlement does not touch. -/
structure State.Withdrawn (s t : State) (l : LaneId) (ns : List Nat) (reason : WithdrawReason) : Prop where
  placed : t.Placed
  item   : ∀ m, t.item m = if m ∈ ns then none else s.item m
  queue  : (t.lanes.at l).queue = (s.lanes.at l).queue.filter fun m => decide (m ∉ ns)
  timer  : (t.lanes.at l).timer = (s.lanes.at l).timer.filter fun w => decide (w.item ∉ ns)
  others : ∀ m, m ≠ l → t.lanes.at m = s.lanes.at m
  sorter : t.sorter = s.sorter
  line   : t.line = { s.line with mode := t.line.mode }
  events : ∃ more, t.queue.events = s.queue.events ++ more ∧ (s.withdrawals ns reason).Sublist more

/-- A queued item is on no carrier, so that its retirement leaves the tracker (R133). -/
theorem withdraw_sorter {s : State} (h : s.Placed) {l : LaneId} {n : Nat} (hn : n ∈ (s.lanes.at l).queue)
    (reason : WithdrawReason) (tell : Bool) : (s.withdraw n reason tell).sorter = s.sorter := by
  obtain ⟨it, live, _, inLane⟩ := h.queued l n hn
  have off : ∀ e ∈ s.sorter.carriers.entries, e.2 ≠ n := fun e he hen => by
    obtain ⟨x, hx, sorting, _⟩ := h.carried e.1 e.2 (lookup_of_mem _ _ _ h.carriersWf he)
    rw [hen, live] at hx
    cases hx
    exact inLane sorting
  have kept : s.sorter.carriers.entries.filter (fun e => decide (e.2 ≠ n)) = s.sorter.carriers.entries :=
    List.filter_eq_self.2 fun e he => decide_eq_true (off e he)
  unfold State.withdraw
  rw [live]
  dsimp only
  rw [afterRetirement_sorter]
  show ({ s.sorter with carriers := ⟨s.sorter.carriers.entries.filter fun e => decide (e.2 ≠ n)⟩ } : Sorter) = s.sorter
  rw [kept]

theorem withdraw_withdrawn {s : State} (h : s.Placed) {l : LaneId} {n : Nat} (hn : n ∈ (s.lanes.at l).queue)
    (reason : WithdrawReason) (tell : Bool) : s.Withdrawn (s.withdraw n reason tell) l [n] reason := by
  obtain ⟨it, live, lane, _⟩ := h.queued l n hn
  have eq : s.withdraw n reason tell =
      (s.closeRecord n it (.itemWithdrawn reason it.finalFields)).afterRetirement it tell := by
    unfold State.withdraw
    rw [live]
  have closed : (s.closeRecord n it (.itemWithdrawn reason it.finalFields)).lanes.at l = (s.lanes.at l).dropItem n := by
    rw [closeRecord_lanes, lane, quad_at_modify_self]
  refine ⟨(withdraw_changes s n reason tell).placed h, fun m => ?_, ?_, ?_, fun m hm => ?_, withdraw_sorter h hn reason tell,
    ?_, ?_⟩
  · rw [item_withdraw]
    simp only [List.mem_singleton, eq_comm]
  · rw [eq, queue_afterRetirement, closed]
    simp [Lane.dropItem]
  · rw [eq, afterRetirement_told_timer, closed]
    simp [Lane.dropItem]
  · rw [eq, afterRetirement_told_other_lane _ _ _ (lane ▸ hm), closeRecord_lanes,
      quad_at_modify_other _ _ _ _ (lane ▸ Ne.symm hm)]
  · rw [eq]
    exact afterRetirement_told_line _ it tell
  · obtain ⟨more, hmore⟩ := eventsGrow_afterRetirement_told
      (s.closeRecord n it (.itemWithdrawn reason it.finalFields)) it tell
    refine ⟨⟨s.line.clock, n, .itemWithdrawn reason it.finalFields⟩ :: more, ?_, ?_⟩
    · rw [eq, hmore]
      exact List.append_assoc _ _ _
    · simp [State.withdrawals, live]

theorem withdrawals_append (s : State) (ns ms : List Nat) (reason : WithdrawReason) :
    s.withdrawals (ns ++ ms) reason = s.withdrawals ns reason ++ s.withdrawals ms reason := List.filterMap_append

/-- The events of later retirements give the records as they were before the earlier ones. -/
theorem State.Withdrawn.withdrawals {s t : State} {l : LaneId} {ns : List Nat} {reason : WithdrawReason}
    (h : s.Withdrawn t l ns reason) {ms : List Nat} (apart : ∀ m ∈ ms, m ∉ ns) :
    t.withdrawals ms reason = s.withdrawals ms reason := by
  have clock : t.line.clock = s.line.clock := by rw [h.line]
  refine List.filterMap_congr fun m hm => ?_
  rw [h.item, if_neg (apart m hm), clock]

theorem State.Withdrawn.trans {s t u : State} {l : LaneId} {ns ms : List Nat} {reason : WithdrawReason}
    (h : s.Withdrawn t l ns reason) (h' : t.Withdrawn u l ms reason) (apart : ∀ m ∈ ms, m ∉ ns) :
    s.Withdrawn u l (ns ++ ms) reason := by
  obtain ⟨before, hbefore, sub⟩ := h.events
  obtain ⟨after, hafter, sub'⟩ := h'.events
  refine ⟨h'.placed, fun m => ?_, ?_, ?_, fun m hm => (h'.others m hm).trans (h.others m hm), h'.sorter.trans h.sorter, ?_,
    before ++ after, ?_, ?_⟩
  · rw [h'.item, h.item]
    by_cases hm : m ∈ ms <;> by_cases hn : m ∈ ns <;> simp [hm, hn]
  · rw [h'.queue, h.queue, List.filter_filter]
    refine List.filter_congr fun m _ => ?_
    simp [Bool.and_comm]
  · rw [h'.timer, h.timer]
    cases (s.lanes.at l).timer with
    | none => rfl
    | some w => by_cases hn : w.item ∈ ns <;> simp [Option.filter, hn]
  · rw [h'.line, h.line]
  · rw [hafter, hbefore, List.append_assoc]
  · rw [withdrawals_append, ← h.withdrawals apart]
    exact sub.append sub'

/-- Items of one queue, each named once, are retired one after another. -/
theorem foldl_withdraw_withdrawn {s : State} (h : s.Placed) {l : LaneId} {ns : List Nat}
    (queued : ∀ n ∈ ns, n ∈ (s.lanes.at l).queue) (nodup : ns.Nodup) (reason : WithdrawReason) (tell : Bool) :
    s.Withdrawn (ns.foldl (fun u n => u.withdraw n reason tell) s) l ns reason := by
  induction ns generalizing s with
  | nil =>
    refine ⟨h, fun m => by simp, by simp, ?_, fun _ _ => rfl, rfl, rfl, [], by simp, .slnil⟩
    cases timer : (s.lanes.at l).timer <;> simp [timer, Option.filter]
  | cons n rest ih =>
    obtain ⟨notLater, nodup⟩ := List.nodup_cons.1 nodup
    have first := withdraw_withdrawn h (queued n List.mem_cons_self) reason tell
    have later := ih first.placed (fun m hm => ?_) nodup
    · exact first.trans later fun m hm hmn => notLater (List.mem_singleton.1 hmn ▸ hm)
    · rw [first.queue, List.mem_filter]
      refine ⟨queued m (List.mem_cons_of_mem n hm), decide_eq_true fun hmn => ?_⟩
      exact notLater (List.mem_singleton.1 hmn ▸ hm)

/-! ### An AT END answer (R58 to R61) -/

theorem hasTicket_iff (s : State) (ticket n : Nat) :
    s.hasTicket ticket n = true ↔ ∃ it, s.item n = some it ∧ it.ticket = ticket := by
  unfold State.hasTicket
  cases s.item n <;> simp

theorem atEnd_of_orphan {s : State} {l : LaneId} {ticket : Nat}
    (h : ∀ n ∈ (s.lanes.at l).queue, ∀ it, s.item n = some it → it.ticket ≠ ticket) :
    s.atEnd l ticket = s.offer 0 (.stationOrphan ⟨l, .laneEnd⟩ ticket .atEnd) := by
  have none : (s.lanes.at l).queue.find? (s.hasTicket ticket) = none :=
    find?_of_none (hasTicket_iff s ticket) fun n hn => by rintro ⟨it, live, carries⟩; exact h n hn it live carries
  unfold State.atEnd
  dsimp only
  rw [none]

/-- The items ahead of the first that carries the ticket are retired, and it arrives (R58, R59). -/
theorem atEnd_of_queued {s : State} {l : LaneId} {ticket n : Nat} {ahead rest : List Nat} {it : Item}
    (queue : (s.lanes.at l).queue = ahead ++ n :: rest)
    (others : ∀ m ∈ ahead, ∀ y, s.item m = some y → y.ticket ≠ ticket) (live : s.item n = some it)
    (carries : it.ticket = ticket) :
    s.atEnd l ticket = (ahead.foldl (fun u m => u.withdraw m .skipped true) s).arrive l n := by
  have found : (ahead ++ n :: rest).find? (s.hasTicket ticket) = some n :=
    find?_of_first (hasTicket_iff s ticket) ⟨it, live, carries⟩ fun m hm => by
      rintro ⟨y, hy, same⟩; exact others m hm y hy same
  have passed : (ahead ++ n :: rest).takeWhile (fun m => !s.hasTicket ticket m) = ahead := by
    rw [List.takeWhile_append_of_pos fun m hm => ?_, List.takeWhile_cons_of_neg, List.append_nil]
    · simpa using (hasTicket_iff s ticket n).2 ⟨it, live, carries⟩
    · rw [Bool.not_eq_true', ← Bool.not_eq_true, hasTicket_iff]
      rintro ⟨y, hy, same⟩
      exact others m hm y hy same
  unfold State.atEnd
  dsimp only
  rw [queue, found]
  dsimp only
  rw [passed]

/-- What arrival makes of an item: one that is still undecided waits, one that is decided is ready (R58). -/
def Item.arrived (it : Item) : Item :=
  { it with state := match it.state with
      | .measuring => .waiting
      | .decided => .ready
      | .waiting => .waiting
      | .ready => .ready
      | .sorting => .sorting }

section Arrive

variable {s : State} {n : Nat} {it : Item} (l : LaneId)

theorem arrive_of_measuring (live : s.item n = some it) (h : it.state = .measuring) :
    s.arrive l n = (s.modItem n fun x => { x with state := .waiting }).modLane l fun x =>
      { x with timer := some ⟨1000 * s.line.decisionWait, n⟩ } := by
  simp only [State.arrive, live, h]
  rfl

theorem arrive_of_decided (live : s.item n = some it) (h : it.state = .decided) :
    s.arrive l n = s.modItem n fun x => { x with state := .ready } := by
  simp only [State.arrive, live, h]

theorem arrive_of_arrived (live : s.item n = some it) (h : it.state = .waiting ∨ it.state = .ready ∨ it.state = .sorting) :
    s.arrive l n = s := by
  rcases h with h | h | h <;> simp only [State.arrive, live, h]

/-- What arrival changes: the item, and for one that was MEASURING its lane's timer (R58, R61). -/
theorem arrive_cases (live : s.item n = some it) :
    (∀ m, (s.arrive l n).item m = if n = m then some it.arrived else s.item m) ∧
      (s.arrive l n).lanes = (if it.state = .measuring then s.lanes.modify l fun x =>
        { x with timer := some ⟨1000 * s.line.decisionWait, n⟩ } else s.lanes) ∧
      (s.arrive l n).queue = s.queue ∧ (s.arrive l n).sorter = s.sorter ∧ (s.arrive l n).totes = s.totes ∧
      (s.arrive l n).port = s.port ∧ (s.arrive l n).bus = s.bus := by
  have rewritten : ∀ (f : Item → Item), f it = it.arrived → ∀ m,
      (s.modItem n f).item m = if n = m then some it.arrived else s.item m := fun f hf m => by
    rw [item_modItem]
    split
    · next e => rw [← e, live]; exact congrArg some hf
    · rfl
  have kept : it.arrived = it → ∀ m, s.item m = if n = m then some it.arrived else s.item m := fun same m => by
    rw [same]
    split
    · next e => exact e ▸ live
    · rfl
  cases state : it.state with
  | measuring =>
    rw [arrive_of_measuring l live state]
    exact ⟨rewritten (fun x => { x with state := .waiting }) (by simp [Item.arrived, state]), rfl, rfl, rfl, rfl, rfl, rfl⟩
  | decided =>
    rw [arrive_of_decided l live state]
    exact ⟨rewritten (fun x => { x with state := .ready }) (by simp [Item.arrived, state]), rfl, rfl, rfl, rfl, rfl, rfl⟩
  | waiting | ready | sorting =>
    rw [arrive_of_arrived l live (by simp [state])]
    refine ⟨kept ?_, rfl, rfl, rfl, rfl, rfl, rfl⟩
    simp only [Item.arrived, state]
    rw [← state]

end Arrive

theorem exec_atEnd {s : State} {a : AnswerHead} {x : SlotId} (turn : s.turnFor x a = true) (role : x.role = .laneEnd) :
    exec (.atEnd a) s = .next ((s.heard x).atEnd x.lane a.ticket) :=
  congrArg Host.Outcome.next (takeAnswer_heard turn (by simp [role]) fun x s => s.atEnd x.lane a.ticket)

/-- Settles O23: an arrival after no retirement, none at all, or after those of `State.Withdrawn`. -/
theorem atEndArrivesSkipsOrIsAnOrphan : Obligations.AtEndArrivesSkipsOrIsAnOrphan := by
  refine ⟨fun s a x turn role => ⟨fun n rest it queue live carries => ?_, fun orphan => ?_⟩,
    fun s a x ahead rest n it turn role placed queue others live carries => ?_⟩
  · have taken : exec (.atEnd a) s = .next ((s.heard x).arrive x.lane n) :=
      (exec_atEnd turn role).trans (congrArg _
        (atEnd_of_queued (s := s.heard x) (ahead := []) queue nofun live carries))
    refine ⟨fun h => ?_, fun h => ?_, fun h => ?_⟩
    · rw [taken, arrive_of_measuring (s := s.heard x) _ live h]
      rfl
    · rw [taken, arrive_of_decided (s := s.heard x) _ live h]
    · rw [taken, arrive_of_arrived (s := s.heard x) _ live (h.imp_right .inl)]
  · rw [exec_atEnd turn role, atEnd_of_orphan (s := s.heard x) orphan, ← role]
  · have placed : (s.heard x).Placed := (itemsPlaced_iff (s.heard x)).1 placed
    have nodup : (ahead ++ n :: rest).Nodup := queue ▸ placed.nodup x.lane
    obtain ⟨once, later, apart⟩ := List.nodup_append.1 nodup
    have notAhead : n ∉ ahead := fun hn => apart n hn n List.mem_cons_self rfl
    have skipped := foldl_withdraw_withdrawn placed (l := x.lane) (ns := ahead)
      (fun m hm => by rw [heard_lanes, queue]; exact List.mem_append_left _ hm) once .skipped true
    have live' := skipped.item n
    rw [if_neg notAhead] at live'
    obtain ⟨item, lanes, events, sorter, totes, port, bus⟩ := arrive_cases x.lane (live'.trans live)
    have behind : (s.lanes.at x.lane).queue.filter (fun m => decide (m ∉ ahead)) = n :: rest := by
      rw [queue, List.filter_append, List.filter_eq_nil_iff.2 (by simp), List.nil_append]
      exact List.filter_eq_self.2 fun m hm => decide_eq_true fun hma => apart m hma m hm rfl
    refine ⟨_, (exec_atEnd turn role).trans (congrArg _ (atEnd_of_queued (s := s.heard x) queue others live carries)),
      ?_, fun m hm => ?_, fun m hm hmn => ?_, fun h => ?_, fun h => ?_, ?_, ?_, fun l hl => ?_, ?_, ?_, ?_, ?_⟩
    · rw [lanes]
      refine Eq.trans ?_ (skipped.queue.trans behind)
      split
      · rw [quad_at_modify_self]
      · rfl
    · rw [item, if_neg fun e : n = m => notAhead (e ▸ hm), skipped.item, if_pos hm]
    · rw [item, if_neg (Ne.symm hmn), skipped.item, if_neg hm]
      rfl
    · rw [lanes, if_pos h, quad_at_modify_self, skipped.line]
      rfl
    · rw [lanes, if_neg h]
      exact skipped.timer
    · rw [item, if_pos rfl]
      unfold Item.arrived
      cases it.state <;> rfl
    · rw [events]
      exact skipped.events
    · rw [lanes]
      refine Eq.trans ?_ (skipped.others l hl)
      split
      · exact quad_at_modify_other _ _ _ _ (Ne.symm hl)
      · rfl
    · exact sorter.trans skipped.sorter
    · exact totes.trans (foldl_keeps (fun u => u.totes) _ (fun u m => withdraw_totes u m .skipped true) _ _)
    · exact port.trans (foldl_keeps (fun u => u.port) _ (fun u m => withdraw_port u m .skipped true) _ _)
    · exact bus.trans (foldl_keeps (fun u => u.bus) _ (fun u m => withdraw_bus u m .skipped true) _ _)

end Sys2Proof.Machine
end

section
/-! ABORT LANE (R66): the queue retired, the verdict dropped, the parcel settled. -/

namespace Sys2Proof.Machine

/-! ### The lane's queue retired (R13, R66) -/

/-- The lane's queue retired head to tail, its verdict and its timer dropped: an abort before it settles the parcel. -/
def State.emptied (s : State) (l : LaneId) (reason : WithdrawReason) : State :=
  ((s.lanes.at l).queue.foldl (fun u n => u.withdraw n reason false) s).modLane l fun x =>
    { x with queue := [], verdict := .none, timer := none }

theorem abort_eq (s : State) (l : LaneId) (reason : WithdrawReason) (cause : EndCause) :
    s.abort l reason cause = if (s.lanes.at l).state = .idle then s.emptied l reason
      else (s.emptied l reason).settle l cause (s.lanes.at l).queue.length := rfl

theorem withdraw_untold_returns (s : State) (n : Nat) (reason : WithdrawReason) :
    (s.withdraw n reason false).returns = s.returns := by
  unfold State.withdraw
  split
  · rfl
  · rw [afterRetirement_untold, endIfEmpty_returns, releaseBank_returns, closeRecord_returns]

/-- A retirement that the lane is not told of leaves the lane its parcel. -/
theorem withdraw_untold_parcel (s : State) (n : Nat) (reason : WithdrawReason) (l : LaneId) :
    ((s.withdraw n reason false).lanes.at l).parcel = (s.lanes.at l).parcel := by
  unfold State.withdraw
  split
  · rfl
  · rw [afterRetirement_untold, endIfEmpty_lanes, releaseBank_lanes, closeRecord_lanes, quad_at_modify]
    split <;> rfl

theorem lane_eq_of_parcel {x y : Lane} (h : y.parcel = x.parcel) :
    ({ y with queue := [], verdict := .none, timer := none } : Lane) =
      { x with queue := [], verdict := .none, timer := none } := by
  simp only [Lane.parcel, Prod.mk.injEq] at h
  obtain ⟨state, counter, account, bound, cause, ticket⟩ := h
  rw [state, counter, account, bound, cause, ticket]

section Emptied

variable {s : State} {l : LaneId} (reason : WithdrawReason)

theorem emptied_lane : (s.emptied l reason).lanes.at l =
    { s.lanes.at l with queue := [], verdict := .none, timer := none } := by
  refine (quad_at_modify_self _ l _).trans (lane_eq_of_parcel ?_)
  exact foldl_keeps (fun u => (u.lanes.at l).parcel) _ (fun u n => withdraw_untold_parcel u n reason l) _ s

theorem emptied_returns : (s.emptied l reason).returns = s.returns :=
  foldl_keeps (fun u => u.returns) _ (fun u n => withdraw_untold_returns u n reason) _ s

theorem emptied_ra (n : Nat) : (s.emptied l reason).ra n = s.ra n := by
  unfold State.ra
  rw [emptied_returns]

theorem retired_withdrawn (h : s.Placed) :
    s.Withdrawn ((s.lanes.at l).queue.foldl (fun u n => u.withdraw n reason false) s) l (s.lanes.at l).queue reason :=
  foldl_withdraw_withdrawn h (fun _ hn => hn) (h.nodup l) reason false

theorem emptied_other_lane (h : s.Placed) {m : LaneId} (hm : m ≠ l) :
    (s.emptied l reason).lanes.at m = s.lanes.at m :=
  (quad_at_modify_other _ _ _ _ (Ne.symm hm)).trans ((retired_withdrawn reason h).others m hm)

end Emptied

/-! ### The events of an abort (R14, R65, R66) -/

/-- Events are stored after those there, and none of them is a PARCEL CLOSED. -/
def State.growsUnsettled (s t : State) : Prop :=
  ∃ more, t.queue.events = s.queue.events ++ more ∧ ∀ e ∈ more, e.body.kind ≠ .parcelClosed

namespace State.growsUnsettled

variable {s t u : State}

theorem refl (s : State) : s.growsUnsettled s := ⟨[], (List.append_nil _).symm, fun _ he => absurd he List.not_mem_nil⟩

theorem trans (h : s.growsUnsettled t) (h' : t.growsUnsettled u) : s.growsUnsettled u := by
  obtain ⟨before, hbefore, kinds⟩ := h
  obtain ⟨after, hafter, kinds'⟩ := h'
  refine ⟨before ++ after, by rw [hafter, hbefore, List.append_assoc], fun e he => ?_⟩
  exact (List.mem_append.1 he).elim (kinds e) (kinds' e)

theorem of_offer (s : State) (item : Nat) {body : EventBody} (h : body.kind ≠ .parcelClosed) :
    s.growsUnsettled (s.offer item body) := by
  cases enabled : s.enabled body.kind with
  | false => rw [offer_disabled s item body enabled]; exact refl s
  | true =>
    cases room : s.roomForEvent with
    | false => rw [offer_dropped s item body enabled room]; exact refl s
    | true =>
      rw [offer_stored s item body enabled room]
      exact ⟨_, rfl, fun e he => by rw [List.mem_singleton.1 he]; exact h⟩

end State.growsUnsettled

theorem endIfEmpty_growsUnsettled (s : State) : s.growsUnsettled s.endIfEmpty := by
  unfold State.endIfEmpty State.endTest
  split
  · split
    · exact .of_offer { s with line := { s.line with mode := .setup } } 0 nofun
    · exact .refl s
  · exact .refl s

theorem releaseBank_growsUnsettled (s : State) (b : BankId) : s.growsUnsettled (s.releaseBank b) := by
  unfold State.releaseBank
  dsimp only
  split
  · exact .of_offer (s.modBank b _) 0 nofun
  · exact .refl s

theorem withdraw_growsUnsettled (s : State) (n : Nat) (reason : WithdrawReason) :
    s.growsUnsettled (s.withdraw n reason false) := by
  unfold State.withdraw
  split
  · exact .refl s
  · next it _ =>
    have closed : s.growsUnsettled (s.closeRecord n it (.itemWithdrawn reason it.finalFields)) :=
      ⟨_, rfl, fun e he => by rw [List.mem_singleton.1 he]; nofun⟩
    rw [afterRetirement_untold]
    exact closed.trans ((releaseBank_growsUnsettled _ _).trans (endIfEmpty_growsUnsettled _))

theorem foldl_withdraw_growsUnsettled (ns : List Nat) (reason : WithdrawReason) (s : State) :
    s.growsUnsettled (ns.foldl (fun u n => u.withdraw n reason false) s) := by
  induction ns generalizing s with
  | nil => exact .refl s
  | cons n rest ih => exact (withdraw_growsUnsettled s n reason).trans (ih _)

/-- The events that retire a lane's queue: the final events in queue order, and no PARCEL CLOSED. -/
theorem emptied_events {s : State} (h : s.Placed) (l : LaneId) (reason : WithdrawReason) :
    ∃ more, (s.emptied l reason).queue.events = s.queue.events ++ more ∧
      (s.withdrawals (s.lanes.at l).queue reason).Sublist more ∧ ∀ e ∈ more, e.body.kind ≠ .parcelClosed := by
  obtain ⟨more, events, finals⟩ := (retired_withdrawn (l := l) reason h).events
  obtain ⟨more', events', kinds⟩ := foldl_withdraw_growsUnsettled (s.lanes.at l).queue reason s
  rw [events'] at events
  obtain rfl := List.append_cancel_left events
  exact ⟨_, events', finals, kinds⟩

/-! ### Room for PARCEL CLOSED (R106, R188) -/

def Bank.drains (b : Bank) : Nat := if b.state = .draining then 1 else 0

/-- The Event Queue entries that are taken or kept for final events, with one for each bank that can still drain. -/
def State.eventLoad (s : State) : Nat := s.used + s.live + ((s.plan.banks.at .b0).drains + (s.plan.banks.at .b1).drains)

/-- A bank that offers PLAN DRAINED drains no more. -/
theorem releaseBank_eventLoad (s : State) (b : BankId) : (s.releaseBank b).eventLoad ≤ s.eventLoad := by
  obtain ⟨more, events, one⟩ := releaseBank_events s b
  have live : (s.releaseBank b).live = s.live := live_of_items_eq (releaseBank_items s b)
  have used : (s.releaseBank b).used = s.used + more.length := by
    unfold State.used
    rw [events, List.length_append]
  have banks : more.length + (((s.releaseBank b).plan.banks.at .b0).drains + ((s.releaseBank b).plan.banks.at .b1).drains) ≤
      (s.plan.banks.at .b0).drains + (s.plan.banks.at .b1).drains := by
    rw [releaseBank_plan]
    by_cases last : (s.plan.banks.at b).state = .draining ∧ (s.plan.banks.at b).bound ≤ 1
    · have released : (s.plan.banks.at b).released.drains + 1 = (s.plan.banks.at b).drains := by
        simp [Bank.released, last, Bank.drains]
      cases b <;> simp only [Pair.at, Pair.modify] at released ⊢ <;> omega
    · have nothing : more = [] := by
        have kept : (s.releaseBank b).queue = s.queue := by
          have last' : ¬ ((s.plan.banks.at b).state = .draining ∧ (s.plan.banks.at b).bound - 1 = 0) := by
            rintro ⟨draining, zero⟩
            exact last ⟨draining, by omega⟩
          unfold State.releaseBank
          dsimp only
          rw [if_neg last']
          rfl
        rw [kept] at events
        exact List.append_right_eq_self.1 events.symm
      have released : (s.plan.banks.at b).released.drains = (s.plan.banks.at b).drains := by
        simp [Bank.released, last, Bank.drains]
      subst nothing
      cases b <;> simp only [Pair.at, Pair.modify, List.length_nil] at released ⊢ <;> omega
  unfold State.eventLoad
  omega

/-- While a lane has its parcel, no stop ends, and a retirement's final event takes the entry of its item. -/
theorem withdraw_eventLoad (s : State) (n : Nat) (reason : WithdrawReason) {l : LaneId}
    (busy : (s.lanes.at l).state ≠ .idle) : (s.withdraw n reason false).eventLoad ≤ s.eventLoad := by
  cases live : s.item n with
  | none => simp only [State.withdraw, live]; exact Nat.le_refl _
  | some it =>
    have closed := closeRecord_closed s n it (.itemWithdrawn reason it.finalFields)
    have load : (s.closeRecord n it (.itemWithdrawn reason it.finalFields)).eventLoad ≤ s.eventLoad := by
      have used := closed.used_live live
      unfold State.eventLoad
      rw [closed.plan]
      simp only [List.length_nil, Nat.add_zero] at used
      omega
    have running : ((s.closeRecord n it (.itemWithdrawn reason it.finalFields)).releaseBank it.bank).endIfEmpty =
        (s.closeRecord n it (.itemWithdrawn reason it.finalFields)).releaseBank it.bank := by
      unfold State.endIfEmpty
      split
      · refine endTest_of_not_due fun due => busy ?_
        have idle := due.2.2 l
        rw [releaseBank_lanes, closeRecord_lanes, quad_at_modify] at idle
        split at idle <;> exact idle
      · rfl
    simp only [State.withdraw, live]
    rw [afterRetirement_untold, running]
    exact (releaseBank_eventLoad _ _).trans load

theorem foldl_withdraw_eventLoad (ns : List Nat) (reason : WithdrawReason) {l : LaneId} (s : State)
    (busy : (s.lanes.at l).state ≠ .idle) :
    (ns.foldl (fun u n => u.withdraw n reason false) s).eventLoad ≤ s.eventLoad := by
  induction ns generalizing s with
  | nil => exact Nat.le_refl _
  | cons n rest ih =>
    have state : ((s.withdraw n reason false).lanes.at l).state = (s.lanes.at l).state :=
      congrArg Prod.fst (withdraw_untold_parcel s n reason l)
    exact (ih _ (state ▸ busy)).trans (withdraw_eventLoad s n reason busy)

/-- Three free places beside the final events' entries: two for banks that drain, and the last for PARCEL CLOSED. -/
theorem emptied_room {s : State} {l : LaneId} (reason : WithdrawReason) (busy : (s.lanes.at l).state ≠ .idle)
    (room : s.used + s.live ≤ 253) : (s.emptied l reason).roomForEvent = true := by
  have load : (s.emptied l reason).eventLoad ≤ s.eventLoad := foldl_withdraw_eventLoad _ reason s busy
  have drains : ∀ b : Bank, b.drains ≤ 1 := fun b => by
    unfold Bank.drains
    split <;> omega
  have := drains (s.plan.banks.at .b0)
  have := drains (s.plan.banks.at .b1)
  unfold State.eventLoad at load
  exact decide_eq_true (by show _ < 256; omega)

/-! ### What an abort leaves (R66) -/

section Abort

variable {s : State} {l : LaneId} (reason : WithdrawReason) (cause : EndCause)

theorem abort_of_idle (idle : (s.lanes.at l).state = .idle) : s.abort l reason cause = s.emptied l reason := by
  rw [abort_eq, if_pos idle]

theorem abort_of_busy (busy : (s.lanes.at l).state ≠ .idle) :
    s.abort l reason cause = (s.emptied l reason).settle l cause (s.lanes.at l).queue.length := by
  rw [abort_eq, if_neg busy]

theorem abort_lane_of_busy (busy : (s.lanes.at l).state ≠ .idle) : (s.abort l reason cause).lanes.at l =
    { (s.lanes.at l).settled with queue := [], verdict := .none, timer := none } := by
  rw [abort_of_busy reason cause busy, settle_lanes, quad_at_modify_self, emptied_lane]
  rfl

/-- The lane after an abort, whether or not it had a parcel: IDLE, with its counters kept. -/
theorem abort_lane : ∃ x : Lane, (s.abort l reason cause).lanes.at l =
    { x with queue := [], verdict := .none, timer := none } ∧ x.state = .idle ∧
      x.parcelCounter = (s.lanes.at l).parcelCounter ∧ x.nextTicket = (s.lanes.at l).nextTicket := by
  by_cases idle : (s.lanes.at l).state = .idle
  · exact ⟨s.lanes.at l, by rw [abort_of_idle reason cause idle, emptied_lane], idle, rfl, rfl⟩
  · exact ⟨(s.lanes.at l).settled, abort_lane_of_busy reason cause idle, rfl, rfl, rfl⟩

theorem abort_ra_of_busy (busy : (s.lanes.at l).state ≠ .idle) (n : Nat) : (s.abort l reason cause).ra n =
    if n ∈ (s.lanes.at l).boundRas then (s.ra n).bind Ra.closing else s.ra n := by
  rw [abort_of_busy reason cause busy, settle_ra, emptied_lane, emptied_ra]

theorem abort_other_lane (h : s.Placed) {m : LaneId} (hm : m ≠ l) :
    (s.abort l reason cause).lanes.at m = s.lanes.at m := by
  rw [abort_eq]
  split
  · exact emptied_other_lane reason h hm
  · rw [settle_lanes, quad_at_modify_other _ _ _ _ (Ne.symm hm), emptied_other_lane reason h hm]

theorem abort_item (n : Nat) :
    (s.abort l reason cause).item n = if n ∈ (s.lanes.at l).queue then none else s.item n := by
  have emptied : (s.emptied l reason).item n = if n ∈ (s.lanes.at l).queue then none else s.item n :=
    item_foldl_withdraw _ reason false s n
  rw [abort_eq]
  split
  · exact emptied
  · exact (congrArg (·.records.lookup n) (settle_items _ _ _ _)).trans emptied

theorem abort_sorter (h : s.Placed) : (s.abort l reason cause).sorter = s.sorter := by
  have emptied : (s.emptied l reason).sorter = s.sorter := (retired_withdrawn reason h).sorter
  rw [abort_eq]
  split
  · exact emptied
  · rw [settle_sorter, emptied]

/-- PARCEL CLOSED follows the final events, and it reports the RAs as they were before the abort. -/
theorem abort_events_of_busy (h : s.Placed) (busy : (s.lanes.at l).state ≠ .idle)
    (enabled : s.enabled .parcelClosed = true) (room : s.used + s.live ≤ 253) :
    ∃ more, (s.abort l reason cause).queue.events = s.queue.events ++ more ∧
      (s.withdrawals (s.lanes.at l).queue reason ++ [(⟨s.line.clock, 0, .parcelClosed l (s.lanes.at l).parcelCounter
        (s.lanes.at l).account cause (s.lanes.at l).queue.length ((s.lanes.at l).boundRas.filterMap fun n =>
          (s.ra n).map fun r => (n, r.closingReport))⟩ : Event)]).Sublist more := by
  obtain ⟨retired, events, finals, _⟩ := emptied_events h l reason
  have line : (s.emptied l reason).line = { s.line with mode := (s.emptied l reason).line.mode } :=
    (retired_withdrawn reason h).line
  have clock : (s.emptied l reason).line.clock = s.line.clock := by rw [line]
  have enabled' : (s.emptied l reason).enabled .parcelClosed = true := by
    unfold State.enabled at enabled ⊢
    rwa [line]
  have outcomes : (s.emptied l reason).outcomes l = (s.lanes.at l).boundRas.filterMap fun n =>
      (s.ra n).map fun r => (n, r.closingReport) := by
    simp only [outcomes_eq, emptied_lane, emptied_ra]
  obtain ⟨rest, settled⟩ := settle_events _ l cause (s.lanes.at l).queue.length enabled' (emptied_room reason busy room)
  rw [events, List.append_assoc, clock, outcomes, emptied_lane] at settled
  refine ⟨_, by rw [abort_of_busy reason cause busy, settled], finals.append ?_⟩
  exact (List.nil_sublist rest).cons_cons _

theorem abort_events (h : s.Placed) : ∃ more, (s.abort l reason cause).queue.events = s.queue.events ++ more ∧
    (s.withdrawals (s.lanes.at l).queue reason).Sublist more ∧
    ((s.lanes.at l).state = .idle → ∀ e ∈ more, e.body.kind ≠ .parcelClosed) := by
  obtain ⟨retired, events, finals, kinds⟩ := emptied_events h l reason
  by_cases idle : (s.lanes.at l).state = .idle
  · exact ⟨retired, by rw [abort_of_idle reason cause idle, events], finals, fun _ => kinds⟩
  · obtain ⟨settling, settled⟩ := eventsGrow_settle (s.emptied l reason) l cause (s.lanes.at l).queue.length
    refine ⟨retired ++ settling, ?_, finals.trans (List.sublist_append_left _ _), fun h => absurd h idle⟩
    rw [abort_of_busy reason cause idle, settled, events, List.append_assoc]

end Abort

theorem exec_abortLane {s : State} {lane : Nat} {l : LaneId} (tag : Nat) (h : s.serving = false) (hl : laneOf lane = some l) :
    exec (.abortLane tag lane) s = .next { s.frameTaken.abort l .aborted .aborted with
      port := s.port.answered ⟨tag, 50, .done, .aborted (s.lanes.at l).queue.length (decide ((s.lanes.at l).state ≠ .idle))⟩ } := by
  have act : abortLane lane s.frameTaken = ⟨{ s.frameTaken.abort l .aborted .aborted with port := s.frameTaken.port }, .done,
      .aborted (s.lanes.at l).queue.length (decide ((s.lanes.at l).state ≠ .idle))⟩ := by
    rw [← abort_port s.frameTaken l .aborted .aborted]
    simp only [abortLane, hl]
    rfl
  exact (exec_request (.abortLane tag lane) tag 50 _ rfl s).trans (congrArg _ (serve_taken s _ tag 50 _ _ _ h act))

/-- Settles O20: the queue's retirement (`State.Withdrawn`) and then, for a lane with a parcel, its settlement. At a load
of 253 PARCEL CLOSED has an entry even when both banks drain meanwhile (`emptied_room`). -/
theorem abortLaneClearsTheLane : Obligations.AbortLaneClearsTheLane := by
  intro s tag lane l h hl placed
  have placed : s.frameTaken.Placed := (itemsPlaced_iff s.frameTaken).1 placed
  obtain ⟨x, laneAfter, state, counter, ticket⟩ := abort_lane (s := s.frameTaken) (l := l) .aborted .aborted
  refine ⟨_, exec_abortLane tag h hl, ?_, ?_, ?_, ?_, ?_, ?_, fun busy => ?_, fun idle => ?_,
    fun m hm => abort_other_lane _ _ placed hm, fun n hn => ?_, fun n hn => ?_, ?_, abort_bus s.frameTaken _ _ _,
    abort_sorter _ _ placed, abort_totes s.frameTaken _ _ _, rfl⟩
  · exact (congrArg Lane.state laneAfter).trans state
  · exact congrArg Lane.queue laneAfter
  · exact congrArg Lane.verdict laneAfter
  · exact congrArg Lane.timer laneAfter
  · exact (congrArg Lane.parcelCounter laneAfter).trans counter
  · exact (congrArg Lane.nextTicket laneAfter).trans ticket
  · have settled := abort_lane_of_busy (s := s.frameTaken) .aborted .aborted busy
    have ra := abort_ra_of_busy (s := s.frameTaken) .aborted .aborted busy
    exact ⟨congrArg Lane.boundRas settled, congrArg Lane.account settled, congrArg Lane.closeCause settled,
      fun n hn => (ra n).trans (if_pos hn), fun n hn => (ra n).trans (if_neg hn)⟩
  · exact (congrArg State.returns (abort_of_idle (s := s.frameTaken) _ _ idle)).trans (emptied_returns _)
  · exact (abort_item _ _ n).trans (if_pos hn)
  · exact (abort_item _ _ n).trans (if_neg hn)
  · obtain ⟨more, events, finals, kinds⟩ := abort_events (l := l) .aborted .aborted placed
    refine ⟨more, events, finals, kinds, fun busy enabled room => ?_⟩
    obtain ⟨more', events', finals'⟩ := abort_events_of_busy .aborted .aborted placed busy enabled room
    obtain rfl := List.append_cancel_left (events.symm.trans events')
    exact finals'

end Sys2Proof.Machine
end

section
/-! The roster: when a lane is usable (R50), and the three roster requests (R71 to R73). -/

namespace Sys2Proof.Machine

/-- R50: a lane is usable when none of its slots is vacant. -/
theorem usable_iff (s : State) (l : LaneId) : s.usable l = true ↔ ∀ role, (s.slot ⟨l, role⟩).state ≠ .vacant := by
  simp only [State.usable, PerRole.toList, List.all_cons, List.all_nil, Slot.enrolled, Bool.and_eq_true,
    decide_eq_true_eq, and_true]
  constructor
  · rintro ⟨entry, tag, scale, vision, laneEnd⟩ role
    cases role <;> assumption
  · exact fun h => ⟨h .entry, h .tag, h .scale, h .vision, h .laneEnd⟩

/-! ### The slot that a lane byte and a role byte name (R71) -/

theorem slotOf_known {lane : Nat} {l : LaneId} (hl : laneOf lane = some l) (role : Role) :
    slotOf lane (.known role) = some ⟨l, role⟩ := by
  simp only [slotOf, hl, coded]

theorem slotOf_beyond {lane : Nat} {role : Coded Role} (h : laneOf lane = none ∨ ∃ code, role = .beyond code) :
    slotOf lane role = none := by
  rcases h with hl | ⟨code, rfl⟩
  · simp only [slotOf, hl]
  · unfold slotOf
    cases laneOf lane <;> rfl

/-! ### The requests, test by test -/

/-- A slot as ENROL STATION leaves it (R71). -/
def Slot.enrolledAt (address : Nat) : Slot :=
  { state := .up, address := some address, score := 0, maxScore := 0, lastValid := none, outcome := none }

section Roster

variable {s : State} {x : SlotId} {lane address : Nat} {role : Coded Role}

theorem enrolStation_outOfRange (h : slotOf lane role = none ∨ address = 0 ∨ 62 < address) :
    enrolStation lane role address s = s.refuse .outOfRange := by
  unfold enrolStation
  split
  · rfl
  · next slot =>
    rw [slot] at h
    exact if_pos (h.resolve_left nofun)

theorem enrolStation_inUse (slot : slotOf lane role = some x) (range : 1 ≤ address ∧ address ≤ 62)
    (h : (s.lanes.at x.lane).state ≠ .idle ∨ (s.slot x).state ≠ .vacant) :
    enrolStation lane role address s = s.refuse .inUse := by
  have inRange : ¬ (address = 0 ∨ 62 < address) := by omega
  simp only [enrolStation, slot, if_neg inRange]
  split
  · rfl
  · next idle => exact if_pos (decide_eq_true (h.resolve_left idle))

/-- Past the tests of the lane and of the slot, ENROL STATION turns on the address. -/
theorem enrolStation_of_vacant (slot : slotOf lane role = some x) (range : 1 ≤ address ∧ address ≤ 62)
    (idle : (s.lanes.at x.lane).state = .idle) (vacant : (s.slot x).state = .vacant) :
    enrolStation lane role address s =
      if allSlots.any fun y => decide ((s.slot y).address = some address) then s.refuse .duplicate
      else (s.modSlot x fun _ => Slot.enrolledAt address).done
        (.enrolled x ((s.modSlot x fun _ => Slot.enrolledAt address).usable x.lane)) := by
  have inRange : ¬ (address = 0 ∨ 62 < address) := by omega
  have unenrolled : (s.slot x).enrolled = false := by simp [Slot.enrolled, vacant]
  simp only [enrolStation, slot, if_neg inRange, idle, ne_eq, not_true_eq_false, unenrolled, Bool.false_eq_true, if_false]
  rfl

theorem addressTaken_iff (s : State) (address : Nat) :
    (allSlots.any fun y => decide ((s.slot y).address = some address)) = true ↔ ∃ y, (s.slot y).address = some address := by
  simp only [List.any_eq_true, mem_allSlots, true_and, decide_eq_true_eq]

theorem retireStation_notFound (slot : slotOf lane role = some x) (vacant : (s.slot x).state = .vacant) :
    retireStation lane role s = s.refuse .notFound := by
  simp [retireStation, slot, Slot.enrolled, vacant]

/-- Past the test of the slot, RETIRE STATION turns on the lane. -/
theorem retireStation_of_enrolled (slot : slotOf lane role = some x) (enrolled : (s.slot x).state ≠ .vacant) :
    retireStation lane role s =
      if (s.lanes.at x.lane).state ≠ .idle then s.refuse .inUse else (s.modSlot x fun _ => Slot.vacant).done .headOnly := by
  have enrolled : (s.slot x).enrolled = true := decide_eq_true enrolled
  simp only [retireStation, slot, enrolled, Bool.not_true, Bool.false_eq_true, if_false]

end Roster

/-- Settles O25: each request by its tests in their order. -/
theorem rosterRequests : Obligations.RosterRequests := by
  refine ⟨fun s tag lane role l h hl => ?_, fun s tag lane address role h => ⟨fun beyond => ?_, fun beyond => ⟨?_, ?_⟩⟩,
    usable_iff⟩
  · have slot := slotOf_known hl role
    refine ⟨fun address one most idle vacant free u hu => ?_, fun idle enrolled => ?_, ?_,
      fun busy => ⟨fun address one most => ?_, fun enrolled => ?_⟩,
      fun idle address one most => ⟨fun enrolled => ?_, fun vacant taken => ?_⟩, fun vacant => ?_⟩
    · subst hu
      refine exec_done (.enrolStation tag lane (.known role) address) rfl h _ rfl ?_
      refine (enrolStation_of_vacant (s := s.frameTaken) slot ⟨one, most⟩ idle vacant).trans (if_neg ?_)
      rw [addressTaken_iff]
      exact fun ⟨y, hy⟩ => free y hy
    · exact exec_done (.retireStation tag lane (.known role)) rfl h (s.modSlot ⟨l, role⟩ fun _ => Slot.vacant) rfl
        ((retireStation_of_enrolled (s := s.frameTaken) slot enrolled).trans (if_neg (not_not_intro idle)))
    · refine exec_done (.readStation tag lane (.known role)) rfl h (s.modSlot ⟨l, role⟩ fun x => { x with maxScore := x.score })
        rfl ?_
      simp only [readStation, slot]
      rfl
    · exact exec_refused (.enrolStation tag lane (.known role) address) rfl h
        (enrolStation_inUse (s := s.frameTaken) slot ⟨one, most⟩ (.inl busy))
    · exact exec_refused (.retireStation tag lane (.known role)) rfl h
        ((retireStation_of_enrolled (s := s.frameTaken) slot enrolled).trans (if_pos busy))
    · exact exec_refused (.enrolStation tag lane (.known role) address) rfl h
        (enrolStation_inUse (s := s.frameTaken) slot ⟨one, most⟩ (.inr enrolled))
    · exact exec_refused (.enrolStation tag lane (.known role) address) rfl h
        ((enrolStation_of_vacant (s := s.frameTaken) slot ⟨one, most⟩ idle vacant).trans
          (if_pos ((addressTaken_iff s.frameTaken address).2 taken)))
    · exact exec_refused (.retireStation tag lane (.known role)) rfl h
        (retireStation_notFound (s := s.frameTaken) slot vacant)
  · refine exec_refused (.enrolStation tag lane role address) rfl h (enrolStation_outOfRange (s := s.frameTaken) ?_)
    rcases beyond with hl | code | address
    · exact .inl (slotOf_beyond (.inl hl))
    · exact .inl (slotOf_beyond (.inr code))
    · exact .inr address
  · exact exec_refused (.retireStation tag lane role) rfl h (by simp only [retireStation, slotOf_beyond beyond]; rfl)
  · exact exec_refused (.readStation tag lane role) rfl h (by simp only [readStation, slotOf_beyond beyond]; rfl)

end Sys2Proof.Machine
end

section
/-! The start of a sweep (R56, R74, R75). -/

namespace Sys2Proof.Machine

/-! ### With no slot enrolled, and with one -/

theorem mem_enrolledSlots (s : State) (x : SlotId) : x ∈ s.enrolledSlots ↔ (s.slot x).state ≠ .vacant := by
  simp only [State.enrolledSlots, List.mem_filter, mem_allSlots, true_and, Slot.enrolled, decide_eq_true_eq]

theorem beginSweep_of_vacant {s : State} (h : ∀ x, (s.slot x).state = .vacant) : s.beginSweep = s := by
  have roll : s.enrolledSlots = [] := List.eq_nil_iff_forall_not_mem.2 fun x hx => (mem_enrolledSlots s x).1 hx (h x)
  simp only [State.beginSweep, roll, List.isEmpty_nil, if_true]

/-- The open sweep and the roster as a sweep begins (R75): its frame takes the roll, the verdicts and the lamps. -/
theorem beginSweep_of_enrolled {s : State} {y : SlotId} (h : (s.slot y).state ≠ .vacant) : s.beginSweep.bus =
    { roster := s.bus.roster.map fun lane => lane.map Slot.rolled, number := wrapNext 0 255 s.bus.number,
      timer := s.bus.timer, sweep := some
        { roll := s.enrolledSlots, addresses := s.enrolledSlots.map fun x => ((s.slot x).address).getD 0,
          verdicts := s.lanes.map Lane.verdict, lamps := s.lanes.map fun l => ⟨l.state, s.suspended⟩,
          phase := .sendingFrame } } ∧
    s.beginSweep.lanes = s.lanes.map fun l => { l with verdict := .none } := by
  have roll : ¬ s.enrolledSlots.isEmpty = true := fun empty =>
    List.not_mem_nil (List.isEmpty_iff.1 empty ▸ (mem_enrolledSlots s y).2 h)
  simp only [State.beginSweep, if_neg roll, and_self]

theorem beginSweep_slot_of_enrolled {s : State} {y : SlotId} (h : (s.slot y).state ≠ .vacant) (x : SlotId) :
    s.beginSweep.slot x = (s.slot x).rolled := by
  obtain ⟨bus, _⟩ := beginSweep_of_enrolled h
  unfold State.slot
  rw [bus, quad_at_map, perRole_at_map]

/-! ### What the start of a sweep leaves -/

section Frame

variable (s : State)

@[simp] theorem beginSweep_port : s.beginSweep.port = s.port := by
  unfold State.beginSweep; dsimp only; split <;> rfl
@[simp] theorem beginSweep_queue : s.beginSweep.queue = s.queue := by
  unfold State.beginSweep; dsimp only; split <;> rfl
@[simp] theorem beginSweep_line : s.beginSweep.line = s.line := by
  unfold State.beginSweep; dsimp only; split <;> rfl
@[simp] theorem beginSweep_returns : s.beginSweep.returns = s.returns := by
  unfold State.beginSweep; dsimp only; split <;> rfl
@[simp] theorem beginSweep_items : s.beginSweep.items = s.items := by
  unfold State.beginSweep; dsimp only; split <;> rfl
@[simp] theorem beginSweep_plan : s.beginSweep.plan = s.plan := by
  unfold State.beginSweep; dsimp only; split <;> rfl
@[simp] theorem beginSweep_sorter : s.beginSweep.sorter = s.sorter := by
  unfold State.beginSweep; dsimp only; split <;> rfl
@[simp] theorem beginSweep_totes : s.beginSweep.totes = s.totes := by
  unfold State.beginSweep; dsimp only; split <;> rfl

/-- R75, R76: a slot keeps all but its outcome. -/
theorem beginSweep_slot (x : SlotId) : ∃ o, s.beginSweep.slot x = { s.slot x with outcome := o } := by
  by_cases h : ∀ x, (s.slot x).state = .vacant
  · rw [beginSweep_of_vacant h]
    exact ⟨(s.slot x).outcome, rfl⟩
  · obtain ⟨y, hy⟩ := not_forall.1 h
    rw [beginSweep_slot_of_enrolled hy]
    exact ⟨_, rfl⟩

end Frame

/-- With no sweep open, none is closed before the next begins (R74). -/
theorem closeSweep_of_none {s : State} (h : s.bus.sweep = none) : s.closeSweep = s := by
  simp only [State.closeSweep, h]

theorem exec_sweepTimer (s : State) : exec .sweepTimer s =
    .next { s.closeSweep.beginSweep with bus := { s.closeSweep.beginSweep.bus with
      timer := s.closeSweep.beginSweep.line.sweepPeriod } } := rfl

/-- Settles O26: with no sweep to close, the tick is the start of a sweep and of the timer. -/
theorem sweepTimerBeginsASweep : Obligations.SweepTimerBeginsASweep := by
  refine fun s none => ⟨fun vacant => ?_, fun y enrolled => ?_⟩
  · rw [exec_sweepTimer, closeSweep_of_none none, beginSweep_of_vacant vacant]
  · obtain ⟨bus, lanes⟩ := beginSweep_of_enrolled enrolled
    rw [exec_sweepTimer, closeSweep_of_none none]
    refine ⟨_, _, rfl, congrArg StationBus.sweep bus, rfl, rfl, fun l => quad_at_map _ _ l, fun l => quad_at_map _ _ l, rfl,
      congrArg StationBus.number bus, congrArg LineControl.sweepPeriod (beginSweep_line s), fun x => ?_,
      fun l => ?_, beginSweep_items s, beginSweep_returns s, beginSweep_queue s, beginSweep_line s, beginSweep_plan s,
      beginSweep_sorter s, beginSweep_totes s, beginSweep_port s⟩
    · refine (beginSweep_slot_of_enrolled enrolled x).trans ?_
      simp only [Slot.rolled, Slot.enrolled, decide_eq_true_eq]
    · exact (congrArg (fun q : Quad Lane => q.at l) lanes).trans (quad_at_map _ _ l)

end Sys2Proof.Machine
end

section
/-! The turns of a sweep (R72, R76 to R78). -/

namespace Sys2Proof.Machine

/-! ### The answers, in one form (R76, R77) -/

/-- The roles whose slots send the answer (R77). -/
def senders : Instr → Role → Bool
  | .presented _, r => decide (r = .entry)
  | .parcelDone _, r => decide (r = .entry)
  | .tagReading _ _, r => decide (r = .tag)
  | .weight _ _, r => decide (r = .scale)
  | .vision _ _, r => decide (r = .vision)
  | .atEnd _, r => decide (r = .laneEnd)
  | _, _ => true

/-- The answer's data are in the ranges of R77. -/
def answerInRange : Instr → Bool
  | .tagReading _ codes => codesInRange codes
  | .weight _ grams => decide (grams ≤ 30000)
  | .vision _ pieces => piecesInRange pieces
  | _ => true

/-- Every answer is taken in the same way, but for what it hands on. -/
theorem exec_answer {a : AnswerHead} {c : Instr} (h : answersWith a c) :
    ∃ act, ∀ s, exec c s = .next (s.takeAnswer a (senders c) (answerInRange c) act) := by
  cases c <;> cases h <;> exact ⟨_, fun _ => rfl⟩

theorem codesInRange_iff (codes : List (TagCode × Coded CheckResult)) :
    codesInRange codes = true ↔ codes.length ≤ 4 ∧ ∀ e ∈ codes, ∃ r, e.2 = .known r := by
  have known : ∀ r : Coded CheckResult, (coded r).isSome = true ↔ ∃ x, r = .known x := fun r => by
    cases r <;> simp [coded]
  simp only [codesInRange, Bool.and_eq_true, decide_eq_true_eq, List.all_eq_true, known]

theorem piecesInRange_iff (pieces : List PieceScores) :
    piecesInRange pieces = true ↔ 1 ≤ pieces.length ∧ pieces.length ≤ 8 ∧ ∀ p ∈ pieces, p.stain ≤ 100 ∧ p.tear ≤ 100 ∧
      p.wear ≤ 100 ∧ p.crease ≤ 100 ∧ p.swingTag ≤ 1 ∧ p.colour ≤ 100 := by
  simp only [piecesInRange, PieceScores.inRange, Bool.and_eq_true, decide_eq_true_eq, List.all_eq_true, and_assoc]

/-- R76, R77: what makes an answer with a good frame check garbled. -/
def State.answerGarbled (s : State) (x : SlotId) (a : AnswerHead) (c : Instr) : Prop :=
  ((s.slot x).address ≠ some a.address ∨ a.echo ≠ s.bus.number) ∨ senders c x.role = false ∨ answerInRange c = false

/-! ### In a turn, and outside every turn -/

section Turn

variable {s : State} {x : SlotId} {a : AnswerHead} {c : Instr}

theorem turnPassed_of_turn (turn : s.currentTurn = some x) (partialAnswer : Bool) : s.turnPassed partialAnswer =
    if (partialAnswer && (s.slot x).outcome.isSome) = true then s.endTurn.noteGarbled x else s.endTurn := by
  simp only [State.turnPassed, turn]

theorem takeGarbled_of_turn (turn : s.currentTurn = some x) : s.takeGarbled =
    if (s.slot x).outcome.isSome = true then s.endTurn.noteGarbled x else s.endTurn := by
  simp only [State.takeGarbled, turn]

/-- R72: the answer of a slot retired in the sweep ends the turn, and no more. -/
theorem exec_answer_of_retired (turn : s.currentTurn = some x) (retired : (s.slot x).outcome = none)
    (h : answersWith a c) : exec c s = .next s.endTurn := by
  obtain ⟨act, taken⟩ := exec_answer h
  rw [taken]
  simp only [State.takeAnswer, turn, retired, Option.isSome_none, Bool.false_eq_true, if_false]

theorem exec_answer_of_garbled (turn : s.currentTurn = some x) (scored : (s.slot x).outcome.isSome = true)
    (h : answersWith a c) (garbled : s.answerGarbled x a c) : exec c s = .next (s.endTurn.noteGarbled x) := by
  have invalid : s.answerValid x a (senders c x.role) (answerInRange c) = false := by
    unfold State.answerValid
    rcases garbled with (address | echo) | role | range
    · simp [address]
    · simp [echo]
    · simp [role]
    · simp [range]
  obtain ⟨act, taken⟩ := exec_answer h
  rw [taken]
  simp only [State.takeAnswer, turn, scored, invalid, Bool.false_eq_true, if_true, if_false]

/-- R76: outside every turn an answer is discarded. -/
theorem exec_answer_of_none (none : s.currentTurn = none) (h : answersWith a c) : exec c s = .next s := by
  obtain ⟨act, taken⟩ := exec_answer h
  rw [taken]
  simp only [State.takeAnswer, none]

end Turn

theorem currentTurn_of_phase {s : State} {w : Sweep} {k : Nat} (sweep : s.bus.sweep = some w) (phase : w.phase = .turn k) :
    s.currentTurn = w.roll[k]? := by
  simp only [State.currentTurn, sweep, phase]

/-- R78: after a turn comes the next of the roll, or the turns are over. -/
theorem endTurn_of_phase {s : State} {w : Sweep} {k : Nat} (sweep : s.bus.sweep = some w) (phase : w.phase = .turn k) :
    s.endTurn = { s with bus := { s.bus with sweep := some { w with
      phase := if k + 1 < w.roll.length then .turn (k + 1) else .turnsOver } } } := by
  simp only [State.endTurn, sweep, Option.map_some, Sweep.endTurn, phase]

/-- The ways of R76 and R77 in which an answer can be garbled, kind by kind. -/
theorem answerGarbled_of {s : State} {x : SlotId} {a : AnswerHead} {c : Instr}
    (h : ((s.slot x).address ≠ some a.address ∨ a.echo ≠ s.bus.number) ∨
      (x.role ≠ .entry ∧ (c = .presented a ∨ c = .parcelDone a)) ∨ (x.role ≠ .laneEnd ∧ c = .atEnd a) ∨
      (∃ codes, c = .tagReading a codes ∧
        (x.role ≠ .tag ∨ 4 < codes.length ∨ ∃ e ∈ codes, ∃ code, e.2 = .beyond code)) ∨
      (∃ grams, c = .weight a grams ∧ (x.role ≠ .scale ∨ 30000 < grams)) ∨
      ∃ pieces : List PieceScores, c = .vision a pieces ∧ (x.role ≠ .vision ∨ pieces = [] ∨ 8 < pieces.length ∨
        ∃ p ∈ pieces, 100 < p.stain ∨ 100 < p.tear ∨ 100 < p.wear ∨ 100 < p.crease ∨ 1 < p.swingTag ∨
          100 < p.colour)) : s.answerGarbled x a c := by
  rcases h with head | ⟨role, rfl | rfl⟩ | ⟨role, rfl⟩ | ⟨codes, rfl, data⟩ | ⟨grams, rfl, data⟩ | ⟨pieces, rfl, data⟩
  · exact .inl head
  · exact .inr (.inl (decide_eq_false role))
  · exact .inr (.inl (decide_eq_false role))
  · exact .inr (.inl (decide_eq_false role))
  · refine .inr (data.imp (fun role => decide_eq_false role) fun data => Bool.eq_false_iff.2 fun range => ?_)
    obtain ⟨most, known⟩ := (codesInRange_iff codes).1 range
    rcases data with many | ⟨e, he, code, beyond⟩
    · omega
    · obtain ⟨r, hr⟩ := known e he
      rw [beyond] at hr
      cases hr
  · exact .inr (data.imp (fun role => decide_eq_false role) fun heavy => decide_eq_false (Nat.not_le.2 heavy))
  · refine .inr (data.imp (fun role => decide_eq_false role) fun data => Bool.eq_false_iff.2 fun range => ?_)
    obtain ⟨one, most, scores⟩ := (piecesInRange_iff pieces).1 range
    rcases data with rfl | many | ⟨p, hp, high⟩
    · simp at one
    · omega
    · have low := scores p hp
      omega

/-- Settles O28: every end of a turn is `State.endTurn` and the outcome's note; outside a turn there is neither. -/
theorem turnsOfASweep : Obligations.TurnsOfASweep := by
  refine ⟨fun s w sweep => ⟨fun phase roll => ?_, fun k x phase hx u hu => ?_⟩, fun s => ⟨rfl, fun none a => ?_⟩⟩
  · have begins : w.frameSent = { w with phase := .turn 0 } := by
      simp only [Sweep.frameSent, phase, List.isEmpty_iff, if_neg roll]
    refine congrArg (fun v => Host.Outcome.next { s with bus := { s.bus with sweep := v } }) ?_
    rw [sweep, ← begins]
    rfl
  · have turn : s.currentTurn = some x := (currentTurn_of_phase sweep phase).trans hx
    obtain rfl : s.endTurn = u := (endTurn_of_phase sweep phase).trans hu.symm
    refine ⟨congrArg Host.Outcome.next (turnPassed_of_turn turn false), fun scored => ⟨?_, ?_, fun a valid => ?_,
      fun a c h garbled => exec_answer_of_garbled turn scored h (answerGarbled_of garbled)⟩, fun retired => ⟨?_, ?_,
      fun a c h => exec_answer_of_retired turn retired h⟩⟩
    · exact congrArg Host.Outcome.next ((turnPassed_of_turn turn true).trans (if_pos scored))
    · exact congrArg Host.Outcome.next ((takeGarbled_of_turn turn).trans (if_pos scored))
    · exact congrArg Host.Outcome.next (takeAnswer_heard valid rfl fun _ s => s)
    · exact congrArg Host.Outcome.next ((turnPassed_of_turn turn true).trans (if_neg (by simp [retired])))
    · exact congrArg Host.Outcome.next ((takeGarbled_of_turn turn).trans (if_neg (by simp [retired])))
  · have discarded : ∀ c, answersWith a c → exec c s = .next s := fun c h => exec_answer_of_none none h
    refine ⟨discarded _ rfl, discarded _ rfl, discarded _ rfl, discarded _ rfl, fun _ => discarded _ rfl,
      fun _ => discarded _ rfl, fun _ => discarded _ rfl, congrArg Host.Outcome.next ?_⟩
    simp only [State.takeGarbled, none]

end Sys2Proof.Machine
end

section
/-! The delivery of measurements (R84 to R88). -/

namespace Sys2Proof.Machine

/-! ### What a measurement writes (R85, R86) -/

theorem measuredBy_tagReading (it : Item) (a : AnswerHead) (codes : List (TagCode × Coded CheckResult)) :
    it.measuredBy (.tagReading a codes) = { it with tagState := tagStateOf codes, tagStatus := .taken } := by
  match codes with
  | [] => rfl
  | [(_, .known .good)] => rfl
  | [(_, .known .bad)] => rfl
  | [(_, .beyond _)] => rfl
  | (_, .known .good) :: _ :: _ => rfl
  | (_, .known .bad) :: _ :: _ => rfl
  | (_, .beyond _) :: _ :: _ => rfl

theorem tagStateOf_of_several {codes : List (TagCode × Coded CheckResult)} (h : 2 ≤ codes.length) :
    tagStateOf codes = .conflict := by
  match codes, h with
  | (_, .known .good) :: _ :: _, _ => rfl
  | (_, .known .bad) :: _ :: _, _ => rfl
  | (_, .beyond _) :: _ :: _, _ => rfl

/-- A measurement leaves the item's grade, lane and state. -/
theorem measuredBy_keeps (it : Item) (c : Instr) : (it.measuredBy c).grade = it.grade ∧ (it.measuredBy c).lane = it.lane ∧
    (it.measuredBy c).state = it.state := by
  unfold Item.measuredBy
  split <;> exact ⟨rfl, rfl, rfl⟩

theorem measured_eq_false {it : Item}
    (h : it.tagStatus = .awaited ∨ it.scaleStatus = .awaited ∨ it.visionStatus = .awaited) : it.measured = false := by
  rw [Bool.eq_false_iff, Ne, measured_iff]
  rintro ⟨tag, scale, vision⟩
  exact h.elim tag fun h => h.elim scale vision

theorem measuredBy_decided (it : Item) (c : Instr) : (it.measuredBy c).decided = it.decided :=
  congrArg Option.isSome (measuredBy_keeps it c).1

/-! ### A valid measurement (R76, R84, R87, R88) -/

/-- R85, R86: a measurement writes its value and TAKEN. A valid one is delivered so, in the state that has heard it. -/
theorem exec_measurement {s : State} {a : AnswerHead} {x : SlotId} {c : Instr} {kind : ReportKind}
    (turn : s.turnFor x a = true) (h : reportsMeasurement a x.role kind c) :
    ∃ write : Item → Item, exec c s = .next ((s.heard x).deliver x a.ticket kind write) ∧
      ∀ it, (write it).withStatus x.role .taken = it.measuredBy c := by
  cases c with
  | tagReading b codes =>
    obtain ⟨rfl, role, rfl, range⟩ := h
    have range := (codesInRange_iff codes).2 range
    refine ⟨fun it => { it with tagState := tagStateOf codes }, ?_, fun it => ?_⟩
    · show Host.Outcome.next (s.takeAnswer b _ (codesInRange codes) _) = _
      rw [range]
      exact congrArg Host.Outcome.next (takeAnswer_heard turn (decide_eq_true role) _)
    · rw [role, measuredBy_tagReading]
      rfl
  | weight b grams =>
    obtain ⟨rfl, role, rfl, range⟩ := h
    refine ⟨fun it => { it with weight := some grams }, ?_, fun it => by rw [role]; rfl⟩
    show Host.Outcome.next (s.takeAnswer b _ (decide (grams ≤ 30000)) _) = _
    rw [decide_eq_true range]
    exact congrArg Host.Outcome.next (takeAnswer_heard turn (decide_eq_true role) _)
  | vision b pieces =>
    obtain ⟨rfl, role, rfl, range⟩ := h
    have range := (piecesInRange_iff pieces).2 range
    refine ⟨fun it => { it with pieces := pieces }, ?_, fun it => by rw [role]; rfl⟩
    show Host.Outcome.next (s.takeAnswer b _ (piecesInRange pieces) _) = _
    rw [range]
    exact congrArg Host.Outcome.next (takeAnswer_heard turn (decide_eq_true role) _)
  | _ => cases h

/-- R84: the record that carries a ticket stands in the table under its number. -/
theorem item_of_itemByTicket {s : State} {l : LaneId} {ticket n : Nat} {it : Item} (wf : s.items.records.wf = true)
    (h : s.itemByTicket l ticket = some (n, it)) : s.item n = some it :=
  lookup_of_mem _ _ _ wf (List.mem_of_find?_eq_some h)

section Deliver

variable {s : State} {a : AnswerHead} {x : SlotId} {c : Instr} {kind : ReportKind} {n : Nat} {it : Item}

/-- R84: a measurement for an undecided item that awaits it is written, and the item is tested. -/
theorem exec_measurement_awaited (turn : s.turnFor x a = true) (h : reportsMeasurement a x.role kind c)
    (found : s.itemByTicket x.lane a.ticket = some (n, it)) (undecided : it.decided = false)
    (awaited : it.status x.role = .awaited) :
    exec c s = .next (((s.heard x).modItem n fun y => y.measuredBy c).testItem n) := by
  obtain ⟨write, taken, written⟩ := exec_measurement turn h
  have found : (s.heard x).itemByTicket x.lane a.ticket = some (n, it) := found
  rw [taken, ← funext written]
  simp only [State.deliver, found, undecided, awaited, Bool.false_eq_true, if_false]

/-- R84: while another role is awaited, the measurement is written and nothing else is done. -/
theorem exec_measurement_waiting (turn : s.turnFor x a = true) (wf : s.items.records.wf = true)
    (found : s.itemByTicket x.lane a.ticket = some (n, it)) (undecided : it.decided = false)
    (awaited : it.status x.role = .awaited) (c : Instr) (kind : ReportKind) (h : reportsMeasurement a x.role kind c)
    (waiting : (it.measuredBy c).measured = false) :
    exec c s = .next ((s.heard x).modItem n fun y => y.measuredBy c) := by
  rw [exec_measurement_awaited turn h found undecided awaited]
  refine congrArg Host.Outcome.next (testItem_leaves (it := it.measuredBy c) ?_ (.inr (.inl waiting)))
  rw [item_modItem, if_pos rfl]
  exact congrArg (Option.map _) (item_of_itemByTicket wf found)

end Deliver

/-- Settles O30: the branches of a delivery that finds no item awaiting it. -/
theorem lateMeasurementsAndOrphans : Obligations.LateMeasurementsAndOrphans := by
  intro s a x turn c kind h
  obtain ⟨write, taken, _⟩ := exec_measurement turn h
  rw [taken]
  refine ⟨fun orphan => ?_, fun n it found => ⟨fun decided => ?_, fun undecided missing => ?_, fun undecided already => ?_⟩⟩
  · have orphan : (s.heard x).itemByTicket x.lane a.ticket = none := orphan
    simp only [State.deliver, orphan]
  all_goals have found : (s.heard x).itemByTicket x.lane a.ticket = some (n, it) := found
  · simp only [State.deliver, found, decided, if_true]
  · simp only [State.deliver, found, undecided, missing, Bool.false_eq_true, if_false]
  · simp only [State.deliver, found, undecided, already, Bool.false_eq_true, if_false]


section Measured

variable {s : State} {n : Nat} {it w : Item} (x : SlotId)

theorem heard_written_item (live : s.item n = some it) (m : Nat) :
    ((s.heard x).modItem n fun _ => w).item m = if n = m then some w else s.item m := by
  refine (item_modItem (s.heard x) n m _).trans ?_
  split
  · next e => exact congrArg (Option.map fun _ => w) (e ▸ live)
  · rfl

theorem heard_written_raSettled : ((s.heard x).modItem n fun _ => w).raSettled w = s.raSettled w :=
  raSettled_congr rfl fun _ => rfl

/-- R113 to R115: what the decision that follows a measurement writes, and what it leaves. -/
theorem heard_written_decides (live : s.item n = some it) (undecided : w.decided = false) :
    ∃ t d, t = State.decideItem ((s.heard x).modItem n fun _ => w) n ∧
      d = State.decisionOf ((s.heard x).modItem n fun _ => w) w ∧ t.item n = some d ∧ d.result = some (s.searchFor w).1 ∧
      (∀ m, m ≠ n → t.item m = s.item m) ∧ s.eventsGrow t := by
  have written : ((s.heard x).modItem n fun _ => w).item n = some w := by rw [heard_written_item x live, if_pos rfl]
  have item := decideItem_item written undecided
  refine ⟨_, _, rfl, rfl, by rw [item, if_pos rfl], ?_, fun m hm => ?_, ?_⟩
  · show some (matchReturn _).result = _
    rw [matchReturn_result]
    exact congrArg (fun found : MatchResult × Option Found => some found.1) (searchFor_congr rfl rfl rfl rfl)
  · rw [item, if_neg (Ne.symm hm), heard_written_item x live, if_neg (Ne.symm hm)]
  · exact (eventsGrow_of_queue_eq (s := s) rfl).trans (eventsGrow_decideItem written undecided)

end Measured

/-- Settles O29: the measurement is written by `exec_measurement_awaited`, and its item's test decides it or not. -/
theorem measurementsAreDelivered : Obligations.MeasurementsAreDelivered := by
  refine ⟨fun s a x n it turn wf found undecided awaited => ?_,
    fun s a x n it w c kind turn wf found undecided awaited h hw tag scale vision => ?_⟩
  all_goals have live := item_of_itemByTicket wf found
  · have waits := exec_measurement_waiting turn wf found undecided awaited
    refine ⟨fun role other => ?_, fun role other grams range => ?_, fun role other pieces one most scores => ?_⟩
    · have tag : ∀ codes : List (TagCode × Coded CheckResult), codes.length ≤ 4 → (∀ e ∈ codes, ∃ r, e.2 = .known r) →
          exec (.tagReading a codes) s = .next ((s.heard x).modItem n fun y =>
            { y with tagState := tagStateOf codes, tagStatus := .taken }) := fun codes most known => by
        rw [waits (.tagReading a codes) .tagReading ⟨rfl, role, rfl, most, known⟩]
        · simp only [measuredBy_tagReading]
        · rw [measuredBy_tagReading]
          exact measured_eq_false (.inr other)
      refine ⟨tag [] (by simp) (by simp), fun code => tag _ (by simp) (by simp), fun code => tag _ (by simp) (by simp),
        fun codes several most known => ?_⟩
      rw [tag codes most known, tagStateOf_of_several several]
    · exact waits (.weight a grams) .weight ⟨rfl, role, rfl, range⟩
        (measured_eq_false (other.imp_right .inr))
    · exact waits (.vision a pieces) .vision ⟨rfl, role, rfl, one, most, scores⟩
        (measured_eq_false (other.imp_right .inl))
  · subst hw
    have written : ((s.heard x).modItem n fun _ => it.measuredBy c).item n = some (it.measuredBy c) := by
      rw [heard_written_item x live, if_pos rfl]
    have taken : exec c s = .next (((s.heard x).modItem n fun _ => it.measuredBy c).testItem n) := by
      rw [exec_measurement_awaited turn h found undecided awaited]
      exact congrArg (fun u : State => Host.Outcome.next (u.testItem n)) (modItem_congr (s.heard x) n it _ _ wf live rfl)
    have undecided' := (measuredBy_decided it c).trans undecided
    obtain ⟨_, _, state⟩ := measuredBy_keeps it c
    refine ⟨fun settled => ?_, fun unsettled => ?_⟩
    · have decides := testItem_decides written undecided' ((measured_iff _).2 ⟨tag, scale, vision⟩)
        ((heard_written_raSettled x).trans settled)
      obtain ⟨t, d, ht, hd, item, result, others, events⟩ := heard_written_decides x live undecided'
      refine ⟨t, d, taken.trans (congrArg _ (decides.trans ht.symm)), ht, item, ?_⟩
      subst hd
      exact ⟨rfl, rfl, rfl, rfl, rfl, rfl, rfl, result, rfl, fun h => congrArg decidedState (state.trans h),
        fun h => congrArg decidedState (state.trans h), others, events⟩
    · exact taken.trans (congrArg _ (testItem_leaves written (.inr (.inr ((heard_written_raSettled x).trans unsettled)))))

end Sys2Proof.Machine
end

section
/-! What a decision leaves of the blocks it is not about, and a role that goes MISSING on an item (R82, R115). -/

namespace Sys2Proof.Machine

/-! ### What the tests of items leave -/

/-- `t` comes of `s` by acts of the Station Bus and by decisions of items: what these leave of the other blocks. -/
structure State.DecisionFrame (s t : State) : Prop where
  port   : t.port = s.port
  plan   : t.plan = s.plan
  sorter : t.sorter = s.sorter
  totes  : t.totes = s.totes
  line   : t.line = { s.line with mode := t.line.mode }
  queues : ∀ l, (t.lanes.at l).queue = (s.lanes.at l).queue
  events : s.eventsGrow t

namespace State.DecisionFrame

variable {s t u : State}

theorem refl (s : State) : s.DecisionFrame s := ⟨rfl, rfl, rfl, rfl, rfl, fun _ => rfl, eventsGrow_refl s⟩

theorem trans (h : s.DecisionFrame t) (h' : t.DecisionFrame u) : s.DecisionFrame u :=
  ⟨h'.port.trans h.port, h'.plan.trans h.plan, h'.sorter.trans h.sorter, h'.totes.trans h.totes,
    by rw [h'.line, h.line], fun l => (h'.queues l).trans (h.queues l), h.events.trans h'.events⟩

theorem foldl {α : Type} {f : State → α → State} (h : ∀ (s : State) a, s.DecisionFrame (f s a)) (l : List α) (s : State) :
    s.DecisionFrame (l.foldl f s) := by
  induction l generalizing s with
  | nil => exact refl s
  | cons a rest ih => exact (h s a).trans (ih _)

theorem offer (s : State) (item : Nat) (body : EventBody) : s.DecisionFrame (s.offer item body) :=
  ⟨by simp, by simp, by simp, by simp, by simp, fun l => by simp, eventsGrow_offer s item body⟩

theorem modItem (s : State) (n : Nat) (f : Item → Item) : s.DecisionFrame (s.modItem n f) :=
  ⟨rfl, rfl, rfl, rfl, rfl, fun _ => rfl, eventsGrow_of_queue_eq rfl⟩

theorem bus (s : State) (b : StationBus) : s.DecisionFrame { s with bus := b } :=
  ⟨rfl, rfl, rfl, rfl, rfl, fun _ => rfl, eventsGrow_of_queue_eq rfl⟩

theorem threshold (h : s.DecisionFrame t) : t.line.downThreshold = s.line.downThreshold := by rw [h.line]

end State.DecisionFrame

/-- A settlement may end the stop of the line, which changes its mode alone (R64, R177). -/
theorem settlementTest_line (s : State) (l : LaneId) :
    (s.settlementTest l).line = { s.line with mode := (s.settlementTest l).line.mode } := by
  unfold State.settlementTest
  split
  · obtain ⟨_, _, _, _, _, _, _, _, _, _, stop⟩ := settle_settles s l (s.lanes.at l).endCause 0
    exact line_of_stopEnds stop
  · rfl

theorem decideItem_frame (s : State) (n : Nat) : s.DecisionFrame (s.decideItem n) := by
  cases live : s.item n with
  | none => rw [decideItem_of_none live]; exact .refl s
  | some it =>
    cases h : it.decided with
    | true => rw [decideItem_of_decided live h]; exact .refl s
    | false =>
      refine ⟨decideItem_port s n, decideItem_plan s n, decideItem_sorter s n, decideItem_totes s n, ?_,
        decideItem_queue live h, eventsGrow_decideItem live h⟩
      have made : (s.decisionMade n it).line = s.line :=
        (decisionMade_keeps s n it (fun x => x.line) offer_line).trans (countFound_line s it _)
      have line := settlementTest_line (s.decisionMade n it) it.lane
      rw [made] at line
      rw [decideItem_eq live h]
      exact line

theorem testItem_frame (s : State) (n : Nat) : s.DecisionFrame (s.testItem n) := by
  rcases testItem_cases s n with same | decides
  · rw [same]; exact .refl s
  · rw [decides]; exact decideItem_frame s n

/-! ### One item (R82) -/

/-- R113: while a role is awaited the measurements are not settled. -/
theorem status_of_measured {it : Item} (h : it.measured = true) (r : Role) : it.status r ≠ .awaited := by
  obtain ⟨tag, scale, vision⟩ := (measured_iff it).1 h
  cases r with
  | entry | laneEnd => nofun
  | tag => exact tag
  | scale => exact scale
  | vision => exact vision

/-- R82: the record with a measurement role MISSING. -/
def Item.lost (it : Item) (r : Role) : Item := it.withStatus r .missing

section Lost

variable (it : Item) (r : Role)

theorem lost_decided : (it.lost r).decided = it.decided := by cases r <;> rfl

theorem lost_status (h : it.status r = .awaited) : (it.lost r).status r = .missing := by
  cases r with
  | entry | laneEnd => cases h
  | tag | scale | vision => rfl

theorem lost_other_status {q : Role} (h : q ≠ r) : (it.lost q).status r = it.status r := by
  cases q with
  | entry | laneEnd => rfl
  | tag => cases r with
    | tag => exact absurd rfl h
    | _ => rfl
  | scale => cases r with
    | scale => exact absurd rfl h
    | _ => rfl
  | vision => cases r with
    | vision => exact absurd rfl h
    | _ => rfl

theorem lost_raSettled (s : State) (n : Nat) (f : Item → Item) :
    (s.modItem n f).raSettled (it.lost r) = s.raSettled it := by cases r <;> rfl

end Lost

section LoseRole

variable {s : State} {r : Role} {n : Nat} {it : Item}

theorem loseRole_of_none (h : s.item n = none) : s.loseRole r n = s := by
  simp only [State.loseRole, h]

theorem loseRole_of_other (live : s.item n = some it) (h : it.decided = true ∨ it.status r ≠ .awaited) :
    s.loseRole r n = s := by
  rcases h with h | h <;> simp [State.loseRole, live, h]

theorem loseRole_of_awaited (live : s.item n = some it) (undecided : it.decided = false) (awaited : it.status r = .awaited) :
    s.loseRole r n = (s.modItem n fun y => y.lost r).testItem n := by
  simp only [State.loseRole, live, undecided, awaited, Bool.not_false, decide_true, Bool.and_self, if_true]
  rfl

theorem modItem_lost_item (live : s.item n = some it) : (s.modItem n fun y => y.lost r).item n = some (it.lost r) := by
  rw [item_modItem, if_pos rfl, live]
  rfl

/-- R115: the loss of the last measurement awaited decides the item, when its RA question is settled. -/
theorem loseRole_decides (live : s.item n = some it) (undecided : it.decided = false) (awaited : it.status r = .awaited)
    (measured : (it.lost r).measured = true) (settled : s.raSettled it = true) :
    s.loseRole r n = (s.modItem n fun y => y.lost r).decideItem n := by
  rw [loseRole_of_awaited live undecided awaited]
  exact testItem_decides (modItem_lost_item live) ((lost_decided it r).trans undecided) measured
    ((lost_raSettled it r s n _).trans settled)

theorem loseRole_leaves (live : s.item n = some it) (undecided : it.decided = false) (awaited : it.status r = .awaited)
    (h : (it.lost r).measured = false ∨ s.raSettled it = false) : s.loseRole r n = s.modItem n fun y => y.lost r := by
  rw [loseRole_of_awaited live undecided awaited]
  exact testItem_leaves (modItem_lost_item live) (.inr (h.imp_right (lost_raSettled it r s n _).trans))

/-- The loss of a role leaves everything, or is that of an undecided item that awaits the role. -/
theorem loseRole_cases (s : State) (r : Role) (n : Nat) : s.loseRole r n = s ∨
    s.loseRole r n = (s.modItem n fun y => y.lost r).testItem n ∧
      ∃ it, s.item n = some it ∧ it.decided = false ∧ it.status r = .awaited := by
  cases live : s.item n with
  | none => exact .inl (loseRole_of_none live)
  | some it =>
    by_cases h : it.decided = true ∨ it.status r ≠ .awaited
    · exact .inl (loseRole_of_other live h)
    · obtain ⟨undecided, awaited⟩ : it.decided = false ∧ it.status r = .awaited := by simpa using h
      exact .inr ⟨loseRole_of_awaited live undecided awaited, it, rfl, undecided, awaited⟩

/-- R82, R115: the loss is written into the item, whether the item is then decided or not, and into no other. -/
theorem loseRole_item (live : s.item n = some it) (undecided : it.decided = false) (awaited : it.status r = .awaited) :
    ∃ d, (∀ m, (s.loseRole r n).item m = if n = m then some d else s.item m) ∧
      (∀ q, d.status q = (it.lost r).status q) ∧ (d.decided = false ∨ (it.lost r).measured = true) := by
  have lost := modItem_lost_item (r := r) live
  have undecided' := (lost_decided it r).trans undecided
  have others : ∀ m, n ≠ m → (s.modItem n fun y => y.lost r).item m = s.item m := fun m hm => by
    rw [item_modItem, if_neg hm]
  by_cases decides : (it.lost r).measured = true ∧ s.raSettled it = true
  · obtain ⟨measured, settled⟩ := decides
    refine ⟨(s.modItem n fun y => y.lost r).decisionOf (it.lost r), fun m => ?_, fun q => ?_, .inr measured⟩
    · rw [loseRole_decides live undecided awaited measured settled, decideItem_item lost undecided']
      exact if_ctx_congr Iff.rfl (fun _ => rfl) (others m)
    · cases q <;> rfl
  · rw [not_and_or, Bool.not_eq_true, Bool.not_eq_true] at decides
    refine ⟨it.lost r, fun m => ?_, fun _ => rfl, .inl undecided'⟩
    rw [loseRole_leaves live undecided awaited decides]
    split
    · next e => exact e ▸ lost
    · next hm => exact others m hm

end LoseRole

theorem loseRole_frame (s : State) (r : Role) (n : Nat) : s.DecisionFrame (s.loseRole r n) := by
  rcases loseRole_cases s r n with same | ⟨tested, _⟩
  · rw [same]; exact .refl s
  · rw [tested]; exact (State.DecisionFrame.modItem s n _).trans (testItem_frame _ n)

@[simp] theorem loseRole_bus (s : State) (r : Role) (n : Nat) : (s.loseRole r n).bus = s.bus := by
  rcases loseRole_cases s r n with same | ⟨tested, _⟩
  · rw [same]
  · rw [tested, testItem_bus]; rfl

/-! ### An item that awaits a role until it loses it -/

/-- The item has the role MISSING. -/
def State.misses (s : State) (r : Role) (n : Nat) : Prop := ∃ it, s.item n = some it ∧ it.status r = .missing

/-- The item is undecided and awaits the role, or has it MISSING already. -/
def State.canMiss (s : State) (r : Role) (n : Nat) : Prop :=
  (∃ it, s.item n = some it ∧ it.decided = false ∧ it.status r = .awaited) ∨ s.misses r n

section CanMiss

variable {s : State} {r : Role} {n : Nat}

theorem loseRole_keeps_misses (h : s.misses r n) (q : Role) (m : Nat) : (s.loseRole q m).misses r n := by
  obtain ⟨it, live, missing⟩ := h
  rcases loseRole_cases s q m with same | ⟨_, y, hy, undecided, awaited⟩
  · rw [same]; exact ⟨it, live, missing⟩
  · obtain ⟨d, item, status, _⟩ := loseRole_item hy undecided awaited
    by_cases hm : m = n
    · subst hm
      obtain rfl : it = y := Option.some.inj (live.symm.trans hy)
      have apart : q ≠ r := fun e => by rw [e, missing] at awaited; cases awaited
      exact ⟨d, (item m).trans (if_pos rfl), (status r).trans ((lost_other_status it r apart).trans missing)⟩
    · exact ⟨it, (item n).trans ((if_neg hm).trans live), missing⟩

theorem loseRole_misses (h : s.canMiss r n) : (s.loseRole r n).misses r n := by
  refine h.elim ?_ fun missing => loseRole_keeps_misses missing r n
  rintro ⟨it, live, undecided, awaited⟩
  obtain ⟨d, item, status, _⟩ := loseRole_item live undecided awaited
  exact ⟨d, (item n).trans (if_pos rfl), (status r).trans (lost_status it r awaited)⟩

/-- An item that awaits a role is not decided by the loss of another (R113). -/
theorem loseRole_keeps_canMiss (h : s.canMiss r n) (q : Role) (m : Nat) : (s.loseRole q m).canMiss r n := by
  by_cases same : q = r ∧ m = n
  · obtain ⟨rfl, rfl⟩ := same
    exact .inr (loseRole_misses h)
  refine h.elim ?_ fun missing => .inr (loseRole_keeps_misses missing q m)
  rintro ⟨it, live, undecided, awaited⟩
  rcases loseRole_cases s q m with left | ⟨_, y, hy, undecided', awaited'⟩
  · rw [left]; exact h
  · obtain ⟨d, item, status, decided⟩ := loseRole_item hy undecided' awaited'
    by_cases hm : m = n
    · subst hm
      obtain rfl : it = y := Option.some.inj (live.symm.trans hy)
      have still := (lost_other_status it r fun hq => same ⟨hq, rfl⟩).trans awaited
      exact .inl ⟨d, (item m).trans (if_pos rfl), decided.resolve_right fun measured => status_of_measured measured r still,
        (status r).trans still⟩
    · exact .inl ⟨it, (item n).trans ((if_neg hm).trans live), undecided, awaited⟩

end CanMiss

/-- A fold that meets a step from `P` to `Q` ends in `Q`, when every step keeps both. -/
theorem foldl_reaches {α : Type} {P Q : State → Prop} {f : State → α → State} (keepsP : ∀ s a, P s → P (f s a))
    (keepsQ : ∀ s a, Q s → Q (f s a)) {l : List α} {a : α} (ha : a ∈ l) (reaches : ∀ s, P s → Q (f s a)) {s : State}
    (h : P s) : Q (l.foldl f s) := by
  obtain ⟨before, after, rfl⟩ := List.mem_iff_append.1 ha
  rw [List.foldl_append]
  have start : P (before.foldl f s) := List.foldlRecOn before f h fun u hu b _ => keepsP u b hu
  exact List.foldlRecOn after f (reaches _ start) fun u hu b _ => keepsQ u b hu

end Sys2Proof.Machine
end

section
/-! The close of a sweep: the scoring of each slot of its roll (R79 to R82). -/

namespace Sys2Proof.Machine

/-! ### One slot (R79 to R82) -/

/-- R79: a slot with the score of its outcome, which is discarded, in a given state. -/
def Slot.scoredIn (slot : Slot) (o : SweepOutcome) (state : SlotState) : Slot :=
  { slot with state := state, score := slot.newScore o, maxScore := max slot.maxScore (slot.newScore o), outcome := none }

/-- R80, R81: the state of a slot after the score of its outcome. -/
def Slot.stateAfter (slot : Slot) (threshold : Nat) (o : SweepOutcome) : SlotState :=
  if slot.state = .up ∧ threshold ≤ slot.newScore o then .down
  else if slot.state = .down ∧ slot.newScore o = 0 then .up else slot.state

theorem scored_eq (slot : Slot) (o : SweepOutcome) : slot.scored o = slot.scoredIn o slot.state := by
  cases o <;> rfl

section Score

variable {s : State} {x : SlotId} {o : SweepOutcome}

theorem scoreSlot_of_none (h : (s.slot x).outcome = none) : s.scoreSlot x = s := by
  simp only [State.scoreSlot, h]

/-- R80: an UP slot whose score has reached the down threshold goes DOWN, and its lane loses its role. -/
theorem scoreSlot_goesDown (h : (s.slot x).outcome = some o)
    (down : (s.slot x).state = .up ∧ s.line.downThreshold ≤ (s.slot x).newScore o) : s.scoreSlot x =
    ((s.modSlot x fun _ => (s.slot x).scoredIn o .down).offer 0
      (.stationDown x ((s.slot x).address.getD 0) ((s.slot x).newScore o) s.bus.number)).roleDown x := by
  simp only [State.scoreSlot, h, scored_eq, modSlot_modSlot, modSlot_line]
  exact if_pos down

/-- R81: a DOWN slot whose score has come to 0 comes UP. -/
theorem scoreSlot_comesUp (h : (s.slot x).outcome = some o)
    (up : (s.slot x).state = .down ∧ (s.slot x).newScore o = 0) : s.scoreSlot x =
    (s.modSlot x fun _ => (s.slot x).scoredIn o .up).offer 0
      (.stationUp x ((s.slot x).address.getD 0) (max (s.slot x).maxScore ((s.slot x).newScore o)) s.bus.number) := by
  have notUp : ¬ ((s.slot x).state = .up ∧ s.line.downThreshold ≤ (s.slot x).newScore o) := by simp [up.1]
  simp only [State.scoreSlot, h, scored_eq, modSlot_modSlot, modSlot_line]
  exact (if_neg notUp).trans (if_pos up)

theorem scoreSlot_stays (h : (s.slot x).outcome = some o)
    (notDown : ¬ ((s.slot x).state = .up ∧ s.line.downThreshold ≤ (s.slot x).newScore o))
    (notUp : ¬ ((s.slot x).state = .down ∧ (s.slot x).newScore o = 0)) :
    s.scoreSlot x = s.modSlot x fun _ => (s.slot x).scoredIn o (s.slot x).state := by
  simp only [State.scoreSlot, h, scored_eq, modSlot_modSlot, modSlot_line]
  exact (if_neg notDown).trans (if_neg notUp)

theorem roleDown_of_measurement (h : x.role = .tag ∨ x.role = .scale ∨ x.role = .vision) :
    s.roleDown x = (s.lanes.at x.lane).queue.foldl (fun u n => u.loseRole x.role n) s := by
  unfold State.roleDown
  rcases h with h | h | h <;> rw [h] <;> rfl

/-- R82: a slot without a measurement takes nothing from its lane's items. -/
theorem roleDown_of_other (h : x.role = .entry ∨ x.role = .laneEnd) : s.roleDown x = s := by
  unfold State.roleDown
  rcases h with h | h <;> rw [h] <;> rfl

theorem roleDown_frame (s : State) (x : SlotId) : s.DecisionFrame (s.roleDown x) := by
  unfold State.roleDown
  split
  · exact .foldl (fun u n => loseRole_frame u x.role n) _ s
  · exact .refl s

@[simp] theorem roleDown_bus (s : State) (x : SlotId) : (s.roleDown x).bus = s.bus := by
  unfold State.roleDown
  split
  · exact foldl_keeps (fun u => u.bus) _ (fun u n => loseRole_bus u x.role n) _ s
  · rfl

/-- What the scoring of a slot is made of: the change of the slot, an event, and the loss of its role. -/
theorem scoreSlot_reaches {P : State → Prop} (h : (s.slot x).outcome = some o)
    (scored : P (s.modSlot x fun _ => (s.slot x).scoredIn o ((s.slot x).stateAfter s.line.downThreshold o)))
    (offered : ∀ u item body, P u → P (State.offer u item body)) (lost : ∀ u, P u → P (State.roleDown u x)) :
    P (s.scoreSlot x) := by
  unfold Slot.stateAfter at scored
  by_cases down : (s.slot x).state = .up ∧ s.line.downThreshold ≤ (s.slot x).newScore o
  · rw [if_pos down] at scored
    rw [scoreSlot_goesDown h down]
    exact lost _ (offered _ _ _ scored)
  · rw [if_neg down] at scored
    by_cases up : (s.slot x).state = .down ∧ (s.slot x).newScore o = 0
    · rw [if_pos up] at scored
      rw [scoreSlot_comesUp h up]
      exact offered _ _ _ scored
    · rw [if_neg up] at scored
      rw [scoreSlot_stays h down up]
      exact scored

/-- The Station Bus after the scoring: the slot alone has changed. -/
theorem scoreSlot_bus (h : (s.slot x).outcome = some o) : (s.scoreSlot x).bus =
    (s.modSlot x fun _ => (s.slot x).scoredIn o ((s.slot x).stateAfter s.line.downThreshold o)).bus :=
  scoreSlot_reaches (P := fun u => u.bus = _) h rfl (fun u item body hu => (offer_bus u item body).trans hu)
    fun u hu => (roleDown_bus u x).trans hu

end Score

theorem scoreSlot_frame (s : State) (x : SlotId) : s.DecisionFrame (s.scoreSlot x) := by
  cases h : (s.slot x).outcome with
  | none => rw [scoreSlot_of_none h]; exact .refl s
  | some o =>
    exact scoreSlot_reaches (P := s.DecisionFrame) h (.bus s _) (fun u item body hu => hu.trans (.offer u item body))
      fun u hu => hu.trans (roleDown_frame u x)

/-- R79 to R81: what the close of a sweep makes of a slot. -/
def Slot.closed (slot : Slot) (threshold : Nat) : Slot :=
  match slot.outcome with
  | none => slot
  | some o => slot.scoredIn o (slot.stateAfter threshold o)

theorem closed_of_some {slot : Slot} {o : SweepOutcome} (h : slot.outcome = some o) (threshold : Nat) :
    slot.closed threshold = slot.scoredIn o (slot.stateAfter threshold o) := by
  simp only [Slot.closed, h]

theorem closed_of_none {slot : Slot} (h : slot.outcome = none) (threshold : Nat) : slot.closed threshold = slot := by
  simp only [Slot.closed, h]

theorem slot_of_bus_eq {s t : State} (h : t.bus = s.bus) (x : SlotId) : t.slot x = s.slot x := by
  unfold State.slot; rw [h]

theorem scoreSlot_slot (s : State) (x y : SlotId) :
    (s.scoreSlot x).slot y = if x = y then (s.slot y).closed s.line.downThreshold else s.slot y := by
  cases h : (s.slot x).outcome with
  | none =>
    rw [scoreSlot_of_none h]
    split
    · next e => rw [← e, closed_of_none h]
    · rfl
  | some o =>
    rw [slot_of_bus_eq (scoreSlot_bus h), slot_modSlot]
    split
    · next e => rw [← e, closed_of_some h]
    · rfl

/-! ### The roll (R79) -/

/-- Slots scored one after another, each once. -/
theorem foldl_scoreSlot_slot (xs : List SlotId) (nodup : xs.Nodup) (s : State) (y : SlotId) :
    (xs.foldl State.scoreSlot s).slot y = if y ∈ xs then (s.slot y).closed s.line.downThreshold else s.slot y := by
  induction xs generalizing s with
  | nil => simp
  | cons x rest ih =>
    obtain ⟨notLater, nodup⟩ := List.nodup_cons.1 nodup
    rw [List.foldl_cons, ih nodup, scoreSlot_slot, (scoreSlot_frame s x).threshold]
    by_cases hx : x = y
    · subst hx
      simp [notLater]
    · simp [hx, Ne.symm hx]

theorem closeSweep_of_open {s : State} {w : Sweep} (h : s.bus.sweep = some w) : s.closeSweep =
    { allSlots.foldl State.scoreSlot s with bus := { (allSlots.foldl State.scoreSlot s).bus with sweep := none } } := by
  simp only [State.closeSweep, h]

theorem closeSweep_slot {s : State} {w : Sweep} (h : s.bus.sweep = some w) (x : SlotId) :
    s.closeSweep.slot x = (s.slot x).closed s.line.downThreshold := by
  have scored := foldl_scoreSlot_slot allSlots (by decide) s x
  rw [if_pos (mem_allSlots x)] at scored
  rw [closeSweep_of_open h]
  exact scored

theorem closeSweep_frame (s : State) : s.DecisionFrame s.closeSweep := by
  unfold State.closeSweep
  split
  · exact .refl s
  · exact (State.DecisionFrame.foldl scoreSlot_frame _ s).trans (.bus _ _)

/-- The state after the sweep timer: the sweep closed, the next one begun, the timer started (R74). -/
theorem sweepExpiry_frame (s : State) : s.DecisionFrame s.sweepExpiry := by
  have begun : s.closeSweep.DecisionFrame s.closeSweep.beginSweep := by
    refine ⟨by simp, by simp, by simp, by simp, by simp, fun l => ?_, eventsGrow_of_queue_eq (beginSweep_queue _)⟩
    unfold State.beginSweep
    dsimp only
    split
    · rfl
    · rw [quad_at_map]
  exact (closeSweep_frame s).trans (begun.trans (.bus _ _))

/-- The slots after the sweep timer are those after the close, but for the outcomes of the sweep that begins. -/
theorem sweepExpiry_slot {s : State} {w : Sweep} (h : s.bus.sweep = some w) (x : SlotId) :
    ∃ outcome, s.sweepExpiry.slot x = { (s.slot x).closed s.line.downThreshold with outcome := outcome } := by
  obtain ⟨outcome, slot⟩ := beginSweep_slot s.closeSweep x
  rw [closeSweep_slot h] at slot
  exact ⟨outcome, slot⟩

theorem sweepExpiry_item {s : State} {w : Sweep} (h : s.bus.sweep = some w) (n : Nat) :
    s.sweepExpiry.item n = (allSlots.foldl State.scoreSlot s).item n := by
  refine (item_of_items_eq (beginSweep_items s.closeSweep) n).trans ?_
  rw [closeSweep_of_open h]
  rfl

/-! ### The items of a lane that loses a role (R82) -/

section Lost

variable {s : State} {x : SlotId} {r : Role} {n : Nat}

theorem misses_of_items_eq {t : State} (items : t.items = s.items) (h : s.misses r n) : t.misses r n := by
  obtain ⟨it, live, missing⟩ := h
  exact ⟨it, (item_of_items_eq items n).trans live, missing⟩

theorem canMiss_of_items_eq {t : State} (items : t.items = s.items) (h : s.canMiss r n) : t.canMiss r n := by
  refine h.imp ?_ (misses_of_items_eq items)
  rintro ⟨it, live, waiting⟩
  exact ⟨it, (item_of_items_eq items n).trans live, waiting⟩

/-- What the losses of roles keep, and what looks at the items alone, the scoring of a slot keeps. -/
theorem scoreSlot_keeps {P : State → Prop} (items : ∀ {u v : State}, v.items = u.items → P u → P v)
    (lost : ∀ u q m, P u → P (State.loseRole u q m)) (h : P s) (y : SlotId) : P (s.scoreSlot y) := by
  cases outcome : (s.slot y).outcome with
  | none => rw [scoreSlot_of_none outcome]; exact h
  | some o =>
    refine scoreSlot_reaches outcome (items (u := s) rfl h) (fun u item body => items (offer_items u item body)) fun u hu => ?_
    unfold State.roleDown
    split
    · exact List.foldlRecOn _ _ hu fun v hv m _ => lost v _ m hv
    · exact hu

theorem scoreSlot_keeps_misses (h : s.misses r n) (y : SlotId) : (s.scoreSlot y).misses r n :=
  scoreSlot_keeps misses_of_items_eq (fun _ q m hu => loseRole_keeps_misses hu q m) h y

theorem scoreSlot_keeps_canMiss (h : s.canMiss r n) (y : SlotId) : (s.scoreSlot y).canMiss r n :=
  scoreSlot_keeps canMiss_of_items_eq (fun _ q m hu => loseRole_keeps_canMiss hu q m) h y

/-- R82: a measurement slot that goes DOWN takes its role from every queued item that awaits it. -/
theorem scoreSlot_misses {o : SweepOutcome} (h : (s.slot x).outcome = some o)
    (role : x.role = .tag ∨ x.role = .scale ∨ x.role = .vision)
    (down : (s.slot x).state = .up ∧ s.line.downThreshold ≤ (s.slot x).newScore o)
    (queued : n ∈ (s.lanes.at x.lane).queue) (waits : s.canMiss x.role n) : (s.scoreSlot x).misses x.role n := by
  rw [scoreSlot_goesDown h down, roleDown_of_measurement role]
  refine foldl_reaches (P := (State.canMiss · x.role n)) (Q := (State.misses · x.role n))
    (fun _ m hu => loseRole_keeps_canMiss hu _ m) (fun _ m hu => loseRole_keeps_misses hu _ m) (a := n) ?_
    (fun _ hu => loseRole_misses hu) (canMiss_of_items_eq (s := s) (offer_items _ _ _) waits)
  rw [offer_lanes]
  exact queued

/-- The same in the close of the whole sweep, where other slots are scored before and after. -/
theorem foldl_scoreSlot_misses {o : SweepOutcome} (h : (s.slot x).outcome = some o)
    (role : x.role = .tag ∨ x.role = .scale ∨ x.role = .vision)
    (down : (s.slot x).state = .up ∧ s.line.downThreshold ≤ (s.slot x).newScore o)
    (queued : n ∈ (s.lanes.at x.lane).queue) (waits : s.canMiss x.role n) :
    (allSlots.foldl State.scoreSlot s).misses x.role n := by
  have nodup : allSlots.Nodup := by decide
  obtain ⟨before, after, split⟩ := List.mem_iff_append.1 (mem_allSlots x)
  rw [split] at nodup ⊢
  obtain ⟨once, _, apart⟩ := List.nodup_append.1 nodup
  have notBefore : x ∉ before := fun hx => apart x hx x List.mem_cons_self rfl
  have frame := State.DecisionFrame.foldl scoreSlot_frame before s
  have slot := foldl_scoreSlot_slot before once s x
  rw [if_neg notBefore] at slot
  rw [List.foldl_append, List.foldl_cons]
  refine List.foldlRecOn (motive := (State.misses · x.role n)) after _ ?_ fun u hu y _ => scoreSlot_keeps_misses hu y
  refine scoreSlot_misses (o := o) ?_ role ?_ ?_ ?_
  · rw [slot, h]
  · rw [slot, frame.threshold]; exact down
  · rw [frame.queues]; exact queued
  · exact List.foldlRecOn (motive := (State.canMiss · x.role n)) before _ waits fun u hu y _ => scoreSlot_keeps_canMiss hu y

end Lost

/-- R82: the record with one measurement role MISSING, role by role. -/
theorem lost_eq {role : Role} {lose : Item → Item}
    (h : (role = .tag ∧ lose = fun y => { y with tagStatus := .missing }) ∨
      (role = .scale ∧ lose = fun y => { y with scaleStatus := .missing }) ∨
      (role = .vision ∧ lose = fun y => { y with visionStatus := .missing })) : lose = fun y => y.lost role := by
  rcases h with ⟨rfl, rfl⟩ | ⟨rfl, rfl⟩ | ⟨rfl, rfl⟩ <;> rfl

/-- Settles O27: the tick's close scores the slots one after another (`foldl_scoreSlot_slot`), and a slot that goes DOWN
takes its role from the items that still await it (`foldl_scoreSlot_misses`). -/
theorem sweepCloseScoresTheRoll : Obligations.SweepCloseScoresTheRoll := by
  refine ⟨fun s w sweep => ?_, fun s w x o sweep outcome role up _ high => ?_, fun s u w sweep hu => ?_,
    fun s x => ⟨scoreSlot_of_none, fun o score outcome hscore => ?_⟩, fun s role n => ⟨loseRole_of_none,
      fun it live => ⟨loseRole_of_other live, fun undecided awaited lose u hlose hu => ?_⟩⟩⟩
  · have frame := sweepExpiry_frame s
    refine ⟨s.sweepExpiry, rfl, frame.events, fun x o outcome score hscore => ?_, fun x none => ?_, frame.sorter, frame.totes,
      frame.plan, frame.port, by rw [frame.line]⟩
    · obtain ⟨next, slot⟩ := sweepExpiry_slot sweep x
      rw [closed_of_some outcome] at slot
      rw [slot, hscore]
      exact ⟨rfl, rfl, rfl, rfl, rfl⟩
    · obtain ⟨next, slot⟩ := sweepExpiry_slot sweep x
      rw [closed_of_none none] at slot
      rw [slot]
      exact ⟨rfl, rfl, rfl, rfl⟩
  · refine ⟨s.sweepExpiry, rfl, ?_, fun n queued it live _ undecided awaited => ?_⟩
    · obtain ⟨next, slot⟩ := sweepExpiry_slot sweep x
      rw [slot, closed_of_some outcome]
      exact if_pos ⟨up, high⟩
    · rw [sweepExpiry_item sweep]
      exact foldl_scoreSlot_misses outcome role ⟨up, high⟩ queued (.inl ⟨it, live, undecided, awaited⟩)
  · subst hu
    rw [exec_sweepTimer, exec_sweepTimer, closeSweep_of_open sweep, closeSweep_of_none rfl]
  · subst hscore
    refine ⟨fun up high a address u hu => ?_, fun down zero a address => ?_, fun notDown notUp => ?_⟩
    · have goesDown := scoreSlot_goesDown outcome ⟨up, high⟩
      rw [address, modSlot_congr s x _ (fun y => { y with
        state := .down, score := (s.slot x).newScore o, maxScore := max y.maxScore ((s.slot x).newScore o),
        outcome := none }) rfl, Option.getD_some, ← hu] at goesDown
      refine ⟨fun other => goesDown.trans (roleDown_of_other other), fun measurement => ?_⟩
      have lanes : u.lanes = s.lanes := by rw [hu, offer_lanes]; rfl
      rw [goesDown, roleDown_of_measurement measurement, lanes]
    · have comesUp := scoreSlot_comesUp outcome ⟨down, zero⟩
      rw [address, zero, Nat.max_zero, modSlot_congr s x _ (fun y => { y with
        state := .up, score := 0, outcome := none }) (by simp [Slot.scoredIn, zero])] at comesUp
      exact comesUp
    · rw [scoreSlot_stays outcome notDown notUp]
      exact modSlot_congr s x _ _ rfl
  · obtain rfl := lost_eq hlose
    subst hu
    refine ⟨fun tag scale vision settled => ?_, fun waiting => ?_⟩
    · exact loseRole_decides live undecided awaited ((measured_iff _).2 ⟨tag, scale, vision⟩) settled
    · refine loseRole_leaves live undecided awaited ?_
      rcases waiting with tag | scale | vision | unsettled
      · exact .inl (measured_eq_false (.inl tag))
      · exact .inl (measured_eq_false (.inr (.inl scale)))
      · exact .inl (measured_eq_false (.inr (.inr vision)))
      · exact .inr unsettled

end Sys2Proof.Machine
end

section
/-! The law of the plan banks (R10, R97, R98, R106): each bank's count is that of the live items bound to it, and its state
and VALID mark agree with it. -/

namespace Sys2Proof.Machine

/-! ### The law of one bank (R97) -/

/-- `Bank.lawful`, clause by clause. -/
structure Bank.Lawful (x : Bank) (count : Nat) : Prop where
  bound    : x.bound = count
  empty    : x.state = .empty → x.undefined = true ∧ x.valid = false ∧ count = 0
  standby  : x.state = .standby → count = 0
  active   : x.state = .active → x.valid = true
  draining : x.state = .draining → x.valid = true ∧ 0 < count

theorem bank_lawful_iff (x : Bank) (count : Nat) : x.lawful count = true ↔ x.Lawful count := by
  have marks : (match x.state with
      | .empty => x.undefined && !x.valid && decide (x.bound = 0)
      | .standby => decide (x.bound = 0)
      | .active => x.valid
      | .draining => x.valid && decide (0 < x.bound)) = true ↔
        (x.state = .empty → x.undefined = true ∧ x.valid = false ∧ x.bound = 0) ∧ (x.state = .standby → x.bound = 0) ∧
          (x.state = .active → x.valid = true) ∧ (x.state = .draining → x.valid = true ∧ 0 < x.bound) := by
    cases x.state <;> simp [and_assoc]
  rw [Bank.lawful, Bool.and_eq_true, decide_eq_true_eq]
  constructor
  · rintro ⟨rfl, h⟩
    obtain ⟨empty, standby, active, draining⟩ := marks.1 h
    exact ⟨rfl, empty, standby, active, draining⟩
  · rintro ⟨rfl, empty, standby, active, draining⟩
    exact ⟨rfl, marks.2 ⟨empty, standby, active, draining⟩⟩

/-- No item is bound to a bank that is EMPTY or STANDBY. -/
theorem Bank.Lawful.unbound {x : Bank} {count : Nat} (h : x.Lawful count) (active : x.state ≠ .active)
    (draining : x.state ≠ .draining) : count = 0 := by
  cases state : x.state with
  | empty => exact (h.empty state).2.2
  | standby => exact h.standby state
  | active => exact absurd state active
  | draining => exact absurd state draining

/-- R106: the bank with one item fewer. -/
theorem released_lawful {x : Bank} {count : Nat} (h : x.Lawful (count + 1)) : x.released.Lawful count := by
  have bound := h.bound
  unfold Bank.released
  split
  · next last => exact ⟨by simp only; omega, nofun, fun _ => by omega, nofun, nofun⟩
  · next more =>
    refine ⟨by simp only; omega, fun e => ?_, fun e => ?_, h.active, fun e => ⟨(h.draining e).1, ?_⟩⟩
    · exact absurd (h.empty e).2.2 (Nat.succ_ne_zero count)
    · exact absurd (h.standby e) (Nat.succ_ne_zero count)
    · exact Nat.pos_of_ne_zero fun zero => more ⟨e, by omega⟩

theorem released_active_iff (x : Bank) : x.released.state = .active ↔ x.state = .active := by
  unfold Bank.released
  split
  · next last => simp [last.1]
  · rfl

/-- R10: one more item binds the ACTIVE bank. -/
theorem bindOne_lawful {x : Bank} {count : Nat} (h : x.Lawful count) (active : x.state = .active) :
    ({ x with bound := x.bound + 1 } : Bank).Lawful (count + 1) :=
  ⟨congrArg (· + 1) h.bound, by simp [active], by simp [active], h.active, by simp [active]⟩

/-- R105: the bank that leaves ACTIVE drains if items are bound to it. -/
theorem leaveActive_lawful {x : Bank} {count : Nat} (h : x.Lawful count) (active : x.state = .active) :
    x.leaveActive.Lawful count := by
  have bound := h.bound
  unfold Bank.leaveActive
  split
  · next more => exact ⟨bound, nofun, nofun, nofun, fun _ => ⟨h.active active, by omega⟩⟩
  · next zero => exact ⟨bound, nofun, fun _ => by omega, nofun, nofun⟩

theorem leaveActive_not_active (x : Bank) : x.leaveActive.state ≠ .active := by
  unfold Bank.leaveActive
  split <;> nofun

/-- R99: a bank that is neither ACTIVE nor DRAINING may be written, and is STANDBY then. -/
theorem written_lawful {x y : Bank} {count : Nat} (h : x.Lawful count) (active : x.state ≠ .active)
    (draining : x.state ≠ .draining) (state : y.state = x.state) (bound : y.bound = x.bound) : y.written.Lawful count := by
  have zero := h.unbound active draining
  have standby : y.written.state = .standby := by
    show (if y.state = .empty then BankState.standby else y.state) = .standby
    rw [state]
    cases e : x.state with
    | empty | standby => rfl
    | active => exact absurd e active
    | draining => exact absurd e draining
  exact ⟨bound.trans h.bound, by simp [standby], fun _ => zero, by simp [standby], by simp [standby]⟩

/-- R103: an emptied bank is EMPTY. -/
theorem cleared_lawful {x : Bank} {count : Nat} (h : x.Lawful count) (active : x.state ≠ .active)
    (draining : x.state ≠ .draining) : x.cleared.Lawful count :=
  ⟨h.bound, fun _ => ⟨rfl, rfl, h.unbound active draining⟩, nofun, nofun, nofun⟩

/-- R104: the VALID mark of a bank that is neither ACTIVE nor DRAINING changes, and is not set on an EMPTY one. -/
theorem marked_lawful {x : Bank} {count : Nat} (h : x.Lawful count) (active : x.state ≠ .active)
    (draining : x.state ≠ .draining) {valid : Bool} (full : x.state = .empty → valid = false) :
    ({ x with valid := valid } : Bank).Lawful count :=
  ⟨h.bound, fun e => ⟨(h.empty e).1, full e, (h.empty e).2.2⟩, h.standby, fun e => absurd e active,
    fun e => absurd e draining⟩

/-- R104: a bank with no contents fails its validation at the first category. -/
theorem firstFault_of_undefined {x : Bank} (h : x.undefined = true) : x.firstFault ≠ none := by
  simp only [Bank.undefined, Bool.and_eq_true, decide_eq_true_eq] at h
  obtain ⟨⟨⟨⟨_, _⟩, programs⟩, _⟩, _⟩ := h
  have empty : x.programs.lookup 0 = none := by
    unfold Table.lookup
    rw [List.eq_nil_of_length_eq_zero programs]
    rfl
  have fault : x.categoryFault 0 = some (.noProgram, 0) := by simp [Bank.categoryFault, empty]
  unfold Bank.firstFault
  rw [List.range_succ_eq_map, List.findSome?_cons, fault]
  nofun

/-- R111: a warm reset leaves no item bound. -/
theorem warm_bank_lawful {x : Bank} {count : Nat} (h : x.Lawful count) : x.warm.Lawful 0 := by
  unfold Bank.warm
  split
  · exact ⟨rfl, nofun, fun _ => rfl, nofun, nofun⟩
  · next draining =>
    exact ⟨rfl, fun e => ⟨(h.empty e).1, (h.empty e).2.1, rfl⟩, fun _ => rfl, h.active, fun e => absurd e draining⟩

theorem warm_active_iff (x : Bank) : x.warm.state = .active ↔ x.state = .active := by
  unfold Bank.warm
  split
  · next draining => simp [draining]
  · rfl

/-! ### The items bound to a bank (R97) -/

theorem boundTo_eq_countP (s : State) (b : BankId) :
    s.boundTo b = s.items.records.entries.countP fun e => decide (e.2.bank = b) := by
  rw [State.boundTo, Table.values, ← List.countP_eq_length_filter, List.countP_map]
  rfl

/-- A value put under a free key is one more entry. -/
theorem putEntry_perm {α : Type} (l : List (Nat × α)) (k : Nat) (v : α) (free : lookupEntry l k = none) :
    (putEntry l k v).Perm ((k, v) :: l) := by
  induction l with
  | nil => exact .refl _
  | cons e rest ih =>
    obtain ⟨a, w⟩ := e
    have apart : a ≠ k := fun e => by simp [lookupEntry, e] at free
    rw [lookupEntry, if_neg apart] at free
    unfold putEntry
    split
    · exact .refl _
    · exact ((ih free).cons _).trans (.swap _ _ _)

/-- In a canonical table, a key that is listed stands for one entry. -/
theorem perm_cons_filter {α : Type} (l : List (Nat × α)) (k : Nat) (v : α) (wf : risingKeys l = true)
    (listed : lookupEntry l k = some v) : l.Perm ((k, v) :: l.filter fun e => e.1 ≠ k) := by
  induction l with
  | nil => cases listed
  | cons e rest ih =>
    obtain ⟨a, w⟩ := e
    obtain ⟨above, wf⟩ := (risingKeys_cons a w rest).1 wf
    by_cases same : a = k
    · subst same
      rw [lookupEntry, if_pos rfl] at listed
      cases listed
      have kept : rest.filter (fun e => decide (e.1 ≠ a)) = rest :=
        List.filter_eq_self.2 fun e he => decide_eq_true (Nat.ne_of_gt (above e he))
      rw [List.filter_cons_of_neg (by simp), kept]
    · rw [lookupEntry, if_neg same] at listed
      rw [List.filter_cons_of_pos (by simpa using same)]
      exact ((ih wf listed).cons _).trans (.swap _ _ _)

/-- Retiring an item leaves one item fewer in its bank, and as many in the other. -/
theorem boundTo_of_removed {s t : State} {n : Nat} {it : Item} (wf : s.items.records.wf = true) (live : s.item n = some it)
    (records : t.items.records = s.items.records.remove n) (b : BankId) :
    s.boundTo b = t.boundTo b + if it.bank = b then 1 else 0 := by
  have perm := perm_cons_filter s.items.records.entries n it wf live
  rw [boundTo_eq_countP, boundTo_eq_countP, perm.countP_eq, records, List.countP_cons, Table.remove]
  simp

/-- Creating an item leaves one item more in its bank, and as many in the other. -/
theorem boundTo_of_put {s t : State} {n : Nat} {it : Item} (free : s.item n = none)
    (records : t.items.records = s.items.records.put n it) (b : BankId) :
    t.boundTo b = s.boundTo b + if it.bank = b then 1 else 0 := by
  have perm := putEntry_perm s.items.records.entries n it free
  rw [boundTo_eq_countP, boundTo_eq_countP, records, Table.put, perm.countP_eq, List.countP_cons]
  simp

/-- What the items say of their banks, item by item. -/
def State.binds (s : State) : List (Nat × BankId) := s.items.records.entries.map fun e => (e.1, e.2.bank)

theorem boundTo_of_binds_eq {s t : State} (h : t.binds = s.binds) (b : BankId) : t.boundTo b = s.boundTo b := by
  have count : ∀ u : State, u.boundTo b = u.binds.countP fun e => decide (e.2 = b) := fun u => by
    rw [boundTo_eq_countP, State.binds, List.countP_map]
    rfl
  rw [count, count, h]

theorem wf_of_binds_eq {s t : State} (h : t.binds = s.binds) : t.items.records.wf = s.items.records.wf := by
  refine risingKeys_keys _ _ ?_
  have keys : ∀ u : State, u.items.records.entries.map (·.1) = u.binds.map (·.1) := fun u => by
    rw [State.binds, List.map_map]
    rfl
  rw [keys, keys, h]

/-! ### The law of both banks (R10, R98) -/

/-- `State.planLawful`, clause by clause. -/
structure State.PlanLawful (s : State) : Prop where
  wf     : s.items.records.wf = true
  banks  : ∀ b, (s.plan.banks.at b).Lawful (s.boundTo b)
  one    : ∀ a b, (s.plan.banks.at a).state = .active → (s.plan.banks.at b).state = .active → a = b
  active : s.line.mode.isSetup = false → ∃ a, (s.plan.banks.at a).state = .active

theorem activeBank_isSome_iff (s : State) : s.activeBank.isSome = true ↔ ∃ a, (s.plan.banks.at a).state = .active := by
  constructor
  · intro h
    obtain ⟨a, ha⟩ := Option.isSome_iff_exists.1 h
    exact ⟨a, activeBank_state ha⟩
  · rintro ⟨a, ha⟩
    unfold State.activeBank
    cases a with
    | b0 => rw [if_pos (show s.plan.banks.b0.state = .active from ha)]; rfl
    | b1 => split; exacts [rfl, by rw [if_pos (show s.plan.banks.b1.state = .active from ha)]; rfl]

/-- R98: the edit bank is the one that is not ACTIVE. -/
theorem editBank_of_activeBank {s : State} {a : BankId} (h : s.activeBank = some a) : s.editBank = otherBank a := by
  unfold State.activeBank at h
  unfold State.editBank
  split at h
  · next b0 => cases h; rw [if_pos b0]; rfl
  · next b0 =>
    split at h
    · cases h; rw [if_neg b0]; rfl
    · cases h

theorem planLawful_iff (s : State) : s.planLawful = true ↔ s.PlanLawful := by
  have one : (!(decide (s.plan.banks.b0.state = .active) && decide (s.plan.banks.b1.state = .active))) = true ↔
      ∀ a b, (s.plan.banks.at a).state = .active → (s.plan.banks.at b).state = .active → a = b := by
    simp only [Bool.not_eq_true', Bool.and_eq_false_iff, decide_eq_false_iff_not]
    constructor
    · intro h a b ha hb
      cases a <;> cases b <;> simp_all [Pair.at]
    · intro h
      by_contra both
      simp only [not_or, not_not] at both
      exact nomatch h .b0 .b1 both.1 both.2
  have active : (s.line.mode.isSetup || s.activeBank.isSome) = true ↔
      (s.line.mode.isSetup = false → ∃ a, (s.plan.banks.at a).state = .active) := by
    rw [← activeBank_isSome_iff]
    cases s.line.mode.isSetup <;> simp
  simp only [State.planLawful, Bool.and_eq_true, bank_lawful_iff, one, active]
  constructor
  · rintro ⟨⟨⟨⟨wf, one⟩, b0⟩, b1⟩, active⟩
    exact ⟨wf, fun b => by cases b <;> assumption, one, active⟩
  · rintro ⟨wf, banks, one, active⟩
    exact ⟨⟨⟨⟨wf, one⟩, banks .b0⟩, banks .b1⟩, active⟩

/-- R98: the edit bank is not ACTIVE. -/
theorem State.PlanLawful.edit {s : State} (h : s.PlanLawful) : s.edit.state ≠ .active := by
  unfold State.edit State.editBank
  split
  · next active => exact fun e => nomatch h.one .b0 .b1 active e
  · next other => exact other

/-- One bank changes with the items bound to it, and is ACTIVE as before. -/
theorem State.PlanLawful.modBank {s t : State} (h : s.PlanLawful) (b : BankId) {f : Bank → Bank}
    (banks : t.plan.banks = s.plan.banks.modify b f) (wf : t.items.records.wf = true)
    (lawful : (f (s.plan.banks.at b)).Lawful (t.boundTo b)) (others : ∀ c, b ≠ c → t.boundTo c = s.boundTo c)
    (state : (f (s.plan.banks.at b)).state = .active ↔ (s.plan.banks.at b).state = .active)
    (mode : t.line.mode.isSetup = false → s.line.mode.isSetup = false) : t.PlanLawful := by
  have active : ∀ c, (t.plan.banks.at c).state = .active ↔ (s.plan.banks.at c).state = .active := fun c => by
    rw [banks]
    by_cases hc : b = c
    · subst hc; rw [pair_at_modify_self]; exact state
    · rw [pair_at_modify_other _ _ _ _ hc]
  refine ⟨wf, fun c => ?_, fun a c ha hc => h.one a c ((active a).1 ha) ((active c).1 hc), fun m => ?_⟩
  · rw [banks]
    by_cases hc : b = c
    · subst hc; rw [pair_at_modify_self]; exact lawful
    · rw [pair_at_modify_other _ _ _ _ hc, others c hc]; exact h.banks c
  · obtain ⟨a, ha⟩ := h.active (mode m)
    exact ⟨a, (active a).2 ha⟩

end Sys2Proof.Machine
end

section
/-! Every step keeps the law of the plan banks (R10, R97, R98, R106). -/

namespace Sys2Proof.Machine

/-! ### What keeps the law -/

/-- Whatever made the second state of the first keeps the law of the plan banks. -/
def State.PlanKept (s t : State) : Prop := s.PlanLawful → t.PlanLawful

namespace State.PlanKept

variable {s t u : State}

theorem refl (s : State) : s.PlanKept s := id

theorem trans (h : s.PlanKept t) (h' : t.PlanKept u) : s.PlanKept u := h' ∘ h

theorem foldl {α : Type} {f : State → α → State} (h : ∀ (s : State) a, s.PlanKept (f s a)) (l : List α) (s : State) :
    s.PlanKept (l.foldl f s) := by
  induction l generalizing s with
  | nil => exact refl s
  | cons a rest ih => exact (h s a).trans (ih _)

/-- The items keep their banks, the banks stay, and the line does not leave SETUP. -/
theorem of_binds (binds : t.binds = s.binds) (banks : t.plan.banks = s.plan.banks := by rfl)
    (mode : t.line.mode.isSetup = false → s.line.mode.isSetup = false := by exact id) : s.PlanKept t := fun h =>
  ⟨(wf_of_binds_eq binds).trans h.wf, fun b => by rw [banks, boundTo_of_binds_eq binds]; exact h.banks b,
    by rw [banks]; exact h.one, fun m => by rw [banks]; exact h.active (mode m)⟩

/-- The items and the banks stay, and the line does not leave SETUP. -/
theorem elsewhere (items : t.items.records = s.items.records := by rfl) (banks : t.plan.banks = s.plan.banks := by rfl)
    (mode : t.line.mode.isSetup = false → s.line.mode.isSetup = false := by exact id) : s.PlanKept t :=
  of_binds (by unfold State.binds; rw [items]) banks mode

/-- The blocks that the law looks at stay. -/
theorem aside (items : t.items = s.items) (plan : t.plan = s.plan) (line : t.line = s.line) : s.PlanKept t :=
  elsewhere (by rw [items]) (by rw [plan]) (by rw [line]; exact id)

end State.PlanKept

/-! ### Items (R8 to R10) -/

theorem binds_modItem {s : State} (wf : s.items.records.wf = true) {n : Nat} {f : Item → Item}
    (same : ∀ it, s.item n = some it → (f it).bank = it.bank) : (s.modItem n f).binds = s.binds := by
  show (s.items.records.entries.map _).map _ = _
  rw [List.map_map]
  refine List.map_congr_left fun e he => ?_
  simp only [Function.comp]
  split
  · next hn => exact congrArg (Prod.mk e.1) (same e.2 (hn ▸ lookup_of_mem _ _ _ wf he))
  · rfl

/-- An item keeps its bank (R10). -/
theorem modItem_planKept (s : State) (n : Nat) (f : Item → Item)
    (same : ∀ it, s.item n = some it → (f it).bank = it.bank := by intro _ _; rfl) : s.PlanKept (s.modItem n f) :=
  fun h => State.PlanKept.of_binds (binds_modItem h.wf same) rfl id h

/-- A record is replaced by one of the same bank. -/
theorem replace_planKept {s : State} {n : Nat} {it : Item} (live : s.item n = some it) (it' : Item)
    (same : it'.bank = it.bank := by rfl) : s.PlanKept (s.modItem n fun _ => it') :=
  modItem_planKept s n _ fun x hx => by rw [live] at hx; cases hx; exact same

theorem offer_planKept (s : State) (item : Nat) (body : EventBody) : s.PlanKept (s.offer item body) :=
  .aside (by simp) (by simp) (by simp)

/-! ### Settlement, retirement and aborts (R13, R64 to R66, R106) -/

theorem endTest_planKept (s : State) : s.PlanKept s.endTest := by
  refine .elsewhere (by simp) (by simp) ?_
  unfold State.endTest
  split
  · rw [offerLineState_line]; nofun
  · exact id

theorem settle_planKept (s : State) (l : LaneId) (cause : EndCause) (retired : Nat) :
    s.PlanKept (s.settle l cause retired) := by
  have before : s.PlanKept (s.parcelSettled l cause retired) :=
    .aside (by rw [← settle_items s l cause retired, settle_eq, endTest_items])
      (by rw [← settle_plan s l cause retired, settle_eq, endTest_plan]) (parcelSettled_line s l cause retired)
  exact before.trans (endTest_planKept _)

theorem settlementTest_planKept (s : State) (l : LaneId) : s.PlanKept (s.settlementTest l) := by
  unfold State.settlementTest
  split
  · exact settle_planKept s l _ 0
  · exact .refl s

/-- A live item has left the table: its bank's count falls by one (R13, R106). -/
theorem releaseBank_planKept {s u : State} {n : Nat} {it : Item} (live : s.item n = some it)
    (records : u.items.records = s.items.records.remove n) (plan : u.plan = s.plan) (line : u.line = s.line) :
    s.PlanKept (u.releaseBank it.bank) := fun h => by
  have count := boundTo_of_removed (t := u.releaseBank it.bank) h.wf live (by rw [releaseBank_items, records])
  have one := count it.bank
  rw [if_pos rfl] at one
  refine h.modBank it.bank (f := fun _ => (s.plan.banks.at it.bank).released) ?_ ?_ ?_ ?_ (released_active_iff _) ?_
  · rw [releaseBank_plan, plan]
  · rw [releaseBank_items, records]; exact wf_remove _ n h.wf
  · exact released_lawful (one ▸ h.banks it.bank)
  · intro c hc
    have same := count c
    rw [if_neg hc] at same
    exact same.symm
  · rw [releaseBank_line, line]; exact id

/-- Steps 3 to 5 of R13, after a live item has left the table. -/
theorem afterRetirement_planKept {s u : State} {n : Nat} {it : Item} (live : s.item n = some it)
    (records : u.items.records = s.items.records.remove n) (plan : u.plan = s.plan) (line : u.line = s.line) (tell : Bool) :
    s.PlanKept (u.afterRetirement it tell) := by
  have told : ∀ v : State, v.PlanKept (if tell && !it.decided then v.settlementTest it.lane else v) := fun v => by
    split
    · exact settlementTest_planKept v it.lane
    · exact .refl v
  have ended : ∀ v : State, v.PlanKept (if v.live = 0 then v.endTest else v) := fun v => by
    split
    · exact endTest_planKept v
    · exact .refl v
  exact (releaseBank_planKept live records plan line).trans ((told _).trans (ended _))

theorem withdraw_planKept (s : State) (n : Nat) (reason : WithdrawReason) (tell : Bool) :
    s.PlanKept (s.withdraw n reason tell) := by
  unfold State.withdraw
  split
  · exact .refl s
  · next it live => exact afterRetirement_planKept (u := s.closeRecord n it _) live rfl rfl rfl tell

theorem modLane_planKept (s : State) (l : LaneId) (f : Lane → Lane) : s.PlanKept (s.modLane l f) := .elsewhere

theorem abort_planKept (s : State) (l : LaneId) (reason : WithdrawReason) (cause : EndCause) :
    s.PlanKept (s.abort l reason cause) := by
  have emptied := (State.PlanKept.foldl (fun u n => withdraw_planKept u n reason false) (s.lanes.at l).queue s).trans
    (modLane_planKept _ l fun x => { x with queue := [], verdict := .none, timer := none })
  unfold State.abort
  dsimp only
  split
  · exact emptied
  · exact emptied.trans (settle_planKept _ _ _ _)

/-! ### Decisions (R115, R117) and the requests of the Item Table (R15 to R18) -/

theorem decisionMade_planKept {s : State} {n : Nat} {it : Item} (live : s.item n = some it) :
    s.PlanKept (s.decisionMade n it) := by
  refine (replace_planKept live (s.decisionOf it)).trans (.aside ?_ ?_ ?_)
  · rw [decisionMade_keeps s n it (fun x => x.items) offer_items]
    exact congrArg (fun i : ItemTable => { i with records := i.records.modify n fun _ => s.decisionOf it })
      (countFound_items s it _)
  · rw [decisionMade_keeps s n it (fun x => x.plan) offer_plan]
    exact countFound_plan s it _
  · rw [decisionMade_keeps s n it (fun x => x.line) offer_line]
    exact countFound_line s it _

theorem decideItem_planKept (s : State) (n : Nat) : s.PlanKept (s.decideItem n) := by
  cases live : s.item n with
  | none => rw [decideItem_of_none live]; exact .refl s
  | some it =>
    cases undecided : it.decided with
    | true => rw [decideItem_of_decided live undecided]; exact .refl s
    | false =>
      rw [decideItem_eq live undecided]
      exact (decisionMade_planKept live).trans (settlementTest_planKept _ _)

theorem testItem_planKept (s : State) (n : Nat) : s.PlanKept (s.testItem n) := by
  rcases testItem_cases s n with h | h <;> rw [h]
  · exact .refl s
  · exact decideItem_planKept s n

theorem retest_planKept (s : State) (l : LaneId) : s.PlanKept (s.retest l) := by
  refine State.PlanKept.foldl (fun u n => ?_) _ s
  split
  · exact .refl u
  · split
    · exact testItem_planKept u n
    · exact .refl u

theorem withdrawItem_planKept (n : Nat) (s : State) : s.PlanKept (withdrawItem n s).state := by
  unfold withdrawItem
  repeat' split
  exacts [.refl s, withdraw_planKept s n .host true, modItem_planKept s n _]

theorem forceGrade_planKept (n : Nat) (grade : Coded Grade) (s : State) : s.PlanKept (forceGrade n grade s).state := by
  unfold forceGrade
  split
  · exact .refl s
  · next it live =>
    split
    · exact .refl s
    · dsimp only
      split
      · exact (replace_planKept live _).trans (offer_planKept _ _ _)
      · exact (replace_planKept live _).trans <| (modLane_planKept _ it.lane _).trans <|
          (offer_planKept _ _ _).trans (settlementTest_planKept _ _)

/-! ### The Station Bus (R71 to R88) -/

theorem bus_planKept (s : State) (b : StationBus) : s.PlanKept { s with bus := b } := .elsewhere

theorem takeAnswer_planKept (s : State) (a : AnswerHead) (fromRole : Role → Bool) (dataOk : Bool)
    (act : SlotId → State → State) (h : ∀ x u, State.PlanKept u (act x u)) :
    s.PlanKept (s.takeAnswer a fromRole dataOk act) := by
  have heard : ∀ x, s.PlanKept (s.endTurn.noteValid x) := fun _ => .elsewhere
  unfold State.takeAnswer
  repeat' split
  exacts [.refl s, (heard _).trans (h _ _), .elsewhere, .elsewhere]

theorem takeGarbled_planKept (s : State) : s.PlanKept s.takeGarbled := by
  unfold State.takeGarbled
  repeat' split
  exacts [.refl s, .elsewhere, .elsewhere]

theorem turnPassed_planKept (s : State) (partialAnswer : Bool) : s.PlanKept (s.turnPassed partialAnswer) := by
  unfold State.turnPassed
  repeat' split
  exacts [.refl s, .elsewhere, .elsewhere]

@[simp] theorem withStatus_bank (it : Item) (r : Role) (x : RoleStatus) : (it.withStatus r x).bank = it.bank := by
  cases r <;> rfl

theorem deliver_planKept (s : State) (x : SlotId) (ticket : Nat) (kind : ReportKind) (write : Item → Item)
    (same : ∀ it, (write it).bank = it.bank) : s.PlanKept (s.deliver x ticket kind write) := by
  have written : ∀ n, s.PlanKept (s.modItem n fun it => (write it).withStatus x.role .taken) := fun n =>
    modItem_planKept s n _ fun it _ => (withStatus_bank _ _ _).trans (same it)
  unfold State.deliver
  repeat' split
  exacts [offer_planKept _ _ _, offer_planKept _ _ _, (written _).trans (testItem_planKept _ _), offer_planKept _ _ _,
    offer_planKept _ _ _]

theorem roleDown_planKept (s : State) (x : SlotId) : s.PlanKept (s.roleDown x) := by
  have lost : ∀ (u : State) n, u.PlanKept (u.loseRole x.role n) := fun u n => by
    unfold State.loseRole
    repeat' split
    exacts [.refl u,
      (modItem_planKept u n _ fun it _ => withStatus_bank it x.role .missing).trans (testItem_planKept _ n), .refl u]
  unfold State.roleDown
  split
  · exact State.PlanKept.foldl lost _ s
  · exact .refl s

theorem modSlot_planKept (s : State) (x : SlotId) (f : Slot → Slot) : s.PlanKept (s.modSlot x f) := .elsewhere

theorem scoreSlot_planKept (s : State) (x : SlotId) : s.PlanKept (s.scoreSlot x) := by
  unfold State.scoreSlot
  split
  · exact .refl s
  · next o _ =>
    dsimp only
    refine (modSlot_planKept s x fun _ => (s.slot x).scored o).trans ?_
    repeat' split
    · exact (modSlot_planKept _ x _).trans <| (offer_planKept _ _ _).trans (roleDown_planKept _ x)
    · exact (modSlot_planKept _ x _).trans (offer_planKept _ _ _)
    · exact .refl _

theorem sweepExpiry_planKept (s : State) : s.PlanKept s.sweepExpiry := by
  have closed : s.PlanKept s.closeSweep := by
    unfold State.closeSweep
    split
    · exact .refl s
    · exact (State.PlanKept.foldl scoreSlot_planKept _ s).trans (bus_planKept _ _)
  have begun : s.closeSweep.PlanKept s.closeSweep.beginSweep := .aside (by simp) (by simp) (by simp)
  exact closed.trans (begun.trans (bus_planKept _ _))

/-! ### The Return Table (R29 to R38) -/

theorem modRa_planKept (s : State) (n : Nat) (f : Ra → Ra) : s.PlanKept (s.modRa n f) := .elsewhere

theorem loadReturn_planKept (r : ReturnLoad) (s : State) : s.PlanKept (loadReturn r s).state := by
  have filled : ∀ (f : Ra → Ra) (l : Option LaneId), s.PlanKept
      ((l.map fun l => (s.modRa r.ra f).retest l).getD (s.modRa r.ra f)) := fun f l => by
    refine (modRa_planKept s r.ra f).trans ?_
    cases l with
    | none => exact .refl _
    | some l => exact retest_planKept _ l
  unfold loadReturn
  repeat' split
  exacts [.refl s, .refl s, .refl s, .elsewhere, .refl s, .refl s, .refl s, filled _ _]

theorem manifestExpiry_planKept (s : State) (n : Nat) : s.PlanKept (s.manifestExpiry n) := by
  have overdue : ∀ r, s.PlanKept (s.manifestOverdue n r) := fun r => by
    unfold State.manifestOverdue
    dsimp only
    refine (modRa_planKept s n fun x => { x with state := .overdue, timer := none }).trans ?_
    split
    · exact .refl _
    · exact (offer_planKept _ _ _).trans (retest_planKept _ _)
  unfold State.manifestExpiry
  repeat' split
  exacts [.refl s, .refl s, overdue _, .refl s]

/-! ### The Lane Controllers (R51 to R66) -/

theorem openParcel_planKept (lane account : Nat) (pairs : List (Nat × Nat)) (s : State) :
    s.PlanKept (openParcel lane account pairs s).state := by
  have opened : ∀ l, s.PlanKept (s.openParcel l account pairs) := fun l => by
    refine (State.PlanKept.foldl (fun u p => ?_) pairs s).trans (modLane_planKept _ l _)
    rw [bindPair_eq]
    exact .elsewhere
  unfold openParcel
  repeat' split
  exacts [.refl s, .refl s, .refl s, .refl s, .refl s, .refl s, .refl s, opened _]

/-- R55: items are admitted while the line is RUNNING only. -/
theorem mode_of_admitted {s : State} {l : LaneId} (h : s.entryRefusal l = none) : s.line.mode.isSetup = false := by
  have running : s.line.mode = .running := by
    by_contra not
    rw [entryRefusal_eq] at h
    split at h
    · cases h
    · rw [if_pos (.inl not)] at h
      cases h
  rw [running]
  rfl

/-- R9, R10: a new item binds the ACTIVE bank, which there is while the line is not in SETUP. -/
theorem createItem_planKept (s : State) (l : LaneId) (number ticket : Nat) (free : s.item number = none)
    (mode : s.line.mode.isSetup = false) : s.PlanKept (s.createItem l number ticket) := fun h => by
  obtain ⟨b, active⟩ := Option.isSome_iff_exists.1 ((activeBank_isSome_iff s).2 (h.active mode))
  have bank := newItem_bank active l ticket
  have count := boundTo_of_put (t := s.createItem l number ticket) free rfl
  rw [bank] at count
  have one := count b
  rw [if_pos rfl] at one
  refine h.modBank b (f := fun x => { x with bound := x.bound + 1 }) (by rw [← bank]; rfl) (wf_put _ _ _ h.wf) ?_ ?_ .rfl
    id
  · rw [one]
    exact bindOne_lawful (h.banks b) (activeBank_state active)
  · intro c hc
    rw [count c, if_neg hc]
    rfl

theorem presented_planKept (s : State) (l : LaneId) : s.PlanKept (s.presented l) := by
  have afresh : s.PlanKept (s.presentAfresh l) := by
    unfold State.presentAfresh
    split
    · next admitted =>
      unfold State.admission
      split
      · next number ticket issued _ =>
        exact (createItem_planKept s l number ticket (issueNumber_free s number issued) (mode_of_admitted admitted)).trans
          (testItem_planKept _ _)
      · exact .refl s
    · exact modLane_planKept s l _
  unfold State.presented
  split
  exacts [.refl s, afresh, afresh]

theorem atEnd_planKept (s : State) (l : LaneId) (ticket : Nat) : s.PlanKept (s.atEnd l ticket) := by
  have arrives : ∀ (u : State) n, u.PlanKept (u.arrive l n) := fun u n => by
    unfold State.arrive
    repeat' split
    exacts [.refl u, (modItem_planKept u n _).trans (modLane_planKept _ l _), modItem_planKept u n _, .refl u, .refl u,
      .refl u]
  unfold State.atEnd
  dsimp only
  split
  · exact offer_planKept _ _ _
  · exact (State.PlanKept.foldl (fun u m => withdraw_planKept u m .skipped true) _ s).trans (arrives _ _)

theorem decisionExpiry_planKept (s : State) (l : LaneId) : s.PlanKept (s.decisionExpiry l) := by
  have atOnce : ∀ (u : State) n, u.PlanKept (u.decideAtOnce n) := fun u n => by
    unfold State.decideAtOnce
    repeat' split
    exacts [.refl u, .refl u, (modItem_planKept u n Item.giveUp).trans (decideItem_planKept _ _)]
  unfold State.decisionExpiry
  repeat' split
  exacts [.refl s, (modLane_planKept s l fun x => { x with timer := none }).trans (atOnce _ _), .refl s]

theorem close_planKept (s : State) (l : LaneId) (cause : CloseCause) : s.PlanKept (s.close l cause) :=
  (modLane_planKept s l _).trans (settlementTest_planKept _ l)

theorem closeParcel_planKept (lane : Nat) (s : State) : s.PlanKept (closeParcel lane s).state := by
  unfold closeParcel
  repeat' split
  exacts [.refl s, .refl s, close_planKept s _ .host, .refl s]

theorem parcelDone_planKept (s : State) (l : LaneId) : s.PlanKept (s.parcelDone l) := by
  unfold State.parcelDone
  split
  exacts [.refl s, close_planKept s l .key, .refl s]

/-! ### The Plan Store (R99 to R108) -/

/-- A change of the edit bank that leaves it not ACTIVE (R98, R99). -/
theorem editBank_planKept (s : State) (f : Bank → Bank)
    (lawful : ∀ count, s.edit.Lawful count → s.edit.state ≠ .active → (f s.edit).Lawful count)
    (state : s.edit.state ≠ .active → (f s.edit).state ≠ .active) : s.PlanKept (s.modBank s.editBank f) := fun h =>
  h.modBank s.editBank rfl h.wf (lawful _ (h.banks s.editBank) h.edit) (fun _ _ => rfl)
    (iff_of_false (state h.edit) h.edit) id

theorem written_not_active {x : Bank} (h : x.state ≠ .active) : x.written.state ≠ .active := by
  show (if x.state = .empty then BankState.standby else x.state) ≠ .active
  split
  exacts [nofun, h]

/-- R99: a write, which changes neither the state nor the count itself. -/
theorem writeBank_planKept (inRange : Bool) (f : Bank → Bank) (s : State)
    (state : ∀ x, (f x).state = x.state := by intro _; rfl) (bound : ∀ x, (f x).bound = x.bound := by intro _; rfl) :
    s.PlanKept (s.writeBank inRange f).state := by
  unfold State.writeBank
  split
  · exact .refl s
  · next draining =>
    split
    · exact .refl s
    · exact editBank_planKept s _ (fun _ h active => written_lawful h active draining (state _) (bound _))
        fun active => written_not_active (by rwa [state])

theorem clearBank_planKept (s : State) : s.PlanKept (clearBank s).state := by
  unfold clearBank
  split
  · exact .refl s
  · next draining => exact editBank_planKept s _ (fun _ h active => cleared_lawful h active draining) fun _ => nofun

/-- R104: an EMPTY bank has a fault, so it is not made VALID. -/
theorem validatePlan_planKept (s : State) : s.PlanKept (validatePlan s).state := by
  unfold validatePlan
  split
  · exact .refl s
  · next draining =>
    split
    · next passed =>
      refine editBank_planKept s _ (fun _ h active => marked_lawful h active draining fun empty => ?_) id
      exact absurd passed (firstFault_of_undefined (h.empty empty).1)
    · exact editBank_planKept s _ (fun _ h active => marked_lawful h active draining fun _ => rfl) id

/-- The bank after a SWITCH PLAN to the bank `new` (R105). -/
def Bank.switched (x : Bank) (isNew : Bool) : Bank :=
  if isNew then { x with state := .active } else if x.state = .active then x.leaveActive else x

/-- R105: the edit bank is ACTIVE, and the bank that was ACTIVE has left. -/
theorem switchBanks_banks {s : State} (h : s.PlanLawful) (b : BankId) :
    s.switchBanks.plan.banks.at b = (s.plan.banks.at b).switched (decide (b = s.editBank)) := by
  have edit := h.edit
  unfold State.edit at edit
  unfold State.switchBanks Bank.switched
  rw [offer_plan]
  cases active : s.activeBank with
  | none =>
    by_cases hb : b = s.editBank
    · subst hb
      simp
    · have rest : (s.plan.banks.at b).state ≠ .active := fun e => by
        have := (activeBank_isSome_iff s).2 ⟨b, e⟩
        simp [active] at this
      simp [hb, rest, pair_at_modify_other _ _ _ _ (Ne.symm hb)]
  | some a =>
    have isActive := activeBank_state active
    have other : a ≠ s.editBank := fun e => edit (e ▸ isActive)
    by_cases hb : b = s.editBank
    · subst hb
      simp [pair_at_modify_other _ _ _ _ other]
    · have same : b = a := by
        rw [editBank_of_activeBank active] at hb
        revert hb
        cases a <;> cases b <;> decide
      subst same
      simp [hb, pair_at_modify_other _ _ _ _ (Ne.symm hb), isActive]

/-- R105: a VALID bank becomes ACTIVE. -/
theorem switchBanks_planKept (s : State) (valid : s.edit.valid = true) :
    s.PlanKept s.switchBanks := fun h => by
  have banks := switchBanks_banks h
  have items : s.switchBanks.items = s.items := by
    unfold State.switchBanks
    cases s.activeBank <;> simp
  have count : ∀ b, s.switchBanks.boundTo b = s.boundTo b := fun b => by unfold State.boundTo; rw [items]
  have active : ∀ b, (s.switchBanks.plan.banks.at b).state = .active ↔ b = s.editBank := fun b => by
    rw [banks, Bank.switched]
    by_cases hb : b = s.editBank
    · simp [hb]
    · by_cases was : (s.plan.banks.at b).state = .active <;> simp [hb, was, leaveActive_not_active]
  refine ⟨items ▸ h.wf, fun b => ?_, fun a b ha hb => ((active a).1 ha).trans ((active b).1 hb).symm,
    fun _ => ⟨s.editBank, (active _).2 rfl⟩⟩
  rw [banks, count, Bank.switched]
  by_cases hb : b = s.editBank
  · subst hb
    rw [decide_eq_true rfl, if_pos rfl]
    exact ⟨(h.banks _).bound, nofun, nofun, fun _ => valid, nofun⟩
  · rw [decide_eq_false hb, if_neg Bool.false_ne_true]
    split
    · next was => exact leaveActive_lawful (h.banks b) was
    · exact h.banks b

theorem switchPlan_planKept (s : State) : s.PlanKept (switchPlan s).state := by
  unfold switchPlan
  split
  · exact .refl s
  · split
    · exact .refl s
    · next valid => exact switchBanks_planKept s (by simpa using valid)

/-! ### The Destination Controller (R155 to R166) -/

theorem modDest_planKept (s : State) (d : Nat) (f : Destination → Destination) : s.PlanKept (s.modDest d f) := .elsewhere

theorem advance_planKept (s : State) (d : Nat) : s.PlanKept (s.advance d) := .aside (by simp) (by simp) (by simp)

theorem complete_planKept (s : State) (d : Nat) (t : Tote) (reason : CompletionReason) (item : Nat) :
    s.PlanKept (s.complete d t reason item) := .aside (by simp) (by simp) (by simp)

theorem confirmSwap_planKept (d : Nat) (s : State) : s.PlanKept (confirmSwap d s).state := by
  unfold confirmSwap
  repeat' split
  exacts [.refl s, advance_planKept s d, .refl s, .refl s, .refl s]

theorem setLimit_planKept (d : Nat) (limit : Option Nat) (s : State) : s.PlanKept (setLimit d limit s).state := by
  have released : ∀ u : State, u.PlanKept (u.releaseLimit d) := fun u => by
    unfold State.releaseLimit
    repeat' split
    exacts [.refl u, advance_planKept u d, .refl u, .refl u, .refl u]
  unfold setLimit
  split
  exacts [.refl s, (modDest_planKept s d _).trans (released _)]

theorem closeTote_planKept (d tote : Nat) (s : State) : s.PlanKept (closeTote d tote s).state := by
  unfold closeTote
  repeat' split
  exacts [.refl s, .refl s, .refl s, complete_planKept s d _ .forced 0, .refl s, .refl s]

/-! ### The Sorter Tracker (R133 to R147) -/

@[simp] theorem sendToE_bank (it : Item) (reason : ExcReason) : (it.sendToE reason).bank = it.bank := by
  unfold Item.sendToE
  split <;> rfl

theorem lap_bank (it : Item) (limit : Nat) : (it.lap limit).bank = it.bank := by
  unfold Item.lap
  dsimp only
  split
  · exact sendToE_bank _ _
  · rfl

theorem mergeWork_planKept (s : State) : s.PlanKept s.mergeWork := by
  have granted : ∀ l n carrier, s.PlanKept (s.grant l n carrier) := fun l n carrier =>
    (modLane_planKept s l fun x => { x with queue := x.queue.tail }).trans <|
      (modItem_planKept _ n fun it => it.load carrier s.line.clock).trans .elsewhere
  unfold State.mergeWork
  dsimp only
  repeat' split
  exacts [modItem_planKept s _ _ fun it _ => lap_bank it _, granted _ _ _, .refl s, .refl s]

theorem claim_planKept (s : State) (n : Nat) (it : Item) (d : Nat) (live : s.item n = some it) :
    s.PlanKept (s.claim n it d) := by
  have dropped : ∀ t w, s.PlanKept (s.acceptDrop n it d t w) := fun t w =>
    afterRetirement_planKept live (by rw [afterDrop_items]; rfl) (by rw [afterDrop_plan]; rfl)
      (by rw [afterDrop_line]; rfl) true
  unfold State.claim
  dsimp only
  repeat' split
  exacts [.refl s, .refl s, modItem_planKept s n _ fun x _ => sendToE_bank x _, complete_planKept s d _ _ n, dropped _ _]

theorem gateWork_planKept (s : State) (g : Nat) : s.PlanKept (s.gateWork g) := by
  unfold State.gateWork
  split
  · exact .refl s
  · next n it h =>
    have live := atGate_item h
    repeat' split
    exacts [.refl s, claim_planKept s n it _ live, .refl s,
      afterRetirement_planKept (u := (s.fireGate 16).closeRecord n it _) live rfl rfl rfl true, .refl s]

theorem setPause_planKept (s : State) (why : PauseCause) (cause : LineCause) : s.PlanKept (s.setPause why cause) := by
  unfold State.setPause
  split
  · exact .refl s
  · exact .elsewhere (by simp) (by simp) (by rw [offerLineState_line]; exact id)

theorem countDraw_planKept (s : State) (choices : Nat) : s.PlanKept (s.countDraw choices) :=
  .aside (by simp) (by simp) (by simp)

theorem pitch_planKept (s : State) : s.PlanKept s.pitch := by
  have act : ∀ (u : State) a, u.PlanKept (u.pitchAct a) := fun u a => by
    cases a with
    | indexMissing => exact (offer_planKept u _ _).trans (setPause_planKept _ _ _)
    | merge => exact mergeWork_planKept u
    | gate g => exact gateWork_planKept u g
  have moved : s.PlanKept { s with sorter := s.sorter.advance } := .elsewhere
  exact moved.trans <| (State.PlanKept.foldl act _ _).trans (countDraw_planKept _ _)

theorem indexEdge_planKept (s : State) : s.PlanKept s.indexEdge := by
  have slip : s.PlanKept s.slip := by
    have moved : ∀ u : State, u.PlanKept { u with sorter := { u.sorter with origin := 0, revolution := 0 } } :=
      fun _ => .elsewhere
    exact (offer_planKept s _ _).trans <| (moved _).trans (setPause_planKept _ _ _)
  unfold State.indexEdge
  repeat' split
  exacts [.elsewhere, slip, .elsewhere]

theorem cutSorter_planKept (s : State) : s.PlanKept s.cutSorter := by
  refine .of_binds ?_
  show (s.items.records.entries.map _).map _ = _
  rw [List.map_map]
  refine List.map_congr_left fun e _ => congrArg (Prod.mk e.1) ?_
  dsimp only [Function.comp]
  split
  · exact sendToE_bank _ _
  · rfl

/-! ### The Line Controller (R172 to R183) -/

/-- LINE STATE is offered, and the line does not leave SETUP. -/
theorem offerLineState_planKept (s : State) (line : LineControl) (cause : LineCause)
    (mode : line.mode.isSetup = false → s.line.mode.isSetup = false := by exact id) :
    s.PlanKept (State.offerLineState { s with line := line } cause) :=
  .elsewhere (by simp) (by simp) (by rw [offerLineState_line]; exact mode)

/-- R175, test 4: a line that starts has an ACTIVE bank. -/
theorem startLine_planKept (s : State) : s.PlanKept (startLine s).state := by
  have started : s.activeBank ≠ none → s.PlanKept s.start := fun active h => by
    have active := (activeBank_isSome_iff s).1 (Option.isSome_iff_ne_none.2 active)
    have running : State.PlanLawful { s with line := { s.line with mode := .running } } :=
      ⟨h.wf, h.banks, h.one, fun _ => active⟩
    exact offer_planKept _ _ _ running
  unfold startLine
  repeat' split
  exacts [.refl s, .refl s, .refl s, .refl s, .refl s, started ‹_›]

theorem clearPause_planKept (s : State) : s.PlanKept s.clearPause := by
  unfold State.clearPause
  split
  exacts [offerLineState_planKept s _ _, .refl s]

theorem cutLanes_planKept (s : State) : s.PlanKept s.cutLanes :=
  (State.PlanKept.foldl (fun u l => abort_planKept u l .cut .cut) _ s).trans <|
    (State.PlanKept.foldl (fun u l => abort_planKept u l .cut .cut) _ _).trans (countDraw_planKept _ _)

theorem stopAs_planKept (s : State) (kind : StopKind) (mode : s.line.mode.isSetup = false) :
    s.PlanKept (s.stopAs kind) := by
  have stopped := (offerLineState_planKept s { s.line with mode := .draining kind } .stop fun _ => mode).trans
    (endTest_planKept _)
  unfold State.stopAs
  cases kind with
  | drain => exact stopped
  | cut => exact stopped.trans <| (cutLanes_planKept _).trans (cutSorter_planKept _)

theorem stopLine_planKept (kind : Coded StopKind) (s : State) : s.PlanKept (stopLine kind s).state := by
  have stopped : s.line.mode.isSetup = false → ∀ kind, s.PlanKept (s.stop kind) := fun mode kind => by
    unfold State.stop
    split
    exacts [.refl s, stopAs_planKept s _ mode, stopAs_planKept s _ mode, .refl s, .refl s]
  unfold stopLine
  repeat' split
  exacts [.refl s, .refl s, stopped (by simpa using ‹¬ s.line.mode.isSetup = true›) _]

theorem configure_planKept (name : SettingName) (value : SettingValue) (s : State) :
    s.PlanKept (configure name value s).state := by
  have written : s.PlanKept (s.writeSetting name value) := by
    unfold State.writeSetting
    split <;> exact .elsewhere
  unfold configure
  repeat' split
  exacts [.refl s, .refl s, .refl s, written]

/-- R21, R111, R183: a warm reset leaves no item, and the line in SETUP. -/
theorem warm_planKept (s : State) : s.PlanKept s.warm := fun h => by
  have bank : ∀ b, s.warm.plan.banks.at b = (s.plan.banks.at b).warm := fun b => pair_at_map _ _ b
  refine ⟨rfl, fun b => ?_, fun a b ha hb => ?_, nofun⟩
  · rw [bank]
    exact warm_bank_lawful (h.banks b)
  · rw [bank, warm_active_iff] at ha hb
    exact h.one a b ha hb

theorem cold_planKept (s : State) (holdHigh : Bool) (strap : LinkRate) (pending : List Instr) (draws : Nat) :
    s.PlanKept (State.cold holdHigh strap pending draws) := fun _ =>
  (planLawful_iff _).1 (by decide : (State.cold false .baud115200 [] 0).planLawful = true)

/-! ### The clock and the link (R171, R184 to R191) -/

theorem tick_planKept (s : State) : s.PlanKept s.tick := by
  have waits : s.PlanKept s.countWaits := by
    unfold State.countWaits
    split
    exacts [.refl s, .elsewhere]
  exact waits.trans <| (State.PlanKept.elsewhere).trans (countDraw_planKept _ _)

theorem serve_planKept (s : State) (tag kind : Nat) (act : State → Answer)
    (h : ∀ u : State, u.PlanKept (act u).state) : s.PlanKept (s.serve tag kind act) := by
  have taken : s.PlanKept s.frameTaken := .elsewhere
  unfold State.serve
  dsimp only
  split
  · exact taken.trans (.aside (by simp) (by simp) (by simp))
  · exact taken.trans <| (h _).trans (.aside (by simp) (by simp) (by simp))

/-! ### Every step -/

theorem planKept_of_state_eq {act : State → Answer} (h : ∀ u, (act u).state = u) (u : State) :
    u.PlanKept (act u).state := by
  rw [h]; exact .refl u

theorem request_planKept (c : Instr) (tag kind : Nat) (act : State → Answer) (h : requestAct c = some (tag, kind, act))
    (u : State) : u.PlanKept (act u).state := by
  cases c with
  | readItem tag item => cases h; exact planKept_of_state_eq (readItem_state item) u
  | withdrawItem tag item => cases h; exact withdrawItem_planKept item u
  | forceGrade tag item grade => cases h; exact forceGrade_planKept item grade u
  | loadReturn tag load => cases h; exact loadReturn_planKept load u
  | addTags =>
    cases h
    unfold addTags
    repeat' split
    all_goals exact .elsewhere
  | amendReturn =>
    cases h
    unfold amendReturn
    repeat' split
    all_goals exact .elsewhere
  | removeReturn =>
    cases h
    unfold removeReturn
    repeat' split
    all_goals exact .elsewhere
  | readReturn tag ra line => cases h; exact planKept_of_state_eq (readReturn_state ra line) u
  | openParcel tag lane account pairs => cases h; exact openParcel_planKept lane account pairs u
  | closeParcel tag lane => cases h; exact closeParcel_planKept lane u
  | abortLane tag lane => cases h; unfold abortLane; split; exacts [.refl u, abort_planKept u _ _ _]
  | enrolStation =>
    cases h
    unfold enrolStation
    repeat' split
    all_goals exact .elsewhere
  | retireStation =>
    cases h
    unfold retireStation
    repeat' split
    all_goals exact .elsewhere
  | readStation => cases h; unfold readStation; split <;> exact .elsewhere
  | writeCheck => cases h; unfold writeCheck; split <;> exact writeBank_planKept _ _ u
  | writeList | writeProgram | writeThresholds | writeMap => cases h; exact writeBank_planKept _ _ u
  | clearBank => cases h; exact clearBank_planKept u
  | validatePlan => cases h; exact validatePlan_planKept u
  | switchPlan => cases h; exact switchPlan_planKept u
  | setShadow => cases h; unfold setShadow; split <;> exact .elsewhere
  | addTote =>
    cases h
    unfold addTote
    repeat' split
    all_goals exact .elsewhere
  | confirmSwap tag dest => cases h; exact confirmSwap_planKept dest u
  | setLimit tag dest limit => cases h; exact setLimit_planKept dest limit u
  | closeTote tag dest tote => cases h; exact closeTote_planKept dest tote u
  | dropChain => cases h; unfold dropChain; split <;> exact .elsewhere
  | readDestination tag dest => cases h; exact planKept_of_state_eq (readDestination_state dest) u
  | startLine => cases h; exact startLine_planKept u
  | pauseLine => cases h; exact setPause_planKept u _ _
  | resumeLine => cases h; exact clearPause_planKept u
  | stopLine tag kind => cases h; exact stopLine_planKept kind u
  | configure tag name value => cases h; exact configure_planKept name value u
  | readSetting tag name => cases h; exact planKept_of_state_eq (readSetting_state name) u
  | fetchEvents => cases h; unfold fetchEvents; split <;> exact .elsewhere
  | warmReset | readStatus | unknownRequest | malformedRequest => cases h; exact .refl u
  | _ => cases h

/-- Whatever the command, it keeps the law of the plan banks. -/
theorem exec_planKept (c : Instr) (s : State) : ∃ t, exec c s = .next t ∧ s.PlanKept t := by
  cases hc : requestAct c with
  | some r =>
    obtain ⟨tag, kind, act⟩ := r
    exact ⟨_, exec_request c tag kind act hc s, serve_planKept s tag kind act (request_planKept c tag kind act hc)⟩
  | none =>
    cases c with
    | coldReset holdHigh strap => exact ⟨_, rfl, cold_planKept s holdHigh strap _ _⟩
    | warmResetActs =>
      refine ⟨_, rfl, ?_⟩
      split
      exacts [warm_planKept s, .refl s]
    | hold high =>
      refine ⟨_, rfl, ?_⟩
      unfold State.holdLevel
      split
      exacts [.refl s, offerLineState_planKept s _ _]
    | pitch => exact ⟨_, rfl, pitch_planKept s⟩
    | index => exact ⟨_, rfl, indexEdge_planKept s⟩
    | sweepTimer => exact ⟨_, rfl, sweepExpiry_planKept s⟩
    | turnTimeout partialAnswer => exact ⟨_, rfl, turnPassed_planKept s partialAnswer⟩
    | manifestWaitExpiry ra => exact ⟨_, rfl, manifestExpiry_planKept s ra⟩
    | decisionWaitExpiry lane => exact ⟨_, rfl, decisionExpiry_planKept s lane⟩
    | interbyteTimeout | frameDiscarded | replySent | sweepFrameSent => exact ⟨_, rfl, .elsewhere⟩
    | busy tag kind =>
      refine ⟨_, rfl, ?_⟩
      split
      · exact (State.PlanKept.elsewhere (t := s.frameTaken)).trans (.aside (by simp) (by simp) (by simp))
      · exact .refl s
    | nothing a => exact ⟨_, rfl, takeAnswer_planKept s a _ _ _ fun _ u => .refl u⟩
    | presented a => exact ⟨_, rfl, takeAnswer_planKept s a _ _ _ fun x u => presented_planKept u x.lane⟩
    | parcelDone a => exact ⟨_, rfl, takeAnswer_planKept s a _ _ _ fun x u => parcelDone_planKept u x.lane⟩
    | atEnd a => exact ⟨_, rfl, takeAnswer_planKept s a _ _ _ fun x u => atEnd_planKept u x.lane a.ticket⟩
    | tagReading a | weight a | vision a =>
      exact ⟨_, rfl, takeAnswer_planKept s a _ _ _ fun x u => deliver_planKept u x _ _ _ fun _ => rfl⟩
    | garbledAnswer => exact ⟨_, rfl, takeGarbled_planKept s⟩
    | answerOutsideTurn => exact ⟨_, rfl, .refl s⟩
    | _ => cases hc

theorem step_planKept {s t : State} (h : step s = .next t) : s.PlanKept t := by
  unfold step at h
  split at h
  · cases h
    exact tick_planKept s
  · next c rest _ =>
    obtain ⟨u, hu, kept⟩ := exec_planKept c { s with pending := rest }
    rw [hu] at h
    cases h
    exact (State.PlanKept.elsewhere (t := { s with pending := rest })).trans kept

/-- Settles O58: every act of a step keeps the counts, the states and the marks of the plan banks in agreement. -/
theorem everyStepKeepsThePlanLawful : Obligations.EveryStepKeepsThePlanLawful := fun s t lawful h =>
  (planLawful_iff t).2 (step_planKept h ((planLawful_iff s).1 lawful))

end Sys2Proof.Machine
end

section
/-! The requests of the Plan Store (R97 to R108): the writes and their refusals, CLEAR BANK, VALIDATE PLAN, SWITCH PLAN and
SET SHADOW. -/

namespace Sys2Proof.Machine

/-! ### A write to the edit bank (R99) -/

section Write

variable {s : State}

theorem writeBank_bankBusy (h : s.edit.state = .draining) (inRange : Bool) (f : Bank → Bank) :
    s.writeBank inRange f = s.planRefuse .bankBusy := if_pos h

theorem writeBank_outOfRange (h : s.edit.state ≠ .draining) (f : Bank → Bank) :
    s.writeBank false f = s.planRefuse .outOfRange := if_neg h

theorem writeBank_taken (h : s.edit.state ≠ .draining) (f : Bank → Bank) :
    s.writeBank true f = (s.modBank s.editBank fun b => (f b).written).planDone := if_neg h

/-- A request whose act refuses it leaves everything but the port, and its reply carries the report (R97; log entry 8). -/
theorem exec_planRefused (c : Instr) {tag kind : Nat} {act : State → Answer} (hc : requestAct c = some (tag, kind, act))
    (h : s.serving = false) {reason : RefusalReason} (acts : act s.frameTaken = s.frameTaken.planRefuse reason) :
    exec c s = .next (s.answeredRefused tag kind reason (.plan s.planReport)) :=
  exec_refused c hc h acts

/-- A write that is in range goes to the edit bank, which it leaves written (R97, R99). -/
theorem exec_written (c : Instr) {tag kind : Nat} {act : State → Answer} (hc : requestAct c = some (tag, kind, act))
    (h : s.serving = false) (free : s.edit.state ≠ .draining) {write : Bank → Bank} {u : State}
    (hu : u = s.modBank s.editBank fun b =>
      { write b with valid := false, state := if b.state = .empty then .standby else b.state })
    (acts : act s.frameTaken = s.frameTaken.writeBank true write)
    (state : ∀ b, (write b).state = b.state := by intro _; rfl) :
    exec c s = .next (u.answered tag kind (.plan u.planReport)) := by
  have written : ∀ b, (write b).written =
      { write b with valid := false, state := if b.state = .empty then .standby else b.state } := fun b => by
    rw [Bank.written, state]
  refine exec_done c hc h u (by rw [hu]; rfl) ?_
  rw [acts, writeBank_taken (s := s.frameTaken) free, hu]
  simp only [written]
  rfl

end Write

/-! ### The ranges of the writes (R100 to R102) -/

theorem coded_eq_some_iff {α : Type} (c : Coded α) (a : α) : coded c = some a ↔ c = .known a := by
  cases c <;> simp [coded]

theorem amountOk_of_penalty {action : FailAction} (h : ∀ k, action = .penalty k → 1 ≤ k ∧ k ≤ 255) :
    FailAction.amountOk action = true := by
  cases action with
  | penalty k => simpa [FailAction.amountOk] using h k rfl
  | capB | capC | capD | quarantine => rfl

/-- The fields of a check whose codes are known and whose limits and amount are in range (R100). -/
theorem checkOf_of_known {source : Source} {scope : Scope} {test : TestKind} {lower upper : Nat} {action : FailAction}
    {missing : MissingPolicy} (limits : test = .within → lower ≤ upper) (amount : FailAction.amountOk action = true) :
    checkOf ⟨.known source, .known scope, .known test, lower, upper, .known action, .known missing⟩ =
      some ⟨source, scope, limitsOf test lower upper, action, missing⟩ := by
  have ranged : ¬ (test = .within ∧ upper < lower) := fun h => absurd (limits h.1) (Nat.not_le.2 h.2)
  simp only [checkOf, coded, Bool.and_eq_true, decide_eq_true_eq, if_neg ranged, if_pos amount]

/-- What the fields of a check must be, for there to be one (R100). -/
theorem known_of_checkOf {f : CheckFields} {check : Check} (h : checkOf f = some check) :
    ∃ source scope test action missing, f.source = .known source ∧ f.scope = .known scope ∧ f.test = .known test ∧
      f.action = .known action ∧ f.missing = .known missing ∧ ¬ (test = .within ∧ f.upper < f.lower) ∧
      FailAction.amountOk action = true := by
  unfold checkOf at h
  split at h
  · next source scope test action missing hsource hscope htest haction hmissing =>
    split at h
    · cases h
    · next ranged =>
      split at h
      · next amount =>
        simp only [coded_eq_some_iff] at hsource hscope htest haction hmissing
        exact ⟨source, scope, test, action, missing, hsource, hscope, htest, haction, hmissing, by simpa using ranged,
          amount⟩
      · cases h
  · cases h

/-- What puts the fields of a check out of range (R100). -/
theorem checkOf_eq_none {f : CheckFields} (h : (∃ c, f.source = .beyond c) ∨ (∃ c, f.scope = .beyond c) ∨
    (∃ c, f.test = .beyond c) ∨ (∃ c, f.action = .beyond c) ∨ (∃ c, f.missing = .beyond c) ∨
    f.action = .known (.penalty 0) ∨ (f.test = .known .within ∧ f.upper < f.lower)) : checkOf f = none := by
  cases found : checkOf f with
  | none => rfl
  | some check =>
    obtain ⟨_, _, _, _, _, source, scope, test, action, missing, ranged, amount⟩ := known_of_checkOf found
    rw [source, scope, test, action, missing] at h
    rcases h with ⟨_, h⟩ | ⟨_, h⟩ | ⟨_, h⟩ | ⟨_, h⟩ | ⟨_, h⟩ | h | ⟨h, below⟩ <;> cases h
    · cases amount
    · exact absurd ⟨rfl, below⟩ ranged

/-- A destination byte of the map in its range (R102). -/
theorem writeCell_of_inRange {cell : Nat × Nat} (h : cell.2 ≤ 16) (map : Table Dest) :
    writeCell map cell = map.put cell.1 (if cell.2 = 16 then .gateE else .gate cell.2) := by
  unfold writeCell destOf
  by_cases e : cell.2 = 16
  · simp [e]
  · simp [e, show cell.2 < 16 by omega]

theorem listInRange_iff (number : Nat) (entries : List Nat) : listInRange number entries = true ↔
    number ≤ 31 ∧ 1 ≤ entries.length ∧ entries.length ≤ 24 ∧ ∀ c ∈ entries, c ≤ 127 := by
  simp [listInRange, and_assoc]

theorem programInRange_iff (category list group nominal pieces : Nat) :
    programInRange category list group nominal pieces = true ↔ category ≤ 31 ∧ list ≤ 31 ∧ group ≤ 3 ∧ 1 ≤ nominal ∧
      nominal ≤ 30000 ∧ 1 ≤ pieces ∧ pieces ≤ 8 := by
  simp [programInRange, and_assoc]

theorem cellsInRange_iff (cells : List (Nat × Nat)) : cellsInRange cells = true ↔
    1 ≤ cells.length ∧ cells.length ≤ 20 ∧ ∀ c ∈ cells, c.1 ≤ 19 ∧ c.2 ≤ 16 := by
  simp [cellsInRange, and_assoc]

/-! ### The writes that are taken (R99 to R102) -/

theorem writeCheck_of_known {number : Nat} {fields : CheckFields} {check : Check} (range : number ≤ 127)
    (known : checkOf fields = some check) (s : State) : writeCheck number fields s =
      s.writeBank true fun b => { b with checks := b.checks.put number check } := by
  simp only [writeCheck, known, decide_eq_true range]

/-- Settles O35: each write is in range, and goes to the edit bank. -/
theorem planWritesGoToTheEditBank : Obligations.PlanWritesGoToTheEditBank := by
  intro s tag write u h free hu
  refine ⟨?_, ?_, ?_, ?_, ?_⟩
  · intro number source scope test lower upper action missing range ranged amount limits hlimits hwrite
    have stored : limits = limitsOf test lower upper := by rw [hlimits]; cases test <;> rfl
    have known := checkOf_of_known (source := source) (scope := scope) (missing := missing) ranged
      (amountOk_of_penalty amount)
    rw [← stored] at known
    subst hwrite
    exact exec_written (.writeCheck tag number _) rfl h free hu (writeCheck_of_known range known _)
  · intro number entries number_le one most checks hwrite
    subst hwrite
    have range := (listInRange_iff number entries).2 ⟨number_le, one, most, checks⟩
    exact exec_written (.writeList tag number entries) rfl h free hu (by rw [writeList, range])
  · intro category list group nominal pieces hc hl hg hn hn' hp hp' hwrite
    subst hwrite
    have range := (programInRange_iff category list group nominal pieces).2 ⟨hc, hl, hg, hn, hn', hp, hp'⟩
    exact exec_written (.writeProgram tag category list group nominal pieces) rfl h free hu (by rw [writeProgram, range])
  · intro t1 t2 t3 h1 h2 h3 hwrite
    subst hwrite
    exact exec_written (.writeThresholds tag t1 t2 t3) rfl h free hu (by simp only [writeThresholds, h1, h2, h3]; rfl)
  · intro cells one most ranges hwrite
    subst hwrite
    have range := (cellsInRange_iff cells).2 ⟨one, most, ranges⟩
    have cell : ∀ map : Table Dest, cells.foldl writeCell map =
        cells.foldl (fun m c => m.put c.1 (if c.2 = 16 then .gateE else .gate c.2)) map := fun map =>
      List.foldl_ext _ _ _ fun m c hc => writeCell_of_inRange (ranges c hc).2 m
    exact exec_written (.writeMap tag cells) rfl h free hu (by simp only [writeMap, range, cell])

/-! ### The refusals (R99 to R102, R104, R105) -/

section Refused

variable {s : State}

theorem writeCheck_bankBusy (h : s.edit.state = .draining) (number : Nat) (fields : CheckFields) :
    writeCheck number fields s = s.planRefuse .bankBusy := by
  unfold writeCheck
  split <;> exact writeBank_bankBusy h _ _

theorem writeCheck_outOfRange (h : s.edit.state ≠ .draining) {number : Nat} {fields : CheckFields}
    (beyond : 127 < number ∨ checkOf fields = none) : writeCheck number fields s = s.planRefuse .outOfRange := by
  unfold writeCheck
  split
  · exact writeBank_outOfRange h _
  · next known =>
    have number : decide (number ≤ 127) = false :=
      decide_eq_false (Nat.not_le.2 (beyond.resolve_right (by rw [known]; nofun)))
    rw [number]
    exact writeBank_outOfRange h _

theorem writeBank_outOfRange_of {inRange : Bool} (h : s.edit.state ≠ .draining) (beyond : ¬ inRange = true)
    (f : Bank → Bank) : s.writeBank inRange f = s.planRefuse .outOfRange := by
  rw [Bool.eq_false_of_not_eq_true beyond]
  exact writeBank_outOfRange h f

theorem switchPlan_notValid (h : s.edit.state ≠ .draining) (valid : s.edit.valid = false) :
    switchPlan s = s.planRefuse .notValid := by
  simp [switchPlan, h, valid]

theorem switchPlan_taken (h : s.edit.state ≠ .draining) (valid : s.edit.valid = true) :
    switchPlan s = s.switchBanks.planDone := by
  simp [switchPlan, h, valid]

end Refused

/-- Settles O36: BANK BUSY is tested first, then the ranges or the VALID mark. -/
theorem planRequestsRefused : Obligations.PlanRequestsRefused := by
  intro s tag h
  refine ⟨fun busy => ⟨fun number fields => ?_, fun number entries => ?_, fun category list group nominal pieces => ?_,
    fun t1 t2 t3 => ?_, fun cells => ?_, ?_, ?_⟩, fun free => ⟨fun number fields beyond => ?_,
    fun number entries beyond => ?_, fun category list group nominal pieces beyond => ?_, fun cells beyond => ?_,
    fun valid => ?_⟩⟩
  · exact exec_planRefused (.writeCheck tag number fields) rfl h (writeCheck_bankBusy (s := s.frameTaken) busy _ _)
  · exact exec_planRefused (.writeList tag number entries) rfl h (writeBank_bankBusy (s := s.frameTaken) busy _ _)
  · exact exec_planRefused (.writeProgram tag category list group nominal pieces) rfl h
      (writeBank_bankBusy (s := s.frameTaken) busy _ _)
  · exact exec_planRefused (.writeThresholds tag t1 t2 t3) rfl h (writeBank_bankBusy (s := s.frameTaken) busy _ _)
  · exact exec_planRefused (.writeMap tag cells) rfl h (writeBank_bankBusy (s := s.frameTaken) busy _ _)
  · exact exec_planRefused (.validatePlan tag) rfl h (if_pos busy)
  · exact exec_planRefused (.switchPlan tag) rfl h (if_pos busy)
  · exact exec_planRefused (.writeCheck tag number fields) rfl h
      (writeCheck_outOfRange (s := s.frameTaken) free (beyond.imp_right checkOf_eq_none))
  · refine exec_planRefused (.writeList tag number entries) rfl h
      (writeBank_outOfRange_of (s := s.frameTaken) free (fun range => ?_) _)
    obtain ⟨hn, one, most, checks⟩ := (listInRange_iff _ _).1 range
    rcases beyond with beyond | rfl | beyond | ⟨c, hc, beyond⟩
    · exact absurd hn (Nat.not_le.2 beyond)
    · cases one
    · exact absurd most (Nat.not_le.2 beyond)
    · exact absurd (checks c hc) (Nat.not_le.2 beyond)
  · refine exec_planRefused (.writeProgram tag category list group nominal pieces) rfl h
      (writeBank_outOfRange_of (s := s.frameTaken) free (fun range => ?_) _)
    have inRange := (programInRange_iff _ _ _ _ _).1 range
    omega
  · refine exec_planRefused (.writeMap tag cells) rfl h
      (writeBank_outOfRange_of (s := s.frameTaken) free (fun range => ?_) _)
    obtain ⟨one, most, ranges⟩ := (cellsInRange_iff _).1 range
    rcases beyond with rfl | beyond | ⟨c, hc, beyond⟩
    · cases one
    · exact absurd most (Nat.not_le.2 beyond)
    · have := ranges c hc
      omega
  · exact exec_planRefused (.switchPlan tag) rfl h (switchPlan_notValid (s := s.frameTaken) free valid)

/-! ### CLEAR BANK (R103) -/

theorem clearBank_taken {s : State} (h : s.edit.state ≠ .draining) :
    clearBank s = (s.modBank s.editBank Bank.cleared).planDone := if_neg h

theorem edit_cleared (s : State) : (s.modBank s.editBank Bank.cleared).edit = s.edit.cleared := by
  unfold State.edit State.editBank
  by_cases h : s.plan.banks.b0.state = .active <;>
    simp [State.modBank, Pair.modify, Pair.at, h, Bank.cleared, Bank.cold]

/-- Settles O37: the edit bank is emptied, and an EMPTY bank is not VALID. -/
theorem clearBankEmptiesTheEditBank : Obligations.ClearBankEmptiesTheEditBank := by
  intro s tag h
  refine ⟨fun busy => exec_planRefused (.clearBank tag) rfl h (if_pos busy), fun free => ⟨fun lawful => ?_, ?_⟩⟩
  · have law := (planLawful_iff s).1 lawful
    have bank := law.banks s.editBank
    exact bank.bound.trans (bank.unbound law.edit free)
  · rintro u rfl
    have edit := edit_cleared s
    exact ⟨exec_done (.clearBank tag) rfl h (s.modBank s.editBank Bank.cleared) rfl
        (clearBank_taken (s := s.frameTaken) free),
      fun again => exec_planRefused (s := s.modBank s.editBank Bank.cleared) (.switchPlan again) rfl h
        (switchPlan_notValid (s := (s.modBank s.editBank Bank.cleared).frameTaken)
          (by show (s.modBank s.editBank Bank.cleared).edit.state ≠ .draining; rw [edit]; nofun)
          (by show (s.modBank s.editBank Bank.cleared).edit.valid = false; rw [edit]; rfl))⟩

/-! ### VALIDATE PLAN (R94, R104) -/

section Validate

variable {b : Bank}

theorem categoryFault_eq_none_iff {c : Nat} : b.categoryFault c = none ↔ b.programOk c := by
  unfold Bank.categoryFault Bank.programOk
  cases b.programs.lookup c <;> simp

theorem listFault_eq_none_iff {e : Nat × List Nat} : b.listFault e = none ↔ b.listOk e.2 := by
  simp [Bank.listFault, Bank.listOk]

theorem listFault_of_not_ok {e : Nat × List Nat} (h : ¬ b.listOk e.2) : b.listFault e = some (.noCheck, e.1) :=
  if_neg fun all => h fun c hc => List.all_eq_true.1 all c hc

/-- R94: the sources that a PIECE scope may stand on. -/
theorem scopeAllowed_iff (c : Check) : scopeAllowed c.source c.scope = true ↔ scopeOk c := by
  unfold scopeAllowed scopeOk
  cases c.scope <;> cases c.source <;> simp [visionScore]

theorem checkFault_eq_none_iff {e : Nat × Check} : checkFault e = none ↔ scopeOk e.2 := by
  simp [checkFault, scopeAllowed_iff]

theorem checkFault_of_not_ok {e : Nat × Check} (h : ¬ scopeOk e.2) : checkFault e = some (.badScope, e.1) :=
  if_neg fun allowed => h ((scopeAllowed_iff e.2).1 allowed)

theorem thresholdsOk_iff : b.thresholdsOk = true ↔ b.levelsOk := by
  unfold Bank.thresholdsOk Bank.levelsOk
  cases b.thresholds <;> simp

theorem cellFault_eq_none_iff {k : Nat} : b.cellFault k = none ↔ b.map.has k = true := by
  simp [Bank.cellFault]

/-- The first of a list that a test finds at fault. -/
theorem findSome?_of_first {α β : Type} {f : α → Option β} {l before after : List α} {a : α} {x : β}
    (hl : l = before ++ a :: after) (clear : ∀ y ∈ before, f y = none) (fault : f a = some x) : l.findSome? f = some x :=
  List.findSome?_eq_some_iff.2 ⟨before, a, after, hl, fault, clear⟩

/-- The first number below a bound that a test finds at fault. -/
theorem findSome?_range_of_first {β : Type} {f : Nat → Option β} {n c : Nat} {x : β} (hc : c < n)
    (clear : ∀ k, k < c → f k = none) (fault : f c = some x) : (List.range n).findSome? f = some x := by
  obtain ⟨d, rfl⟩ := Nat.exists_eq_add_of_lt hc
  refine findSome?_of_first (before := List.range c) (after := (List.range d).map (c + 1 + ·)) ?_
    (fun k hk => clear k (List.mem_range.1 hk)) fault
  rw [show c + d + 1 = c + 1 + d by omega, List.range_add, List.range_succ, List.append_assoc]
  rfl

theorem programTest_passes (h : b.programsOk) : (List.range 32).findSome? b.categoryFault = none :=
  List.findSome?_eq_none_iff.2 fun c hc => categoryFault_eq_none_iff.2 (h c (List.mem_range.1 hc))

theorem listTest_passes (h : b.listsOk) : b.lists.entries.findSome? b.listFault = none :=
  List.findSome?_eq_none_iff.2 fun e he => listFault_eq_none_iff.2 (h e he)

theorem scopeTest_passes (h : b.scopesOk) : b.checks.entries.findSome? checkFault = none :=
  List.findSome?_eq_none_iff.2 fun e he => checkFault_eq_none_iff.2 (h e he)

theorem levelTest_passes (h : b.levelsOk) : b.thresholdsFault = none := if_pos (thresholdsOk_iff.2 h)

/-- The program of the first category at fault, or its list (R104, test 1). -/
theorem firstFault_of_category {c : Nat} {fault : FaultKind × Nat} (hc : c < 32) (clear : ∀ k, k < c → b.programOk k)
    (h : b.categoryFault c = some fault) : b.firstFault = some fault := by
  rw [Bank.firstFault, findSome?_range_of_first hc (fun k hk => categoryFault_eq_none_iff.2 (clear k hk)) h,
    Option.some_or]

theorem firstFault_of_list (programs : b.programsOk) {fault : FaultKind × Nat}
    (h : b.lists.entries.findSome? b.listFault = some fault) : b.firstFault = some fault := by
  rw [Bank.firstFault, programTest_passes programs, h, Option.none_or, Option.some_or]

theorem firstFault_of_scope (programs : b.programsOk) (lists : b.listsOk) {fault : FaultKind × Nat}
    (h : b.checks.entries.findSome? checkFault = some fault) : b.firstFault = some fault := by
  rw [Bank.firstFault, programTest_passes programs, listTest_passes lists, h, Option.none_or, Option.none_or,
    Option.some_or]

theorem firstFault_of_levels (programs : b.programsOk) (lists : b.listsOk) (scopes : b.scopesOk) (h : ¬ b.levelsOk) :
    b.firstFault = some (.thresholds, 0) := by
  have fault : b.thresholdsFault = some (.thresholds, 0) := if_neg fun ok => h (thresholdsOk_iff.1 ok)
  rw [Bank.firstFault, programTest_passes programs, listTest_passes lists, scopeTest_passes scopes, fault]
  rfl

/-- The first four tests passed, the map decides (R104). -/
theorem firstFault_of_cells (programs : b.programsOk) (lists : b.listsOk) (scopes : b.scopesOk) (levels : b.levelsOk) :
    b.firstFault = (List.range 20).findSome? b.cellFault := by
  rw [Bank.firstFault, programTest_passes programs, listTest_passes lists, scopeTest_passes scopes,
    levelTest_passes levels]
  rfl

theorem exec_validatePlan_passed {s : State} (tag : Nat) (h : s.serving = false) (free : s.edit.state ≠ .draining)
    (passed : s.edit.firstFault = none) {u : State} (hu : u = s.modBank s.editBank fun x => { x with valid := true }) :
    exec (.validatePlan tag) s = .next (u.answered tag 86 (.validated none u.planReport)) := by
  subst hu
  refine exec_done (.validatePlan tag) rfl h (s.modBank s.editBank fun x => { x with valid := true }) rfl ?_
  have passed : s.frameTaken.edit.firstFault = none := passed
  rw [validatePlan, if_neg (show s.frameTaken.edit.state ≠ .draining from free), passed]
  rfl

theorem exec_validatePlan_failed {s : State} (tag : Nat) (h : s.serving = false) (free : s.edit.state ≠ .draining)
    {fault : FaultKind × Nat} (failed : s.edit.firstFault = some fault) {u : State}
    (hu : u = s.modBank s.editBank fun x => { x with valid := false }) :
    exec (.validatePlan tag) s = .next (u.answered tag 86 (.validated (some fault) u.planReport)) := by
  subst hu
  refine exec_done (.validatePlan tag) rfl h (s.modBank s.editBank fun x => { x with valid := false }) rfl ?_
  have failed : s.frameTaken.edit.firstFault = some fault := failed
  rw [validatePlan, if_neg (show s.frameTaken.edit.state ≠ .draining from free), failed]
  rfl

end Validate

/-- Settles O38, test by test of R104. -/
theorem validatePlanFindsTheFirstFault : Obligations.ValidatePlanFindsTheFirstFault := by
  rintro s tag b h rfl free
  refine ⟨fun programs lists scopes levels cells u hu => ?_, fun u hu => ⟨fun c hc clear undefined => ?_,
    fun c p hc clear defined noList => ?_, fun programs before e after he clear fault => ?_,
    fun programs lists before e after he clear fault => ?_, fun programs lists scopes fault => ?_,
    fun programs lists scopes levels c hc clear fault => ?_⟩⟩
  · refine exec_validatePlan_passed tag h free ?_ hu
    rw [firstFault_of_cells programs lists scopes levels]
    exact List.findSome?_eq_none_iff.2 fun k hk => cellFault_eq_none_iff.2 (cells k (List.mem_range.1 hk))
  · exact exec_validatePlan_failed tag h free
      (firstFault_of_category hc clear (by rw [Bank.categoryFault, undefined])) hu
  · exact exec_validatePlan_failed tag h free
      (firstFault_of_category hc clear (by simp only [Bank.categoryFault, defined, noList]; rfl)) hu
  · exact exec_validatePlan_failed tag h free (firstFault_of_list programs
      (findSome?_of_first he (fun x hx => listFault_eq_none_iff.2 (clear x hx)) (listFault_of_not_ok fault))) hu
  · exact exec_validatePlan_failed tag h free (firstFault_of_scope programs lists
      (findSome?_of_first he (fun x hx => checkFault_eq_none_iff.2 (clear x hx)) (checkFault_of_not_ok fault))) hu
  · exact exec_validatePlan_failed tag h free (firstFault_of_levels programs lists scopes fault) hu
  · refine exec_validatePlan_failed tag h free ?_ hu
    rw [firstFault_of_cells programs lists scopes levels]
    exact findSome?_range_of_first hc (fun k hk => cellFault_eq_none_iff.2 (clear k hk))
      (by rw [Bank.cellFault, fault]; rfl)

/-! ### SWITCH PLAN (R98, R105) -/

section Switch

variable {s : State}

theorem editBank_of_none (h : s.activeBank = none) : s.editBank = .b0 := by
  refine if_neg fun b0 => ?_
  have := (activeBank_isSome_iff s).2 ⟨.b0, b0⟩
  rw [h] at this
  cases this

/-- Whatever becomes of the bank that was ACTIVE, the new one is ACTIVE and the other the edit bank (R98, R105). -/
theorem switched_banks {t : State} {new : BankId} (active : (t.plan.banks.at new).state = .active)
    (left : (t.plan.banks.at (otherBank new)).state ≠ .active) :
    t.activeBank = some new ∧ t.editBank = otherBank new := by
  unfold State.activeBank State.editBank
  cases new with
  | b0 => exact ⟨if_pos active, if_pos active⟩
  | b1 => exact ⟨(if_neg left).trans (if_pos active), if_neg left⟩

theorem switchBanks_of_active {a : BankId} (h : s.activeBank = some a) {u : State}
    (hu : u = (s.modBank a Bank.leaveActive).modBank s.editBank fun b => { b with state := .active }) :
    s.switchBanks = u.offer 0 (.planSwitched s.editBank a (u.plan.banks.at a).state (u.plan.banks.at a).bound) := by
  have other : otherBank s.editBank = a := by rw [editBank_of_activeBank h]; cases a <;> rfl
  simp only [State.switchBanks, h, other, hu, Option.map_some, Option.getD_some]

theorem switchBanks_of_none (h : s.activeBank = none) {u : State}
    (hu : u = s.modBank .b0 fun b => { b with state := .active }) :
    s.switchBanks = u.offer 0 (.planSwitched .b0 .b1 (u.plan.banks.at .b1).state (u.plan.banks.at .b1).bound) := by
  simp only [State.switchBanks, h, editBank_of_none h, hu, Option.map_none, Option.getD_none]
  rfl

@[simp] theorem switchBanks_port (s : State) : s.switchBanks.port = s.port := by
  unfold State.switchBanks
  cases s.activeBank <;> simp

/-- A switch does not look at the Message Port. -/
theorem switchBanks_frameTaken (s : State) : s.frameTaken.switchBanks = s.switchBanks.frameTaken := by
  have taken : s.switchBanks.frameTaken = { s.switchBanks with port := s.frameTaken.port } := by
    unfold State.frameTaken
    rw [switchBanks_port]
  rw [taken]
  cases active : s.activeBank with
  | none =>
    rw [switchBanks_of_none active rfl, switchBanks_of_none (s := s.frameTaken) active rfl]
    exact offer_with_port (s.modBank .b0 fun b => { b with state := .active }) s.frameTaken.port 0 _
  | some a =>
    rw [switchBanks_of_active active rfl, switchBanks_of_active (s := s.frameTaken) active rfl]
    exact offer_with_port ((s.modBank a Bank.leaveActive).modBank s.editBank fun b => { b with state := .active })
      s.frameTaken.port 0 _

theorem exec_switchPlan_taken {v : State} (tag : Nat) (h : s.serving = false) (free : s.edit.state ≠ .draining)
    (valid : s.edit.valid = true) (hv : s.switchBanks = v) :
    exec (.switchPlan tag) s = .next (v.answered tag 87 (.plan v.planReport)) := by
  subst hv
  refine exec_done (.switchPlan tag) rfl h s.switchBanks (switchBanks_port s) ?_
  rw [switchPlan_taken (s := s.frameTaken) free valid, switchBanks_frameTaken]
  rfl

end Switch

/-- Settles O39: the switch as its two banks and PLAN SWITCHED, the setting as it is written. -/
theorem switchPlanAndSetShadow : Obligations.SwitchPlanAndSetShadow := by
  intro s tag h
  refine ⟨fun free valid => ⟨fun a active u v hu hv => ?_, fun inactive u v hu hv => ?_⟩, fun v u hu => ?_, fun code => ?_,
    fun a => editBank_of_activeBank, editBank_of_none⟩
  · have switched : s.switchBanks = v := (switchBanks_of_active active hu).trans hv.symm
    have edit := editBank_of_activeBank active
    have plan : v.plan = u.plan := by rw [hv, offer_plan]
    have apart : a ≠ s.editBank := by rw [edit]; cases a <;> decide
    have new : (v.plan.banks.at s.editBank).state = .active := by
      rw [plan, hu, modBank_plan]
      simp
    have old : (v.plan.banks.at a).state ≠ .active := by
      rw [plan, hu, modBank_plan]
      simp only [pair_at_modify_other _ _ _ _ apart.symm]
      rw [modBank_plan]
      simp only [pair_at_modify_self]
      exact leaveActive_not_active _
    have other : otherBank s.editBank = a := by rw [edit]; cases a <;> rfl
    have banks := switched_banks new (other ▸ old)
    rw [other] at banks
    exact ⟨exec_switchPlan_taken tag h free valid switched, banks⟩
  · have switched : s.switchBanks = v := (switchBanks_of_none inactive hu).trans hv.symm
    have new : v.plan.banks.b0.state = .active := by
      rw [hv, offer_plan, hu]
      rfl
    exact ⟨exec_switchPlan_taken tag h free valid switched, if_pos new⟩
  · subst hu
    refine exec_done (.setShadow tag (.known v)) rfl h { s with plan := { s.plan with shadow := v } } rfl ?_
    have computed : State.shadowComputed { s with plan := { s.plan with shadow := v } } =
        decide (v = .on ∧ s.edit.state = .standby ∧ s.edit.valid = true) := by
      unfold State.shadowComputed State.editReady
      rw [Bool.eq_iff_iff]
      simp only [Bool.and_eq_true, decide_eq_true_eq]
      rfl
    rw [← computed]
    rfl
  · exact exec_planRefused (.setShadow tag (.beyond code)) rfl h rfl

end Sys2Proof.Machine
end

section
/-! The Grading Engine (R117 to R131): the sources, the run of a list, the grade, and the record a decision leaves. -/

namespace Sys2Proof.Machine

/-! ### The sources (R121 to R123) -/

theorem highest_eq_max? (l : List Nat) : highest l = l.max? := by cases l <;> rfl

theorem lowest_eq_min? (l : List Nat) : lowest l = l.min? := by cases l <;> rfl

theorem highest_map {α : Type} (score : α → Nat) {l : List α} (h : l ≠ []) :
    ∃ v, highest (l.map score) = some v ∧ (∃ p ∈ l, v = score p) ∧ ∀ p ∈ l, score p ≤ v := by
  obtain ⟨v, hv⟩ := Option.isSome_iff_exists.1 (List.isSome_max?_of_ne_nil (l := l.map score) (by simpa using h))
  obtain ⟨mem, most⟩ := List.max?_eq_some_iff.1 hv
  obtain ⟨p, hp, rfl⟩ := List.mem_map.1 mem
  exact ⟨score p, (highest_eq_max? _).trans hv, ⟨p, hp, rfl⟩, fun p hp => most _ (List.mem_map_of_mem hp)⟩

theorem lowest_map {α : Type} (score : α → Nat) {l : List α} (h : l ≠ []) :
    ∃ v, lowest (l.map score) = some v ∧ (∃ p ∈ l, v = score p) ∧ ∀ p ∈ l, v ≤ score p := by
  obtain ⟨v, hv⟩ := Option.isSome_iff_exists.1 (List.isSome_min?_of_ne_nil (l := l.map score) (by simpa using h))
  obtain ⟨mem, least⟩ := List.min?_eq_some_iff.1 hv
  obtain ⟨p, hp, rfl⟩ := List.mem_map.1 mem
  exact ⟨score p, (lowest_eq_min? _).trans hv, ⟨p, hp, rfl⟩, fun p hp => least _ (List.mem_map_of_mem hp)⟩

theorem worstIsLow_iff (source : Source) : worstIsLow source = true ↔ source = .swingTag ∨ source = .colour := by
  cases source <;> decide

section Vision

variable {e : Evidence} {source : Source} {score : PieceScores → Nat}

theorem sourceValue_of_piece (h : visionScore source = some score) {k : Nat} (hk : k ≠ 0) :
    sourceValue e source k = (e.item.pieces[k - 1]?).map score := by
  simp only [sourceValue, h, if_neg hk]

theorem sourceValue_of_item (h : visionScore source = some score) : sourceValue e source 0 =
    if worstIsLow source then lowest (e.item.pieces.map score) else highest (e.item.pieces.map score) := by
  simp only [sourceValue, h, if_true]

/-- R121: the item's value of a vision source is the worst of its reported pieces. -/
theorem sourceValue_worst (h : visionScore source = some score) (pieces : e.item.pieces ≠ []) :
    ∃ v, sourceValue e source 0 = some v ∧ (∃ p ∈ e.item.pieces, v = score p) ∧
      ((source = .stain ∨ source = .tear ∨ source = .wear ∨ source = .crease) → ∀ p ∈ e.item.pieces, score p ≤ v) ∧
      ((source = .swingTag ∨ source = .colour) → ∀ p ∈ e.item.pieces, v ≤ score p) := by
  rw [sourceValue_of_item h]
  cases low : worstIsLow source with
  | true =>
    obtain ⟨v, hv, among, least⟩ := lowest_map score pieces
    refine ⟨v, hv, among, fun worst => ?_, fun _ => least⟩
    rcases worst with rfl | rfl | rfl | rfl <;> cases low
  | false =>
    obtain ⟨v, hv, among, most⟩ := highest_map score pieces
    refine ⟨v, hv, among, fun _ => most, fun worst => ?_⟩
    rw [(worstIsLow_iff source).2 worst] at low
    cases low

end Vision

/-- R122: the deviation in percent, 999 at most. -/
theorem weightDeviation_of_weights {w r : Nat} (hr : r ≠ 0) : weightDeviation (some w) (some r) =
    some (if 999 < (max w r - min w r) * 100 / r then 999 else (max w r - min w r) * 100 / r) := by
  have difference : (if w < r then r - w else w - r) = max w r - min w r := by split <;> omega
  simp only [weightDeviation, if_neg hr, difference]
  exact congrArg some (by split <;> omega)

/-- R122: without both weights, or with a reference weight of 0, there is no deviation. -/
theorem weightDeviation_eq_none {weight refWeight : Option Nat}
    (h : weight = none ∨ refWeight = none ∨ refWeight = some 0) : weightDeviation weight refWeight = none := by
  rcases h with rfl | rfl | rfl
  · rfl
  · cases weight <;> rfl
  · cases weight <;> rfl

/-- R121 to R123, for every source but the vision sources. -/
theorem sourceValue_of_others (e : Evidence) (k : Nat) :
    sourceValue e .weightDeviation k = weightDeviation e.item.weight e.refWeight ∧
    sourceValue e .tagState k = tagStateValue e.item ∧ sourceValue e .matchResult k = matchValue e.result ∧
    sourceValue e .piecesShort k =
      (if e.item.visionStatus = .missing then none else some (e.expected - e.item.pieces.length)) ∧
    sourceValue e .reason k = e.reason := ⟨rfl, rfl, rfl, rfl, rfl⟩

/-! ### One evaluation (R93, R124, R125) -/

/-- What a value must be for a check's test to pass (R93). -/
def Limits.Admits : Limits → Nat → Prop
  | .atMost l, v => v ≤ l
  | .atLeast l, v => l ≤ v
  | .within l h, v => l ≤ v ∧ v ≤ h
  | .equals l, v => v = l
  | .notEquals l, v => v ≠ l

theorem passes_iff (limits : Limits) (v : Nat) : Limits.passes limits v = true ↔ Limits.Admits limits v := by
  cases limits <;> simp [Limits.passes, Limits.Admits]

section Evaluate

variable (t : Tally) (number place piece : Nat) {check : Check} {v : Nat}

theorem evaluate_of_admitted (h : Limits.Admits check.limits v) : t.evaluate number place piece check (some v) = t :=
  if_pos ((passes_iff _ _).2 h)

theorem evaluate_of_not_admitted (h : ¬ Limits.Admits check.limits v) : t.evaluate number place piece check (some v) =
    (t.act check.action).record ⟨number, place, piece, .value, some v, check.action⟩ :=
  if_neg fun passes => h ((passes_iff _ _).1 passes)

/-- A missing value goes by the check's policy (R124). -/
theorem evaluate_none : t.evaluate number place piece check none =
    match check.missing with
    | .pass => t
    | .fail => (t.act check.action).record ⟨number, place, piece, .missing, none, check.action⟩
    | .quarantine => (t.act .quarantine).record ⟨number, place, piece, .missing, none, .quarantine⟩ := rfl

theorem record_of_room {t : Tally} (f : Failure) (h : t.failures.length < 8) :
    t.record f = { t with failures := t.failures ++ [f] } := if_pos h

theorem record_of_full {t : Tally} (f : Failure) (h : 8 ≤ t.failures.length) : t.record f = t :=
  if_neg (Nat.not_lt.2 h)

/-- R125: a sum above 65535 stays at 65535. -/
theorem act_penalty (n : Nat) :
    t.act (.penalty n) = { t with penalty := if 65535 < t.penalty + n then 65535 else t.penalty + n } := by
  have least : min 65535 (t.penalty + n) = if 65535 < t.penalty + n then 65535 else t.penalty + n := by split <;> omega
  rw [Tally.act, least]

end Evaluate

/-- R125: the worse of two caps stays. -/
theorem worseCap_eq (x : Cap) : worseCap x .b = (if x = .noCap then .b else x) ∧
    worseCap x .c = (if x = .noCap ∨ x = .b then .c else x) ∧ worseCap x .d = .d := by
  cases x <;> decide

/-! ### The run of a list's entries (R120) -/

theorem check_of_lookup {b : Bank} {number : Nat} {check : Check} (h : b.checks.lookup number = some check) :
    b.check number = check := by
  rw [Bank.check, h]
  rfl

section Entries

variable {e : Evidence} {b : Bank} {number : Nat} {check : Check} (place : Nat) (rest : List Nat) (t : Tally)

theorem runEntries_of_item (h : b.checks.lookup number = some check) (scope : check.scope = .item) :
    runEntries e b place (number :: rest) t =
      runEntries e b (place + 1) rest (t.evaluate number place 0 check (sourceValue e check.source 0)) := by
  simp only [runEntries, Tally.entry, check_of_lookup h, scope]

theorem runEntries_of_piece (h : b.checks.lookup number = some check) (scope : check.scope = .piece) :
    runEntries e b place (number :: rest) t =
      runEntries e b (place + 1) rest ((List.range e.expected).foldl
        (fun u k => u.evaluate number place (k + 1) check (sourceValue e check.source (k + 1))) t) := by
  simp only [runEntries, Tally.entry, check_of_lookup h, scope]

end Entries

/-- Settles O32: source by source, then the outcomes of an evaluation, the fail actions, and the two scopes. -/
theorem sourceValuesAndEvaluations : Obligations.SourceValuesAndEvaluations := by
  refine ⟨⟨fun e source score h => ⟨fun k hk => sourceValue_of_piece h hk, fun empty => ?_, sourceValue_worst h⟩,
      ⟨rfl, rfl, rfl, rfl, rfl, rfl⟩, fun e k => ?_⟩,
    ⟨fun t number place piece check => ⟨fun v h => evaluate_of_admitted t _ _ _ ?_,
        fun v h => evaluate_of_not_admitted t _ _ _ ?_, fun pass => ?_, fun fail => ?_, fun quarantine => ?_⟩,
      fun t f => ⟨record_of_room f, record_of_full f⟩, fun t n => ?_⟩,
    fun e b place t => ⟨rfl, fun number rest check h => ⟨runEntries_of_item place rest t h,
      runEntries_of_piece place rest t h⟩⟩⟩
  · rw [sourceValue_of_item h, empty]
    exact ite_self none
  · obtain ⟨weight, tag, result, short, reason⟩ := sourceValue_of_others e k
    rw [weight, tag, result, short, reason]
    refine ⟨fun w r hw hr nonzero => ?_, weightDeviation_eq_none, fun missing => if_pos missing, fun present => ?_, ?_, ?_,
      ?_, ?_, fun missing => if_pos missing, fun present => if_neg present, rfl⟩
    · rw [hw, hr]
      exact weightDeviation_of_weights nonzero
    · rw [tagStateValue, if_neg present]
      cases e.item.tagState <;> rfl
    all_goals
      intro h
      rw [h]
      rfl
  · revert h
    cases check.limits <;> exact id
  · revert h
    cases check.limits <;> exact id
  · rw [evaluate_none, pass]
  · rw [evaluate_none, fail]
  · rw [evaluate_none, quarantine]
    rfl
  · obtain ⟨capB, capC, capD⟩ := worseCap_eq t.cap
    refine ⟨act_penalty t n, ?_, ?_, ?_, rfl⟩
    · rw [Tally.act, capB]
    · rw [Tally.act, capC]
    · rw [Tally.act, capD]

/-! ### The grade (R126) -/

/-- R126, step 1: a penalty sum gives A, B, C or D, by the first threshold that it does not pass. -/
theorem gradeOfSum_spec (levels : Thresholds) (sum : Nat) :
    (sum ≤ levels.t1 → gradeOfSum levels sum = .a) ∧
    (levels.t1 < sum → sum ≤ levels.t2 → gradeOfSum levels sum = .b) ∧
    (levels.t1 < sum → levels.t2 < sum → sum ≤ levels.t3 → gradeOfSum levels sum = .c) ∧
    (levels.t1 < sum → levels.t2 < sum → levels.t3 < sum → gradeOfSum levels sum = .d) := by
  unfold gradeOfSum
  refine ⟨fun h1 => if_pos h1, fun h1 h2 => ?_, fun h1 h2 h3 => ?_, fun h1 h2 h3 => ?_⟩
  · rw [if_neg (Nat.not_le.2 h1), if_pos h2]
  · rw [if_neg (Nat.not_le.2 h1), if_neg (Nat.not_le.2 h2), if_pos h3]
  · rw [if_neg (Nat.not_le.2 h1), if_neg (Nat.not_le.2 h2), if_neg (Nat.not_le.2 h3)]

theorem gradeOfSum_ne_q (levels : Thresholds) (sum : Nat) : gradeOfSum levels sum ≠ .q := by
  unfold gradeOfSum
  split_ifs <;> nofun

/-- R126, step 2: a cap worse than the grade replaces it. -/
theorem capped_eq {g : Grade} (h : g ≠ .q) : capped g .noCap = g ∧ capped g .b = (if g = .a then .b else g) ∧
    capped g .c = (if g = .a ∨ g = .b then .c else g) ∧ capped g .d = .d := by
  cases g with
  | q => exact absurd rfl h
  | a | b | c | d => decide

/-! ### Grading with a bank (R119, R120, R126) -/

theorem gradedQ_iff (r : MatchResult) : gradedQ r = true ↔
    r = .repeated ∨ r = .over ∨ r = .stray ∨ r = .noReturn ∨ r = .staleLabel := by
  cases r <;> decide

theorem gradedQ_of_listGraded {r : MatchResult} (h : r = .exact ∨ r = .skuOnly ∨ r = .unlisted ∨ r = .unread) :
    gradedQ r = false := by
  rcases h with rfl | rfl | rfl | rfl <;> rfl

theorem gradeWith_of_gradedQ {e : Evidence} (h : gradedQ e.result = true) (b : Bank) (category : Nat) :
    gradeWith e b category = (Tally.start, .q) := if_pos h

/-- R119, R120, R126: what a bank with every entry a run reads gives an item that is not graded Q at once. -/
theorem gradeWith_of_run {e : Evidence} (h : gradedQ e.result = false) {b : Bank} {category : Nat} {p : Program}
    {list : List Nat} {levels : Thresholds} (program : b.programs.lookup category = some p)
    (entries : b.lists.lookup p.list = some list) (thresholds : b.thresholds = some levels) :
    gradeWith e b category =
      (runEntries e b 1 list Tally.start, (runEntries e b 1 list Tally.start).grade levels) := by
  simp only [gradeWith, h, Bool.false_eq_true, if_false, runList, program_of_lookup program, Bank.list, entries, Bank.levels,
    thresholds, Option.getD_some]

/-! ### The record a decision leaves (R117 to R129) -/

/-- What the sources of a decision read (R121 to R123): the item and what its match returned. -/
def evidenceOf (it : Item) (m : MatchReturn) (p : Program) : Evidence :=
  ⟨it, m.pieces.getD p.pieces, m.result, m.refWeight, m.reason⟩

/-- R108, R128: the shadow grade is what the edit bank gives, and absent while it is not computed. -/
def State.shadowGrade (s : State) (e : Evidence) (category : Nat) : Option Grade :=
  if s.shadowComputed then some (gradeWith e s.edit category).2 else none

theorem shadowComputed_iff (s : State) : s.shadowComputed = true ↔
    s.plan.shadow = .on ∧ s.edit.state = .standby ∧ s.edit.valid = true := by
  simp [State.shadowComputed, State.editReady, State.edit]

section Decision

variable {s : State} {n : Nat} {it : Item} {m : MatchReturn} {p : Program}

/-- R117 to R129: a decision by the program its bank defines, with the grading and the map's cell. -/
theorem decisionFor_eq {graded : Tally × Grade} {cell : Dest}
    (program : (s.plan.banks.at it.bank).programs.lookup m.category = some p)
    (grading : gradeWith (evidenceOf it m p) (s.plan.banks.at it.bank) m.category = graded)
    (map : (s.plan.banks.at it.bank).map.lookup (4 * gradePlace graded.2 + p.group) = some cell) :
    s.decisionFor it m = (it.afterDecision m (m.pieces.getD p.pieces) graded.1 graded.2
      (s.shadowGrade (evidenceOf it m p) m.category) (Route.ofCell cell) s.line.clock, graded.1.failures) := by
  subst grading
  rw [← routeFor_of_lookup program map]
  simp only [State.decisionFor, program_of_lookup program]
  rfl

/-- R126: the grade a decision writes is the one the grading gives. -/
theorem decisionFor_grade (program : (s.plan.banks.at it.bank).programs.lookup m.category = some p) :
    (s.decisionFor it m).1.grade =
      some (gradeWith (evidenceOf it m p) (s.plan.banks.at it.bank) m.category).2 := by
  simp only [State.decisionFor, program_of_lookup program]
  rfl

/-- R17, R129: an item on the belt becomes DECIDED, one at lane end READY. -/
theorem decidedState_of_undecided {state : ItemState} (h : state = .measuring ∨ state = .waiting) :
    decidedState state = if state = .waiting then .ready else .decided := by
  rcases h with rfl | rfl <;> rfl

/-- R117, R130, R131: the decision writes the record of `decisionFor`, and does beside it what `State.decidedAs` says. -/
theorem decideItem_decidedAs (live : s.item n = some it) (undecided : it.decided = false) {d : Item}
    {failures : List Failure} (decision : s.decisionFor it (matchReturn (s.searchFor it)) = (d, failures)) :
    (s.decideItem n).item n = some d ∧ s.decideItem n = s.decidedAs n it d failures := by
  obtain rfl : s.decisionOf it = d := congrArg Prod.fst decision
  obtain rfl : (s.decisionFor it (matchReturn (s.searchFor it))).2 = failures := congrArg Prod.snd decision
  exact ⟨by rw [decideItem_item live undecided, if_pos rfl], decideItem_eq live undecided⟩

end Decision

/-- Settles O33: the sum's grade under the cap and the quarantine mark, then the grade `decisionFor` writes. -/
theorem theGradeFromTheList : Obligations.TheGradeFromTheList := by
  refine ⟨fun t levels => ?_, ?_⟩
  · obtain ⟨a, b, c, d⟩ := gradeOfSum_spec levels t.penalty
    refine ⟨gradeOfSum levels t.penalty, a, b, c, d, fun quarantine => if_pos quarantine, fun clear => ?_⟩
    obtain ⟨noCap, capB, capC, capD⟩ := capped_eq (gradeOfSum_ne_q levels t.penalty)
    rw [Tally.grade, clear]
    cases t.cap with
    | noCap => exact noCap
    | b => exact capB
    | c => exact capC
    | d => exact capD
  · rintro s n it p list levels m live undecided rfl result program entries thresholds
    have graded := gradeWith_of_run (e := evidenceOf it (matchReturn (s.searchFor it)) p) (gradedQ_of_listGraded result)
      program entries thresholds
    refine ⟨s.decisionOf it, by rw [decideItem_item live undecided, if_pos rfl], decisionOf_decided s it, ?_⟩
    rw [State.decisionOf, decisionFor_grade program, graded]
    rfl

/-- Settles O34: the grading is Q at once or the list's run, and `decideItem_decidedAs` gives the rest of the decision. -/
theorem decisionsGradedQAtOnce : Obligations.DecisionsGradedQAtOnce := by
  refine ⟨?_, ?_⟩
  · rintro s n it m p cell live undecided state rfl result program map d rfl
    have atOnce := (gradedQ_iff _).2 result
    have grading := gradeWith_of_gradedQ (e := evidenceOf it (matchReturn (s.searchFor it)) p) atOnce
    have shadow : s.shadowGrade (evidenceOf it (matchReturn (s.searchFor it)) p) (matchReturn (s.searchFor it)).category =
        if s.shadowComputed = true then some .q else none := by
      rw [State.shadowGrade, grading]
    refine decideItem_decidedAs live undecided ((decisionFor_eq program (grading _ _) map).trans ?_)
    rw [shadow, Item.afterDecision, decidedState_of_undecided state]
    cases cell <;> rfl
  · rintro s n it d b m p list levels e t grade shadow cell live undecided state rfl result rfl program entries thresholds
      rfl rfl rfl map noShadow withShadow rfl
    have listGraded := gradedQ_of_listGraded result
    have grading := gradeWith_of_run (e := evidenceOf it (matchReturn (s.searchFor it)) p) listGraded program entries
      thresholds
    have shadowed : s.shadowGrade (evidenceOf it (matchReturn (s.searchFor it)) p)
        (matchReturn (s.searchFor it)).category = shadow := by
      unfold State.shadowGrade
      split
      · next computed =>
        obtain ⟨q, other, tiers, program', entries', thresholds', rfl⟩ := withShadow ((shadowComputed_iff s).1 computed)
        rw [gradeWith_of_run listGraded program' entries' thresholds']
        rfl
      · next computed => exact (noShadow fun h => computed ((shadowComputed_iff s).2 h)).symm
    refine decideItem_decidedAs live undecided ((decisionFor_eq program grading map).trans ?_)
    rw [shadowed, Item.afterDecision, decidedState_of_undecided state]
    cases cell <;> rfl

end Sys2Proof.Machine
end

section
/-! Every step keeps the ranges of the tracker and of the settings, and the bookkeeping of the Message Port (R134, R145,
R172, R178, R181, R186). An act of a block leaves the port as it is; the port's own commands change nothing else. -/

namespace Sys2Proof.Machine

/-! ### The tracker's law (R134, R145) -/

/-- `Sorter.lawful`, clause by clause. -/
structure Sorter.Lawful (x : Sorter) : Prop where
  origin     : x.origin < 96
  revolution : x.revolution < 2
  unaligned  : x.aligned = false → x.revolution = 0
  carriers   : ∀ e ∈ x.carriers.entries, e.1 < 96
  gates      : ∀ g ∈ x.gates, g ≤ 16

theorem sorter_lawful_iff (x : Sorter) : x.lawful = true ↔ x.Lawful := by
  have unaligned : (x.aligned || decide (x.revolution = 0)) = true ↔ (x.aligned = false → x.revolution = 0) := by
    cases x.aligned <;> simp
  simp only [Sorter.lawful, Bool.and_eq_true, unaligned, List.all_eq_true, decide_eq_true_eq]
  exact ⟨fun ⟨⟨⟨⟨o, r⟩, u⟩, c⟩, g⟩ => ⟨o, r, u, c, g⟩, fun ⟨o, r, u, c, g⟩ => ⟨⟨⟨⟨o, r⟩, u⟩, c⟩, g⟩⟩

theorem mem_insertGate (g h : Nat) (gates : List Nat) : h ∈ insertGate g gates ↔ h = g ∨ h ∈ gates := by
  induction gates with
  | nil => simp [insertGate]
  | cons a rest ih =>
    unfold insertGate
    split
    · simp
    · split
      · next e => simp [e]
      · simp only [List.mem_cons, ih]
        exact or_left_comm

theorem Sorter.advance_eq_pitched (x : Sorter) : x.advance = x.pitched := by
  have revolution : (if x.revolution + 1 < 2 then x.revolution + 1 else 0) = if x.revolution = 0 then 1 else 0 := by
    split <;> split <;> omega
  simp only [Sorter.advance, Sorter.pitched, Sorter.passes, wrapNext, Bool.and_eq_true, decide_eq_true_eq, revolution]
  rfl

theorem pitched_lawful {x : Sorter} (h : x.Lawful) : x.pitched.Lawful := by
  refine ⟨?_, ?_, fun unaligned => ?_, h.carriers, nofun⟩
  · show (if x.origin < 95 then x.origin + 1 else 0) < 96
    split <;> omega
  · show (if x.aligned = true ∧ x.origin = 95 then (if x.revolution = 0 then 1 else 0) else x.revolution) < 2
    have := h.revolution
    repeat' split
    all_goals omega
  · have unaligned : x.aligned = false := unaligned
    exact (if_neg (by simp [unaligned])).trans (h.unaligned unaligned)

/-! ### The settings' law (R172, R178, R181) -/

/-- `LineControl.lawful`, clause by clause. -/
structure LineControl.Lawful (l : LineControl) : Prop where
  hold          : l.hold = l.holdPin
  clock         : l.clock ≤ 4294967295
  manifestWait  : settingAdmits .manifestWait (.num l.manifestWait) = true
  decisionWait  : settingAdmits .decisionWait (.num l.decisionWait) = true
  sweepPeriod   : settingAdmits .sweepPeriod (.num l.sweepPeriod) = true
  downThreshold : settingAdmits .downThreshold (.num l.downThreshold) = true
  lapLimit      : settingAdmits .lapLimit (.num l.lapLimit) = true
  gates         : ∀ e ∈ l.gatePositions.entries, e.1 ≤ 16 ∧ 1 ≤ e.2 ∧ e.2 ≤ 95
  finals        : ∀ k, 1 ≤ k → k ≤ 3 → l.enables.lookup k = some true

theorem line_law_iff (l : LineControl) : l.lawful = true ↔ l.Lawful := by
  simp only [LineControl.lawful, Bool.and_eq_true, List.all_eq_true, decide_eq_true_eq, and_assoc]
  constructor
  · rintro ⟨ho, c, m, d, s, t, p, g, e1, e2, e3⟩
    refine ⟨ho, c, m, d, s, t, p, g, fun k low high => ?_⟩
    obtain rfl | rfl | rfl : k = 1 ∨ k = 2 ∨ k = 3 := by omega
    exacts [e1, e2, e3]
  · rintro ⟨ho, c, m, d, s, t, p, g, e⟩
    exact ⟨ho, c, m, d, s, t, p, g, e 1 (by decide) (by decide), e 2 (by decide) (by decide), e 3 (by decide) (by decide)⟩

/-- The line beside its mode and its pause mark: the clock, HOLD and the settings, which the law is about. -/
def LineControl.settings (l : LineControl) : LineControl := { l with mode := .setup, pause := none }

theorem line_lawful_of_settings {l k : LineControl} (h : k.settings = l.settings) (lawful : l.lawful = true) :
    k.lawful = true := by
  have settings : l.settings.lawful = true := lawful
  rw [← h] at settings
  exact settings

theorem cold_line_lawful (holdHigh : Bool) : (LineControl.cold holdHigh).lawful = true := by
  cases holdHigh <;> decide

/-- What a put lists is the new entry, or was listed before. -/
theorem mem_putEntry {α : Type} (l : List (Nat × α)) (k : Nat) (v : α) (e : Nat × α) (h : e ∈ putEntry l k v) :
    e = (k, v) ∨ e ∈ l := by
  induction l with
  | nil => exact .inl (List.mem_singleton.1 h)
  | cons x rest ih =>
    unfold putEntry at h
    repeat' split at h
    · exact List.mem_cons.1 h
    · exact (List.mem_cons.1 h).imp_right (List.mem_cons_of_mem _)
    · rcases List.mem_cons.1 h with rfl | h
      · exact .inr List.mem_cons_self
      · exact (ih h).imp_right (List.mem_cons_of_mem _)

theorem settingExists_gate {g : Nat} (h : settingExists (.gatePosition g) = true) : g ≤ 16 := of_decide_eq_true h

/-- R179: a value that the setting admits keeps the settings in their ranges, and the final kinds ON. -/
theorem writeSetting_line {s : State} {name : SettingName} {value : SettingValue} (exist : settingExists name = true)
    (admits : settingAdmits name value = true) (h : s.line.Lawful) : (s.writeSetting name value).line.Lawful := by
  have enabled : ∀ k v, (v = true ∨ 3 < k) →
      LineControl.Lawful { s.line with enables := s.line.enables.put k v } := fun k v hv =>
    { h with
      finals := fun i low high => by
        rw [lookup_put]
        split
        · next e => rw [hv.resolve_right (by omega)]
        · exact h.finals i low high }
  unfold State.writeSetting
  split
  · exact { h with manifestWait := admits }
  · exact { h with decisionWait := admits }
  · exact { h with sweepPeriod := admits }
  · exact { h with downThreshold := admits }
  · exact { h with lapLimit := admits }
  · next g n =>
    have range : 1 ≤ n ∧ n ≤ 95 := by simpa [settingAdmits] using admits
    refine { h with gates := fun e he => ?_ }
    rcases mem_putEntry _ _ _ e he with rfl | he
    · exact ⟨settingExists_gate exist, range⟩
    · exact h.gates e he
  · exact { h with gates := fun e he => h.gates e (List.mem_of_mem_filter he) }
  · exact h
  · exact enabled _ true (.inl rfl)
  · exact enabled _ false (.inr (of_decide_eq_true admits))
  · exact h

/-! ### The port's law (R186) -/

/-- How far the request in service has come agrees with what is being sent. -/
def Port.agrees (p : Port) : Prop :=
  match p.sending, p.service with
  | none, none => True
  | none, some x => x.stage = .sent
  | some (.service _), none => False
  | some (.service _), some x => x.stage = .sending
  | some (.busy _), none => True
  | some (.busy _), some x => x.stage ≠ .sending

/-- `Port.lawful`, clause by clause. -/
structure Port.Lawful (p : Port) : Prop where
  four   : p.waiting.length ≤ Config.maxBusy
  behind : p.sending = none → p.waiting = []
  agrees : p.agrees

theorem port_lawful_iff (p : Port) : p.lawful = true ↔ p.Lawful := by
  obtain ⟨receiving, service, sending, waiting, rate⟩ := p
  have iff : ∀ q : Port, q.Lawful ↔ q.waiting.length ≤ Config.maxBusy ∧ (q.sending = none → q.waiting = []) ∧ q.agrees :=
    fun q => ⟨fun ⟨f, b, a⟩ => ⟨f, b, a⟩, fun ⟨f, b, a⟩ => ⟨f, b, a⟩⟩
  rw [iff]
  rcases sending with _ | _ | _ <;> rcases service with _ | ⟨_, _, _ | _ | _⟩ <;>
    simp [Port.lawful, Port.agrees]

/-- The receiver's bytes are none of the law's. -/
theorem receiving_lawful {p : Port} (h : p.Lawful) (bytes : List Byte) : ({ p with receiving := bytes } : Port).Lawful :=
  ⟨h.four, h.behind, h.agrees⟩

/-- A request that leaves service with nothing of it being sent (R183, R186). -/
theorem unserved_lawful {p : Port} (h : p.Lawful) (free : ∀ r, p.sending ≠ some (.service r)) :
    ({ p with service := none } : Port).Lawful := by
  refine ⟨h.four, h.behind, ?_⟩
  unfold Port.agrees
  rcases sending : p.sending with _ | r | r
  · trivial
  · exact free r sending
  · trivial

theorem awaitsReset_stage {p : Port} (h : p.awaitsReset = true) : ∃ x, p.service = some x ∧ x.stage = .sent := by
  unfold Port.awaitsReset at h
  split at h
  · next tag kind e => exact ⟨_, e, rfl⟩
  · cases h

/-- R183: while a WARM RESET waits for its reset to act, its reply is not being sent. -/
theorem awaitsReset_free {p : Port} (h : p.Lawful) (awaits : p.awaitsReset = true) (r : Reply) :
    p.sending ≠ some (.service r) := fun sending => by
  obtain ⟨x, service, stage⟩ := awaitsReset_stage awaits
  have agrees := h.agrees
  simp [Port.agrees, sending, service, stage] at agrees

/-- The transmitter has ended a reply, and the request in service is not the one being sent (R186). -/
def Port.freed (p : Port) : Prop := p.waiting.length ≤ Config.maxBusy ∧ ∀ x, p.service = some x → x.stage ≠ .sending

/-- The next reply that is sent is that of the request in service, or the first BUSY reply that waits (R186). -/
theorem sendNext_lawful {p : Port} (h : p.freed) : p.sendNext.Lawful := by
  obtain ⟨four, stage⟩ := h
  unfold Port.sendNext
  split
  · exact ⟨four, nofun, rfl⟩
  · next other =>
    split
    · next empty =>
      refine ⟨four, fun _ => empty, ?_⟩
      rcases service : p.service with _ | ⟨tag, kind, _ | _ | _⟩
      · trivial
      · exact absurd service (other _ _ _)
      · exact absurd rfl (stage _ service)
      · rfl
    · next r rest waiting =>
      rw [waiting] at four
      refine ⟨Nat.le_of_succ_le four, nofun, ?_⟩
      unfold Port.agrees
      rcases service : p.service with _ | x
      · trivial
      · exact stage x service

theorem replySent_lawful {p : Port} (h : p.Lawful) : p.replySent.Lawful := by
  have agrees := h.agrees
  unfold Port.agrees at agrees
  unfold Port.replySent
  split
  · exact h
  · next r sending =>
    refine sendNext_lawful ?_
    unfold Port.serviceSent
    split
    · refine ⟨h.four, fun x hx => ?_⟩
      obtain ⟨y, _, rfl⟩ := Option.map_eq_some_iff.1 hx
      exact fun stage => by cases stage
    · exact ⟨h.four, fun x (hx : none = some x) => by cases hx⟩
  · next r sending =>
    refine sendNext_lawful ⟨h.four, fun x service => ?_⟩
    simpa [sending, service] using agrees

/-- A reply is formed with no request in service (R186). -/
theorem reply_lawful {s : State} (h : s.port.Lawful) (free : s.port.service = none) (r : Reply) :
    (s.reply r).port.Lawful := by
  have agrees := h.agrees
  unfold Port.agrees at agrees
  unfold State.reply
  split
  · exact ⟨h.four, nofun, rfl⟩
  · next x sending =>
    refine ⟨h.four, fun e => absurd (sending.symm.trans e) nofun, ?_⟩
    cases x with
    | service _ => simp [sending, free] at agrees
    | busy _ => simp [Port.agrees, sending]

/-- At most four BUSY replies wait; one goes out at once if the transmitter is free (R186). -/
theorem answerBusy_lawful {s : State} (h : s.port.Lawful) (tag kind : Nat) : (s.answerBusy tag kind).port.Lawful := by
  have agrees := h.agrees
  unfold Port.agrees at agrees
  unfold State.answerBusy
  dsimp only
  split
  · next room =>
    split
    · next sending =>
      refine ⟨h.four, nofun, ?_⟩
      rcases service : s.port.service with _ | x
      · simp [Port.agrees]
      · simp only [sending, service] at agrees
        simp [Port.agrees, agrees]
    · next x sending =>
      refine ⟨?_, fun e => absurd (sending.symm.trans e) nofun, h.agrees⟩
      rw [List.length_append]
      exact room
  · exact h

/-! ### What an act of a block keeps -/

/-- Whatever made the second state of the first left the Message Port and kept the laws of the tracker and of the line. -/
structure State.LawsKept (s t : State) : Prop where
  port   : t.port = s.port
  sorter : s.sorter.lawful = true → t.sorter.lawful = true
  line   : s.line.lawful = true → t.line.lawful = true

namespace State.LawsKept

variable {s t u : State}

theorem refl (s : State) : s.LawsKept s := ⟨rfl, id, id⟩

theorem trans (h : s.LawsKept t) (h' : t.LawsKept u) : s.LawsKept u :=
  ⟨h'.port.trans h.port, h'.sorter ∘ h.sorter, h'.line ∘ h.line⟩

theorem foldl {α : Type} {f : State → α → State} (l : List α) (h : ∀ a ∈ l, ∀ s : State, s.LawsKept (f s a))
    (s : State) : s.LawsKept (l.foldl f s) := by
  induction l generalizing s with
  | nil => exact refl s
  | cons a rest ih =>
    exact (h a List.mem_cons_self s).trans (ih (fun b hb => h b (List.mem_cons_of_mem a hb)) _)

/-- The tracker stays, and of the line at most the mode and the pause mark change. -/
theorem elsewhere (port : t.port = s.port := by rfl) (sorter : t.sorter = s.sorter := by rfl)
    (settings : t.line.settings = s.line.settings := by rfl) : s.LawsKept t :=
  ⟨port, fun h => sorter ▸ h, line_lawful_of_settings settings⟩

/-- The three blocks stay. -/
theorem aside (port : t.port = s.port) (sorter : t.sorter = s.sorter) (line : t.line = s.line) : s.LawsKept t :=
  elsewhere port sorter (by rw [line])

/-- Only the tracker changes. -/
theorem tracker {x : Sorter} (h : s.sorter.Lawful → x.Lawful) : s.LawsKept { s with sorter := x } :=
  ⟨rfl, fun lawful => (sorter_lawful_iff x).2 (h ((sorter_lawful_iff _).1 lawful)), id⟩

end State.LawsKept

theorem offer_lawsKept (s : State) (item : Nat) (body : EventBody) : s.LawsKept (s.offer item body) :=
  .aside (by simp) (by simp) (by simp)

/-- The mode and the pause mark are written, and LINE STATE is offered. -/
theorem offerLineState_lawsKept (s : State) (line : LineControl) (cause : LineCause)
    (settings : line.settings = s.line.settings := by rfl) :
    s.LawsKept (State.offerLineState { s with line := line } cause) :=
  (State.LawsKept.elsewhere (t := { s with line := line }) (settings := settings)).trans (offer_lawsKept _ _ _)

theorem setPause_lawsKept (s : State) (why : PauseCause) (cause : LineCause) : s.LawsKept (s.setPause why cause) := by
  unfold State.setPause
  split
  exacts [.refl s, offerLineState_lawsKept s _ _]

theorem endTest_lawsKept (s : State) : s.LawsKept s.endTest := by
  unfold State.endTest
  split
  exacts [offerLineState_lawsKept s _ _, .refl s]

/-! ### Settlement, retirement and aborts (R13, R64 to R66) -/

theorem settle_lawsKept (s : State) (l : LaneId) (cause : EndCause) (retired : Nat) :
    s.LawsKept (s.settle l cause retired) := by
  have before : s.LawsKept (s.parcelSettled l cause retired) :=
    .aside (by rw [← settle_port s l cause retired, settle_eq, endTest_port])
      (by rw [← settle_sorter s l cause retired, settle_eq, endTest_sorter]) (parcelSettled_line s l cause retired)
  exact before.trans (endTest_lawsKept _)

theorem settlementTest_lawsKept (s : State) (l : LaneId) : s.LawsKept (s.settlementTest l) := by
  unfold State.settlementTest
  split
  exacts [settle_lawsKept s l _ 0, .refl s]

theorem afterRetirement_lawsKept (s : State) (it : Item) (tell : Bool) : s.LawsKept (s.afterRetirement it tell) := by
  have told : ∀ u : State, u.LawsKept (if tell && !it.decided then u.settlementTest it.lane else u) := fun u => by
    split
    exacts [settlementTest_lawsKept u it.lane, .refl u]
  have ended : ∀ u : State, u.LawsKept (if u.live = 0 then u.endTest else u) := fun u => by
    split
    exacts [endTest_lawsKept u, .refl u]
  have released : s.LawsKept (s.releaseBank it.bank) := .aside (by simp) (by simp) (by simp)
  exact released.trans ((told _).trans (ended _))

/-- R13: the carrier that an item leaves is no longer listed. -/
theorem closeRecord_lawsKept (s : State) (n : Nat) (it : Item) (final : EventBody) :
    s.LawsKept (s.closeRecord n it final) :=
  ⟨rfl, fun lawful => by
    have h := (sorter_lawful_iff _).1 lawful
    exact (sorter_lawful_iff _).2
      ⟨h.origin, h.revolution, h.unaligned, fun e he => h.carriers e (List.mem_of_mem_filter he), h.gates⟩, id⟩

theorem withdraw_lawsKept (s : State) (n : Nat) (reason : WithdrawReason) (tell : Bool) :
    s.LawsKept (s.withdraw n reason tell) := by
  unfold State.withdraw
  split
  exacts [.refl s, (closeRecord_lawsKept s n _ _).trans (afterRetirement_lawsKept _ _ tell)]

theorem abort_lawsKept (s : State) (l : LaneId) (reason : WithdrawReason) (cause : EndCause) :
    s.LawsKept (s.abort l reason cause) := by
  have emptied := (State.LawsKept.foldl (s.lanes.at l).queue (fun n _ u => withdraw_lawsKept u n reason false) s).trans
    (.elsewhere (t := State.modLane _ l fun x => { x with queue := [], verdict := .none, timer := none }))
  unfold State.abort
  dsimp only
  split
  exacts [emptied, emptied.trans (settle_lawsKept _ _ _ _)]

/-! ### Decisions and the requests of the Item Table (R15 to R18, R117) -/

theorem decideItem_lawsKept (s : State) (n : Nat) : s.LawsKept (s.decideItem n) := by
  cases live : s.item n with
  | none => rw [decideItem_of_none live]; exact .refl s
  | some it =>
    cases undecided : it.decided with
    | true => rw [decideItem_of_decided live undecided]; exact .refl s
    | false =>
      have made : s.LawsKept (s.decisionMade n it) :=
        .aside ((decisionMade_keeps s n it (fun x => x.port) offer_port).trans (countFound_port s it _))
          ((decisionMade_keeps s n it (fun x => x.sorter) offer_sorter).trans (countFound_sorter s it _))
          ((decisionMade_keeps s n it (fun x => x.line) offer_line).trans (countFound_line s it _))
      rw [decideItem_eq live undecided]
      exact made.trans (settlementTest_lawsKept _ _)

theorem testItem_lawsKept (s : State) (n : Nat) : s.LawsKept (s.testItem n) := by
  rcases testItem_cases s n with h | h <;> rw [h]
  exacts [.refl s, decideItem_lawsKept s n]

theorem retest_lawsKept (s : State) (l : LaneId) : s.LawsKept (s.retest l) := by
  refine State.LawsKept.foldl _ (fun n _ u => ?_) s
  repeat' split
  exacts [.refl u, testItem_lawsKept u n, .refl u]

theorem withdrawItem_lawsKept (n : Nat) (s : State) : s.LawsKept (withdrawItem n s).state := by
  unfold withdrawItem
  repeat' split
  exacts [.refl s, withdraw_lawsKept s n .host true, .elsewhere]

theorem forceGrade_lawsKept (n : Nat) (grade : Coded Grade) (s : State) : s.LawsKept (forceGrade n grade s).state := by
  unfold forceGrade
  repeat' split
  · exact .refl s
  · exact .refl s
  · exact .aside (by simp [State.done]) (by simp [State.done]) (by simp [State.done])
  · exact (State.LawsKept.aside (by simp) (by simp) (by simp)).trans (settlementTest_lawsKept _ _)

/-! ### The Station Bus (R71 to R91) -/

/-- The bus, with its roster, is none of the three blocks. -/
theorem bus_lawsKept (s : State) (b : StationBus) : s.LawsKept { s with bus := b } := .elsewhere

theorem takeAnswer_lawsKept (s : State) (a : AnswerHead) (fromRole : Role → Bool) (dataOk : Bool)
    (act : SlotId → State → State) (h : ∀ x u, State.LawsKept u (act x u)) :
    s.LawsKept (s.takeAnswer a fromRole dataOk act) := by
  unfold State.takeAnswer
  repeat' split
  exacts [.refl s, (bus_lawsKept s _).trans (h _ _), bus_lawsKept s _, bus_lawsKept s _]

theorem takeGarbled_lawsKept (s : State) : s.LawsKept s.takeGarbled := by
  unfold State.takeGarbled
  repeat' split
  exacts [.refl s, bus_lawsKept s _, bus_lawsKept s _]

theorem turnPassed_lawsKept (s : State) (partialAnswer : Bool) : s.LawsKept (s.turnPassed partialAnswer) := by
  unfold State.turnPassed
  repeat' split
  exacts [.refl s, bus_lawsKept s _, bus_lawsKept s _]

theorem modItem_testItem_lawsKept (s : State) (n : Nat) (f : Item → Item) : s.LawsKept ((s.modItem n f).testItem n) :=
  (State.LawsKept.elsewhere (t := s.modItem n f)).trans (testItem_lawsKept _ n)

theorem deliver_lawsKept (s : State) (x : SlotId) (ticket : Nat) (kind : ReportKind) (write : Item → Item) :
    s.LawsKept (s.deliver x ticket kind write) := by
  unfold State.deliver
  repeat' split
  exacts [offer_lawsKept _ _ _, offer_lawsKept _ _ _, modItem_testItem_lawsKept s _ _, offer_lawsKept _ _ _,
    offer_lawsKept _ _ _]

theorem roleDown_lawsKept (s : State) (x : SlotId) : s.LawsKept (s.roleDown x) := by
  have lost : ∀ (u : State) n, u.LawsKept (u.loseRole x.role n) := fun u n => by
    unfold State.loseRole
    repeat' split
    exacts [.refl u, modItem_testItem_lawsKept u n _, .refl u]
  unfold State.roleDown
  split
  exacts [State.LawsKept.foldl _ (fun n _ u => lost u n) s, .refl s]

theorem scoreSlot_lawsKept (s : State) (x : SlotId) : s.LawsKept (s.scoreSlot x) := by
  unfold State.scoreSlot
  split
  · exact .refl s
  · dsimp only
    repeat' split
    · exact (bus_lawsKept s _).trans <| (bus_lawsKept _ _).trans <|
        (offer_lawsKept _ _ _).trans (roleDown_lawsKept _ x)
    · exact (bus_lawsKept s _).trans <| (bus_lawsKept _ _).trans (offer_lawsKept _ _ _)
    · exact bus_lawsKept s _

theorem sweepExpiry_lawsKept (s : State) : s.LawsKept s.sweepExpiry := by
  have closed : s.LawsKept s.closeSweep := by
    unfold State.closeSweep
    split
    exacts [.refl s, (State.LawsKept.foldl _ (fun x _ u => scoreSlot_lawsKept u x) s).trans (bus_lawsKept _ _)]
  have begun : ∀ u : State, u.LawsKept u.beginSweep := fun u => by
    unfold State.beginSweep
    dsimp only
    split
    exacts [.refl u, .elsewhere]
  exact closed.trans ((begun _).trans (bus_lawsKept _ _))

/-! ### The Return Table (R29 to R38) -/

theorem loadReturn_lawsKept (r : ReturnLoad) (s : State) : s.LawsKept (loadReturn r s).state := by
  have filled : ∀ (f : Ra → Ra) (l : Option LaneId), s.LawsKept
      ((l.map fun l => (s.modRa r.ra f).retest l).getD (s.modRa r.ra f)) := fun f l => by
    refine (State.LawsKept.elsewhere (t := s.modRa r.ra f)).trans ?_
    cases l with
    | none => exact .refl _
    | some l => exact retest_lawsKept _ l
  unfold loadReturn
  repeat' split
  exacts [.refl s, .refl s, .refl s, .elsewhere, .refl s, .refl s, .refl s, filled _ _]

theorem manifestExpiry_lawsKept (s : State) (n : Nat) : s.LawsKept (s.manifestExpiry n) := by
  have overdue : ∀ r, s.LawsKept (s.manifestOverdue n r) := fun r => by
    unfold State.manifestOverdue
    dsimp only
    refine (State.LawsKept.elsewhere (t := s.modRa n fun x => { x with state := .overdue, timer := none })).trans ?_
    split
    exacts [.refl _, (offer_lawsKept _ _ _).trans (retest_lawsKept _ _)]
  unfold State.manifestExpiry
  repeat' split
  exacts [.refl s, .refl s, overdue _, .refl s]

/-! ### The Lane Controllers (R51 to R66) -/

theorem openParcel_lawsKept (lane account : Nat) (pairs : List (Nat × Nat)) (s : State) :
    s.LawsKept (openParcel lane account pairs s).state := by
  have bound : ∀ l (u : State) p, u.LawsKept (u.bindPair l account p) := fun l u p => by
    unfold State.bindPair
    split <;> exact .elsewhere
  have opened : ∀ l, s.LawsKept (s.openParcel l account pairs) := fun l =>
    (State.LawsKept.foldl pairs (fun p _ u => bound l u p) s).trans .elsewhere
  unfold openParcel
  repeat' split
  exacts [.refl s, .refl s, .refl s, .refl s, .refl s, .refl s, .refl s, opened _]

theorem presented_lawsKept (s : State) (l : LaneId) : s.LawsKept (s.presented l) := by
  have afresh : s.LawsKept (s.presentAfresh l) := by
    unfold State.presentAfresh
    split
    · unfold State.admission
      split
      exacts [(State.LawsKept.elsewhere (t := s.createItem l _ _)).trans (testItem_lawsKept _ _), .refl s]
    · exact .elsewhere
  unfold State.presented
  split
  exacts [.refl s, afresh, afresh]

theorem atEnd_lawsKept (s : State) (l : LaneId) (ticket : Nat) : s.LawsKept (s.atEnd l ticket) := by
  have arrives : ∀ (u : State) n, u.LawsKept (u.arrive l n) := fun u n => by
    unfold State.arrive
    repeat' split
    all_goals exact .elsewhere
  unfold State.atEnd
  dsimp only
  split
  · exact offer_lawsKept _ _ _
  · exact (State.LawsKept.foldl _ (fun m _ u => withdraw_lawsKept u m .skipped true) s).trans (arrives _ _)

theorem decisionExpiry_lawsKept (s : State) (l : LaneId) : s.LawsKept (s.decisionExpiry l) := by
  have atOnce : ∀ (u : State) n, u.LawsKept (u.decideAtOnce n) := fun u n => by
    unfold State.decideAtOnce
    repeat' split
    exacts [.refl u, .refl u, (State.LawsKept.elsewhere (t := u.modItem n Item.giveUp)).trans (decideItem_lawsKept _ _)]
  unfold State.decisionExpiry
  repeat' split
  exacts [.refl s, (State.LawsKept.elsewhere (t := s.modLane l fun x => { x with timer := none })).trans (atOnce _ _),
    .refl s]

theorem close_lawsKept (s : State) (l : LaneId) (cause : CloseCause) : s.LawsKept (s.close l cause) :=
  (State.LawsKept.elsewhere (t := s.modLane l fun x => { x with state := .closing, closeCause := some cause })).trans
    (settlementTest_lawsKept _ l)

theorem closeParcel_lawsKept (lane : Nat) (s : State) : s.LawsKept (closeParcel lane s).state := by
  unfold closeParcel
  repeat' split
  exacts [.refl s, .refl s, close_lawsKept s _ .host, .refl s]

theorem parcelDone_lawsKept (s : State) (l : LaneId) : s.LawsKept (s.parcelDone l) := by
  unfold State.parcelDone
  split
  exacts [.refl s, close_lawsKept s l .key, .refl s]

theorem abortLane_lawsKept (lane : Nat) (s : State) : s.LawsKept (abortLane lane s).state := by
  unfold abortLane
  split
  exacts [.refl s, abort_lawsKept s _ _ _]

/-! ### The Plan Store and the Destination Controller (R99 to R108, R155 to R166) -/

theorem writeBank_lawsKept (inRange : Bool) (f : Bank → Bank) (s : State) :
    s.LawsKept (s.writeBank inRange f).state := by
  unfold State.writeBank
  repeat' split
  all_goals exact .elsewhere

theorem switchPlan_lawsKept (s : State) : s.LawsKept (switchPlan s).state := by
  have switched : s.LawsKept s.switchBanks := by
    unfold State.switchBanks
    cases s.activeBank <;> exact .aside (by simp) (by simp) (by simp)
  unfold switchPlan
  repeat' split
  exacts [.elsewhere, .elsewhere, switched]

theorem advance_lawsKept (s : State) (d : Nat) : s.LawsKept (s.advance d) := .aside (by simp) (by simp) (by simp)

theorem complete_lawsKept (s : State) (d : Nat) (t : Tote) (reason : CompletionReason) (item : Nat) :
    s.LawsKept (s.complete d t reason item) := .aside (by simp) (by simp) (by simp)

theorem confirmSwap_lawsKept (d : Nat) (s : State) : s.LawsKept (confirmSwap d s).state := by
  unfold confirmSwap
  repeat' split
  exacts [.refl s, advance_lawsKept s d, .refl s, .refl s, .refl s]

theorem setLimit_lawsKept (d : Nat) (limit : Option Nat) (s : State) : s.LawsKept (setLimit d limit s).state := by
  have released : ∀ u : State, u.LawsKept (u.releaseLimit d) := fun u => by
    unfold State.releaseLimit
    repeat' split
    exacts [.refl u, advance_lawsKept u d, .refl u, .refl u, .refl u]
  unfold setLimit
  split
  exacts [.refl s, (State.LawsKept.elsewhere (t := s.modDest d fun x => { x with limit := limit })).trans (released _)]

theorem closeTote_lawsKept (d tote : Nat) (s : State) : s.LawsKept (closeTote d tote s).state := by
  unfold closeTote
  repeat' split
  exacts [.refl s, .refl s, .refl s, complete_lawsKept s d _ .forced 0, .refl s, .refl s]

/-! ### The Sorter Tracker (R133 to R147) -/

theorem carrierAt_lt (origin position : Nat) : carrierAt origin position < 96 := Nat.mod_lt _ (by decide)

/-- R139: the item goes on a carrier of the loop. -/
theorem grant_lawsKept (s : State) (l : LaneId) (n : Nat) {carrier : Nat} (loop : carrier < 96) :
    s.LawsKept (s.grant l n carrier) := by
  refine ⟨rfl, fun lawful => ?_, id⟩
  have h := (sorter_lawful_iff _).1 lawful
  refine (sorter_lawful_iff _).2 ⟨h.origin, h.revolution, h.unaligned, fun e he => ?_, h.gates⟩
  rcases mem_putEntry _ _ _ e he with rfl | he
  exacts [loop, h.carriers e he]

theorem mergeWork_lawsKept (s : State) : s.LawsKept s.mergeWork := by
  unfold State.mergeWork
  dsimp only
  repeat' split
  exacts [.elsewhere, grant_lawsKept s _ _ (carrierAt_lt _ _), .refl s, .refl s]

theorem fireGate_lawsKept (s : State) {g : Nat} (gate : g ≤ 16) : s.LawsKept (s.fireGate g) :=
  .tracker fun h => ⟨h.origin, h.revolution, h.unaligned, h.carriers, fun a ha =>
    ((mem_insertGate _ _ _).1 ha).elim (fun e => e ▸ gate) (h.gates a)⟩

theorem claim_lawsKept (s : State) (n : Nat) (it : Item) {d : Nat} (gate : d ≤ 16) : s.LawsKept (s.claim n it d) := by
  have after : ∀ (u : State) t, u.LawsKept (u.afterDrop d t n) := fun _ _ => .aside (by simp) (by simp) (by simp)
  have dropped : ∀ t w, s.LawsKept (s.acceptDrop n it d t w) := fun t w =>
    (State.LawsKept.elsewhere (t := s.modDest d fun x => { x with state := .active (t.countDrop w s.line.clock) })).trans <|
      (fireGate_lawsKept _ gate).trans <| (closeRecord_lawsKept _ n it _).trans <|
        (after _ _).trans (afterRetirement_lawsKept _ it true)
  unfold State.claim
  dsimp only
  repeat' split
  exacts [.refl s, .refl s, .elsewhere, complete_lawsKept s d _ _ n, dropped _ _]

theorem gateWork_lawsKept (s : State) {g : Nat} (gate : g ≤ 16) : s.LawsKept (s.gateWork g) := by
  unfold State.gateWork
  repeat' split
  · exact .refl s
  · exact .refl s
  · next e => exact claim_lawsKept s _ _ (e ▸ gate)
  · exact .refl s
  · exact (fireGate_lawsKept s (Nat.le_refl 16)).trans <|
      (closeRecord_lawsKept _ _ _ _).trans (afterRetirement_lawsKept _ _ true)
  · exact .refl s

/-- The gates whose items have come are gates of the part. -/
theorem gate_of_mem_pitchActs {s : State} {missing suspended : Bool} {g : Nat}
    (h : PitchAct.gate g ∈ s.pitchActs missing suspended) : g ≤ 16 := by
  have due : g < 17 ∧ s.gateDue g = true := by
    unfold State.pitchActs at h
    rcases List.mem_append.1 h with h | h
    · split at h
      · cases List.mem_singleton.1 h
      · cases h
    · split at h
      · cases h
      · simpa using h
  exact Nat.lt_succ_iff.1 due.1

theorem countDraw_lawsKept (s : State) (choices : Nat) : s.LawsKept (s.countDraw choices) :=
  .aside (by simp) (by simp) (by simp)

theorem pitch_lawsKept (s : State) : s.LawsKept s.pitch := by
  have moved : s.LawsKept { s with sorter := s.sorter.advance } :=
    .tracker fun h => s.sorter.advance_eq_pitched ▸ pitched_lawful h
  refine moved.trans <| (State.LawsKept.foldl _ (fun a ha u => ?_) _).trans (countDraw_lawsKept _ _)
  cases a with
  | indexMissing => exact (offer_lawsKept u _ _).trans (setPause_lawsKept _ _ _)
  | merge => exact mergeWork_lawsKept u
  | gate g => exact gateWork_lawsKept u (gate_of_mem_pitchActs ((freeOrder_perm _ _).mem_iff.1 ha))

/-- R145, R146: an index edge leaves no passage counted. -/
theorem indexed_lawful {x : Sorter} (h : x.Lawful) {origin : Nat} (loop : origin < 96) (aligned : Bool) :
    ({ x with origin := origin, aligned := aligned, revolution := 0 } : Sorter).Lawful :=
  ⟨loop, Nat.zero_lt_two, fun _ => rfl, h.carriers, h.gates⟩

theorem indexEdge_lawsKept (s : State) : s.LawsKept s.indexEdge := by
  have slipped : s.LawsKept s.slip :=
    (offer_lawsKept s _ _).trans <|
      (State.LawsKept.tracker fun h => indexed_lawful h (by decide) _).trans (setPause_lawsKept _ _ _)
  unfold State.indexEdge
  repeat' split
  · exact .tracker fun h => indexed_lawful h h.origin _
  · exact slipped
  · exact .tracker fun h => indexed_lawful h (by decide) _

/-! ### The Line Controller (R172 to R183) -/

/-- R172: the hold mark follows the input. -/
theorem holdLevel_lawsKept (s : State) (high : Bool) : s.LawsKept (s.holdLevel high) := by
  unfold State.holdLevel
  split
  · exact .refl s
  · refine ⟨by simp, fun h => by simpa using h, fun h => ?_⟩
    rw [offerLineState_line]
    exact (line_law_iff _).2 { (line_law_iff _).1 h with hold := rfl }

theorem startLine_lawsKept (s : State) : s.LawsKept (startLine s).state := by
  unfold startLine
  repeat' split
  exacts [.refl s, .refl s, .refl s, .refl s, .refl s, offerLineState_lawsKept s _ _]

theorem clearPause_lawsKept (s : State) : s.LawsKept s.clearPause := by
  unfold State.clearPause
  split
  exacts [offerLineState_lawsKept s _ _, .refl s]

theorem stopAs_lawsKept (s : State) (kind : StopKind) : s.LawsKept (s.stopAs kind) := by
  have stopped : s.LawsKept
      (State.offerLineState { s with line := { s.line with mode := .draining kind } } .stop).endTest :=
    (offerLineState_lawsKept s _ _).trans (endTest_lawsKept _)
  have cut : ∀ u : State, u.LawsKept u.cutLanes := fun u =>
    (State.LawsKept.foldl _ (fun l _ u => abort_lawsKept u l .cut .cut) u).trans <|
      (State.LawsKept.foldl _ (fun l _ u => abort_lawsKept u l .cut .cut) _).trans (countDraw_lawsKept _ _)
  unfold State.stopAs
  cases kind with
  | drain => exact stopped
  | cut => exact stopped.trans <| (cut _).trans .elsewhere

theorem stopLine_lawsKept (kind : Coded StopKind) (s : State) : s.LawsKept (stopLine kind s).state := by
  have stopped : ∀ kind, s.LawsKept (s.stop kind) := fun kind => by
    unfold State.stop
    split
    exacts [.refl s, stopAs_lawsKept s _, stopAs_lawsKept s _, .refl s, .refl s]
  unfold stopLine
  repeat' split
  exacts [.refl s, .refl s, stopped _]

theorem configure_lawsKept (name : SettingName) (value : SettingValue) (s : State) :
    s.LawsKept (configure name value s).state := by
  have aside : (s.writeSetting name value).port = s.port ∧ (s.writeSetting name value).sorter = s.sorter := by
    unfold State.writeSetting
    split <;> exact ⟨rfl, rfl⟩
  unfold configure
  split
  · exact .refl s
  · next exist =>
    split
    · exact .refl s
    · split
      · exact .refl s
      · next admits =>
        simp only [Bool.not_eq_true', Bool.not_eq_false] at exist admits
        exact ⟨aside.1, fun h => aside.2 ▸ h, fun h =>
          (line_law_iff _).2 (writeSetting_line exist admits ((line_law_iff _).1 h))⟩

/-! ### The resets and the clock (R150, R171, R182, R183) -/

theorem warm_sorter_lawful {x : Sorter} (h : x.Lawful) : x.warm.Lawful :=
  ⟨h.origin, Nat.zero_lt_two, fun _ => rfl, nofun, nofun⟩

theorem warm_line_lawful {l : LineControl} (h : l.Lawful) : l.warm.Lawful := { h with hold := rfl }

theorem tick_lawsKept (s : State) : s.LawsKept s.tick := by
  have waits : s.LawsKept s.countWaits := by
    unfold State.countWaits
    split
    exacts [.refl s, .elsewhere]
  refine waits.trans ⟨by simp [State.tick], fun h => by simpa [State.tick] using h, fun h => ?_⟩
  have clock : s.tick.line = { s.countWaits.line with clock := wrapNext 0 4294967295 s.countWaits.line.clock } := by
    simp [State.tick]
  rw [clock]
  exact (line_law_iff _).2 { (line_law_iff _).1 h with clock := wrapNext_le (Nat.zero_le _) _ }

/-! ### Every request leaves the port to its reply (R185, R186) -/

theorem lawsKept_of_state_eq {act : State → Answer} (h : ∀ u, (act u).state = u) (u : State) :
    u.LawsKept (act u).state := by
  rw [h]; exact .refl u

theorem request_lawsKept (c : Instr) (tag kind : Nat) (act : State → Answer) (h : requestAct c = some (tag, kind, act))
    (u : State) : u.LawsKept (act u).state := by
  cases c with
  | readItem tag item => cases h; exact lawsKept_of_state_eq (readItem_state item) u
  | withdrawItem tag item => cases h; exact withdrawItem_lawsKept item u
  | forceGrade tag item grade => cases h; exact forceGrade_lawsKept item grade u
  | loadReturn tag load => cases h; exact loadReturn_lawsKept load u
  | addTags => cases h; unfold addTags; (repeat' split) <;> exact .elsewhere
  | amendReturn => cases h; unfold amendReturn; (repeat' split) <;> exact .elsewhere
  | removeReturn => cases h; unfold removeReturn; (repeat' split) <;> exact .elsewhere
  | readReturn tag ra line => cases h; exact lawsKept_of_state_eq (readReturn_state ra line) u
  | openParcel tag lane account pairs => cases h; exact openParcel_lawsKept lane account pairs u
  | closeParcel tag lane => cases h; exact closeParcel_lawsKept lane u
  | abortLane tag lane => cases h; exact abortLane_lawsKept lane u
  | enrolStation => cases h; unfold enrolStation; (repeat' split) <;> exact .elsewhere
  | retireStation => cases h; unfold retireStation; (repeat' split) <;> exact .elsewhere
  | readStation => cases h; unfold readStation; split <;> exact .elsewhere
  | writeCheck => cases h; unfold writeCheck; split <;> exact writeBank_lawsKept _ _ u
  | writeList | writeProgram | writeThresholds | writeMap => cases h; exact writeBank_lawsKept _ _ u
  | clearBank => cases h; unfold clearBank; split <;> exact .elsewhere
  | validatePlan => cases h; unfold validatePlan; (repeat' split) <;> exact .elsewhere
  | switchPlan tag => cases h; exact switchPlan_lawsKept u
  | setShadow => cases h; unfold setShadow; split <;> exact .elsewhere
  | addTote => cases h; unfold addTote; (repeat' split) <;> exact .elsewhere
  | confirmSwap tag dest => cases h; exact confirmSwap_lawsKept dest u
  | setLimit tag dest limit => cases h; exact setLimit_lawsKept dest limit u
  | closeTote tag dest tote => cases h; exact closeTote_lawsKept dest tote u
  | dropChain => cases h; unfold dropChain; split <;> exact .elsewhere
  | readDestination tag dest => cases h; exact lawsKept_of_state_eq (readDestination_state dest) u
  | startLine tag => cases h; exact startLine_lawsKept u
  | pauseLine => cases h; exact setPause_lawsKept u _ _
  | resumeLine tag => cases h; exact clearPause_lawsKept u
  | stopLine tag kind => cases h; exact stopLine_lawsKept kind u
  | configure tag name value => cases h; exact configure_lawsKept name value u
  | readSetting tag name => cases h; exact lawsKept_of_state_eq (readSetting_state name) u
  | fetchEvents => cases h; unfold fetchEvents; split <;> exact .elsewhere
  | warmReset | readStatus | unknownRequest | malformedRequest => cases h; exact .refl u
  | _ => cases h

/-! ### Every step -/

/-- Whatever made the second state of the first kept the three laws. -/
structure State.AllLawsKept (s t : State) : Prop where
  sorter : s.sorter.lawful = true → t.sorter.lawful = true
  line   : s.line.lawful = true → t.line.lawful = true
  port   : s.port.Lawful → t.port.Lawful

theorem State.LawsKept.all {s t : State} (h : s.LawsKept t) : s.AllLawsKept t := ⟨h.sorter, h.line, fun p => h.port ▸ p⟩

/-- The port alone changes. -/
theorem port_allLawsKept (s : State) {p : Port} (h : s.port.Lawful → p.Lawful) : s.AllLawsKept { s with port := p } :=
  ⟨id, id, h⟩

theorem busy_allLawsKept (s : State) (tag kind : Nat) : s.AllLawsKept (s.frameTaken.answerBusy tag kind) :=
  ⟨fun h => by simpa using h, fun h => by simpa using h, fun h =>
    answerBusy_lawful (s := s.frameTaken) (receiving_lawful h _) tag kind⟩

/-- R186: a frame is answered BUSY, or its request's reply is the one of the request now in service. -/
theorem serve_allLawsKept (s : State) (tag kind : Nat) (act : State → Answer)
    (h : ∀ u : State, u.LawsKept (act u).state) : s.AllLawsKept (s.serve tag kind act) := by
  cases serving : s.serving with
  | true => rw [serve_busy s tag kind act serving]; exact busy_allLawsKept s tag kind
  | false =>
    rw [serve_free s tag kind act serving]
    have acted := h s.frameTaken
    refine ⟨fun l => by simpa using acted.sorter l, fun l => by simpa using acted.line l, fun p => reply_lawful ?_ ?_ _⟩
    · rw [acted.port]; exact receiving_lawful p _
    · rw [acted.port]; exact Option.isSome_eq_false_iff.1 serving |> Option.isNone_iff_eq_none.1

theorem warm_allLawsKept (s : State) (awaits : s.port.awaitsReset = true) : s.AllLawsKept s.warm :=
  ⟨fun h => (sorter_lawful_iff _).2 (warm_sorter_lawful ((sorter_lawful_iff _).1 h)),
    fun h => (line_law_iff _).2 (warm_line_lawful ((line_law_iff _).1 h)),
    fun h => unserved_lawful h (awaitsReset_free h awaits)⟩

theorem cold_allLawsKept (s : State) (holdHigh : Bool) (strap : LinkRate) (pending : List Instr) (draws : Nat) :
    s.AllLawsKept (State.cold holdHigh strap pending draws) :=
  ⟨fun _ => (by decide : Sorter.cold.lawful = true), fun _ => cold_line_lawful holdHigh,
    fun _ => ⟨Nat.zero_le _, fun _ => rfl, trivial⟩⟩

theorem exec_allLawsKept (c : Instr) (s : State) : ∃ t, exec c s = .next t ∧ s.AllLawsKept t := by
  cases hc : requestAct c with
  | some r =>
    obtain ⟨tag, kind, act⟩ := r
    exact ⟨_, exec_request c tag kind act hc s, serve_allLawsKept s tag kind act (request_lawsKept c tag kind act hc)⟩
  | none =>
    cases c with
    | coldReset holdHigh strap => exact ⟨_, rfl, cold_allLawsKept s holdHigh strap _ _⟩
    | warmResetActs =>
      refine ⟨_, rfl, ?_⟩
      split
      · next awaits => exact warm_allLawsKept s awaits
      · exact (State.LawsKept.refl s).all
    | hold high => exact ⟨_, rfl, (holdLevel_lawsKept s high).all⟩
    | pitch => exact ⟨_, rfl, (pitch_lawsKept s).all⟩
    | index => exact ⟨_, rfl, (indexEdge_lawsKept s).all⟩
    | sweepTimer => exact ⟨_, rfl, (sweepExpiry_lawsKept s).all⟩
    | turnTimeout partialAnswer => exact ⟨_, rfl, (turnPassed_lawsKept s partialAnswer).all⟩
    | manifestWaitExpiry ra => exact ⟨_, rfl, (manifestExpiry_lawsKept s ra).all⟩
    | decisionWaitExpiry lane => exact ⟨_, rfl, (decisionExpiry_lawsKept s lane).all⟩
    | interbyteTimeout | frameDiscarded => exact ⟨_, rfl, port_allLawsKept s fun h => receiving_lawful h _⟩
    | replySent => exact ⟨_, rfl, port_allLawsKept s replySent_lawful⟩
    | sweepFrameSent => exact ⟨_, rfl, (bus_lawsKept s _).all⟩
    | busy tag kind =>
      refine ⟨_, rfl, ?_⟩
      split
      exacts [busy_allLawsKept s tag kind, (State.LawsKept.refl s).all]
    | nothing a => exact ⟨_, rfl, (takeAnswer_lawsKept s a _ _ _ fun _ u => .refl u).all⟩
    | presented a => exact ⟨_, rfl, (takeAnswer_lawsKept s a _ _ _ fun x u => presented_lawsKept u x.lane).all⟩
    | parcelDone a => exact ⟨_, rfl, (takeAnswer_lawsKept s a _ _ _ fun x u => parcelDone_lawsKept u x.lane).all⟩
    | atEnd a => exact ⟨_, rfl, (takeAnswer_lawsKept s a _ _ _ fun x u => atEnd_lawsKept u x.lane a.ticket).all⟩
    | tagReading a | weight a | vision a =>
      exact ⟨_, rfl, (takeAnswer_lawsKept s a _ _ _ fun x u => deliver_lawsKept u x _ _ _).all⟩
    | garbledAnswer => exact ⟨_, rfl, (takeGarbled_lawsKept s).all⟩
    | answerOutsideTurn => exact ⟨_, rfl, (State.LawsKept.refl s).all⟩
    | _ => cases hc

theorem step_allLawsKept {s t : State} (h : step s = .next t) : s.AllLawsKept t := by
  unfold step at h
  split at h
  · cases h
    exact (tick_lawsKept s).all
  · next c rest _ =>
    obtain ⟨u, hu, kept⟩ := exec_allLawsKept c { s with pending := rest }
    rw [hu] at h
    cases h
    exact ⟨kept.sorter, kept.line, kept.port⟩

/-- Settles O60: every act of a step keeps the tracker's and the line's laws, and every change of the port keeps the
port's. -/
theorem everyStepKeepsSorterLineAndPort : Obligations.EveryStepKeepsSorterLineAndPort := fun _ _ h =>
  ⟨(step_allLawsKept h).sorter, (step_allLawsKept h).line, fun lawful =>
    (port_lawful_iff _).2 ((step_allLawsKept h).port ((port_lawful_iff _).1 lawful))⟩

end Sys2Proof.Machine
end

section
/-! What the completion of a tote and an accepted drop do to a destination, and the events they store, in their order
(R155 to R159). -/

namespace Sys2Proof.Machine

/-! ### Several offers in a row (R181, R189) -/

/-- The events are offered one after another. -/
def State.offerEvents (s : State) (events : List Event) : State := events.foldl (fun u e => u.offer e.item e.body) s

theorem offerEvents_append (s : State) (xs ys : List Event) :
    s.offerEvents (xs ++ ys) = (s.offerEvents xs).offerEvents ys := List.foldl_append

theorem offerEvents_changes_queue (s : State) (events : List Event) : ∃ q, s.offerEvents events = { s with queue := q } := by
  induction events generalizing s with
  | nil => exact ⟨s.queue, rfl⟩
  | cons e rest ih =>
    obtain ⟨q, hq⟩ := offer_changes_queue s e.item e.body
    obtain ⟨r, hr⟩ := ih { s with queue := q }
    exact ⟨r, by rw [← hr, ← hq]; rfl⟩

@[simp] theorem offerEvents_line (s : State) (events : List Event) : (s.offerEvents events).line = s.line := by
  obtain ⟨q, h⟩ := offerEvents_changes_queue s events; rw [h]
@[simp] theorem offerEvents_totes (s : State) (events : List Event) : (s.offerEvents events).totes = s.totes := by
  obtain ⟨q, h⟩ := offerEvents_changes_queue s events; rw [h]

/-- What is stored of offers made now is some of them, in their order. -/
theorem offerEvents_stored (s : State) (events : List Event) (now : ∀ e ∈ events, e.time = s.line.clock) :
    ∃ stored, (s.offerEvents events).queue.events = s.queue.events ++ stored ∧ stored.Sublist events := by
  induction events generalizing s with
  | nil => exact ⟨[], (List.append_nil _).symm, .refl _⟩
  | cons e rest ih =>
    obtain ⟨stored, hs, sub⟩ := ih (s.offer e.item e.body) fun a ha => by
      rw [offer_line]; exact now a (List.mem_cons_of_mem _ ha)
    have first : (s.offer e.item e.body).queue.events = s.queue.events ++ [e] ∨
        (s.offer e.item e.body).queue.events = s.queue.events := by
      unfold State.offer
      rw [← now e List.mem_cons_self]
      repeat' split
      exacts [.inl rfl, .inr rfl, .inr rfl]
    rcases first with first | first
    · exact ⟨e :: stored, by rw [List.append_cons, ← first]; exact hs, sub.cons_cons e⟩
    · exact ⟨stored, by rw [← first]; exact hs, sub.cons e⟩

/-- With the kinds enabled and room for all, every offer is stored. -/
theorem offerEvents_all (s : State) (events : List Event) (now : ∀ e ∈ events, e.time = s.line.clock)
    (enabled : ∀ e ∈ events, s.enabled e.body.kind = true) (room : s.used + s.live + events.length ≤ 256) :
    (s.offerEvents events).queue.events = s.queue.events ++ events := by
  induction events generalizing s with
  | nil => exact (List.append_nil _).symm
  | cons e rest ih =>
    rw [List.length_cons] at room
    have free : s.roomForEvent = true := decide_eq_true (by show _ < 256; omega)
    have stored := offer_stored s e.item e.body (enabled e List.mem_cons_self) free
    rw [← now e List.mem_cons_self] at stored
    have used : (s.offer e.item e.body).used = s.used + 1 := by rw [stored]; exact List.length_append
    have live : (s.offer e.item e.body).live = s.live := live_of_items_eq (offer_items _ _ _)
    have after := ih (s.offer e.item e.body) (fun a ha => by rw [offer_line]; exact now a (List.mem_cons_of_mem _ ha))
      (fun a ha => by unfold State.enabled; rw [offer_line]; exact enabled a (List.mem_cons_of_mem _ ha)) (by omega)
    refine after.trans ?_
    rw [stored]
    exact (List.append_cons _ _ _).symm

/-- An offer does not look at the destinations. -/
theorem offer_modDest (s : State) (d : Nat) (f : Destination → Destination) (item : Nat) (body : EventBody) :
    (s.modDest d f).offer item body = (s.offer item body).modDest d f := by
  have enabled : (s.modDest d f).enabled body.kind = s.enabled body.kind := rfl
  have room : (s.modDest d f).roomForEvent = s.roomForEvent := rfl
  unfold State.offer
  rw [enabled, room]
  repeat' split
  all_goals rfl

theorem offerEvents_modDest (s : State) (d : Nat) (f : Destination → Destination) (events : List Event) :
    (s.modDest d f).offerEvents events = (s.offerEvents events).modDest d f := by
  induction events generalizing s with
  | nil => rfl
  | cons e rest ih =>
    refine Eq.trans ?_ (ih (s.offer e.item e.body))
    exact congrArg (fun u => State.offerEvents u rest) (offer_modDest s d f e.item e.body)

theorem lookup_modDest {s : State} {d : Nat} {x : Destination} (h : s.totes.dests.lookup d = some x)
    (f : Destination → Destination) : (s.modDest d f).totes.dests.lookup d = some (f x) := by
  simp [h]

theorem lookup_modDest_other (s : State) {d k : Nat} (h : k ≠ d) (f : Destination → Destination) :
    (s.modDest d f).totes.dests.lookup k = s.totes.dests.lookup k :=
  lookup_modify_other _ _ _ _ (Ne.symm h)

/-! ### The destination after a completion (R157 to R159) -/

/-- The destination with the completed tote in its lot (R158). -/
def Destination.intoLot (x : Destination) (t : Tote) (y : Destination) : Destination :=
  { y with lot := if t.lotEnd = true then none else some (x.lotWith t) }

/-- The destination after its next step: STALLED, ACTIVE with its next tote, or STARVED (R159). -/
def Destination.next (x : Destination) (t : Tote) (y : Destination) : Destination :=
  if x.stallsOn t then { y with state := .stalled x.mode t.id }
  else
    match x.queued with
    | [] => { y with state := .starved }
    | q :: rest => { y with state := .active q, queued := rest }

/-- What the completion of tote `t` at destination `x` does to the destination (R157). -/
def Destination.completion (x : Destination) (t : Tote) (y : Destination) : Destination := x.next t (x.intoLot t y)

theorem growLot_eq (x : Destination) (t : Tote) : growLot x.lot t = x.lotWith t := by
  unfold growLot Destination.lotWith
  cases x.lot <;> simp

theorem stallsOn_iff (x : Destination) (t : Tote) : x.stallsOn t = true ↔ x.stalls t := by
  unfold Destination.stallsOn Destination.stalls
  cases x.mode <;> simp

/-- The change of `Destination.completion` is the one that R157 to R159 describe. -/
theorem completion_completed (x : Destination) (t : Tote) : x.Completed t (x.completion t x) := by
  unfold Destination.Completed Destination.completion Destination.next
  rw [← stallsOn_iff]
  cases x.stallsOn t with
  | true => exact ⟨rfl, rfl, rfl, fun _ => ⟨rfl, rfl⟩, fun h => absurd rfl h, fun h => absurd rfl h⟩
  | false =>
    cases queued : x.queued with
    | nil => exact ⟨rfl, rfl, rfl, nofun, nofun, fun _ _ => ⟨rfl, queued⟩⟩
    | cons q rest =>
      refine ⟨rfl, rfl, rfl, nofun, fun _ q' rest' h => ?_, nofun⟩
      cases h
      exact ⟨rfl, rfl⟩

/-! ### The events of a completion (R157 to R159) -/

/-- LOT COMPLETE, of a LOT END tote (R158). -/
def Destination.lotEvents (x : Destination) (d : Nat) (t : Tote) (clock : Nat) : List Event :=
  if t.lotEnd = true then
    [⟨clock, 0, .lotComplete d (x.lotWith t).first t.id (x.lotWith t).totes (x.lotWith t).items⟩]
  else []

/-- LOT OPEN AT STOP, of a destination that has stalled or starved with its lot tracker open (R159). -/
def Destination.lotOpenEvents (y : Destination) (d clock : Nat) : List Event :=
  y.lot.toList.map fun lot => ⟨clock, 0, .lotOpenAtStop d lot.first lot.totes lot.items⟩

/-- The events of the next step of a destination, which is `y` after it (R159). -/
def Destination.nextEvents (y : Destination) (d clock : Nat) : List Event :=
  match y.state with
  | .active _ => []
  | .stalled cause tote => ⟨clock, 0, .destinationStalled d cause tote y.queued.length⟩ :: y.lotOpenEvents d clock
  | .starved => ⟨clock, 0, .destinationStarved d⟩ :: y.lotOpenEvents d clock

theorem completionEvents_eq (x y : Destination) (d : Nat) (t : Tote) (reason : CompletionReason) (item clock : Nat) :
    x.completionEvents y d t reason item clock =
      ⟨clock, item, .toteComplete t.id d t.count t.weight reason t.firstDrop⟩ ::
        (x.lotEvents d t clock ++ y.nextEvents d clock) := by
  unfold Destination.completionEvents Destination.nextEvents Destination.lotOpenEvents
  rw [List.append_assoc, List.append_assoc]
  refine congrArg (List.cons _) (congrArg (x.lotEvents d t clock ++ ·) ?_)
  cases y.state <;> cases y.lot <;> rfl

/-- The event kinds of a drop's tote (R156 to R159). -/
def toteKinds : List EventKind :=
  [.toteNearFull, .toteComplete, .lotComplete, .destinationStalled, .destinationStarved, .lotOpenAtStop]

/-- What every event of a list of them is: one of a tote, of this moment. -/
def Event.OfTote (clock : Nat) (e : Event) : Prop := e.time = clock ∧ e.body.kind ∈ toteKinds

theorem lotEvents_ofTote (x : Destination) (d : Nat) (t : Tote) (clock : Nat) :
    ∀ e ∈ x.lotEvents d t clock, e.OfTote clock := by
  intro e he
  unfold Destination.lotEvents at he
  split at he
  · cases List.mem_singleton.1 he; exact ⟨rfl, by simp [toteKinds, EventBody.kind]⟩
  · cases he

theorem nextEvents_ofTote (y : Destination) (d clock : Nat) : ∀ e ∈ y.nextEvents d clock, e.OfTote clock := by
  have lotOpen : ∀ e ∈ y.lotOpenEvents d clock, e.OfTote clock := fun e he => by
    obtain ⟨lot, _, rfl⟩ := List.mem_map.1 he
    exact ⟨rfl, by simp [toteKinds, EventBody.kind]⟩
  intro e he
  unfold Destination.nextEvents at he
  split at he
  · cases he
  · rcases List.mem_cons.1 he with rfl | he
    exacts [⟨rfl, by simp [toteKinds, EventBody.kind]⟩, lotOpen e he]
  · rcases List.mem_cons.1 he with rfl | he
    exacts [⟨rfl, by simp [toteKinds, EventBody.kind]⟩, lotOpen e he]

theorem completionEvents_ofTote (x y : Destination) (d : Nat) (t : Tote) (reason : CompletionReason) (item clock : Nat) :
    ∀ e ∈ x.completionEvents y d t reason item clock, e.OfTote clock := by
  intro e he
  rw [completionEvents_eq, List.mem_cons, List.mem_append] at he
  rcases he with rfl | he | he
  exacts [⟨rfl, by simp [toteKinds, EventBody.kind]⟩, lotEvents_ofTote x d t clock e he, nextEvents_ofTote y d clock e he]

theorem completionEvents_length (x y : Destination) (d : Nat) (t : Tote) (reason : CompletionReason) (item clock : Nat) :
    (x.completionEvents y d t reason item clock).length ≤ 4 := by
  have lot : (x.lotEvents d t clock).length ≤ 1 := by
    unfold Destination.lotEvents
    split <;> simp
  have lotOpen : (y.lotOpenEvents d clock).length ≤ 1 := by
    unfold Destination.lotOpenEvents
    cases y.lot <;> simp
  have next : (y.nextEvents d clock).length ≤ 2 := by
    unfold Destination.nextEvents
    split
    exacts [Nat.zero_le _, Nat.succ_le_succ lotOpen, Nat.succ_le_succ lotOpen]
  rw [completionEvents_eq, List.length_cons, List.length_append]
  omega

/-! ### The completion as one change and its events (R157) -/

theorem offerLotOpen_eq {s : State} {d : Nat} {x : Destination} (h : s.totes.dests.lookup d = some x) :
    s.offerLotOpen d = s.offerEvents (x.lotOpenEvents d s.line.clock) := by
  unfold State.offerLotOpen Destination.lotOpenEvents
  rw [dest_of_lookup s d x h]
  cases x.lot <;> rfl

theorem takeIntoLot_eq {s : State} {d : Nat} {x : Destination} (h : s.totes.dests.lookup d = some x) (t : Tote) :
    s.takeIntoLot d t = (s.modDest d (x.intoLot t)).offerEvents (x.lotEvents d t s.line.clock) := by
  unfold State.takeIntoLot Destination.lotEvents Destination.intoLot
  rw [dest_of_lookup s d x h, growLot_eq]
  dsimp only
  cases t.lotEnd <;> rfl

theorem nextStep_eq {s : State} {d : Nat} {x : Destination} (h : s.totes.dests.lookup d = some x) (t : Tote) :
    s.nextStep d t = (s.modDest d (x.next t)).offerEvents ((x.next t x).nextEvents d s.line.clock) := by
  -- one offer after the change, and LOT OPEN AT STOP behind it
  have stops : ∀ (f : Destination → Destination) (body : EventBody),
      (((s.modDest d f).offer 0 body).offerLotOpen d) =
        (s.modDest d f).offerEvents (⟨s.line.clock, 0, body⟩ :: (f x).lotOpenEvents d s.line.clock) := fun f body => by
    have looked : ((s.modDest d f).offer 0 body).totes.dests.lookup d = some (f x) := by
      rw [offer_totes]; exact lookup_modDest h f
    rw [offerLotOpen_eq looked, offer_line]
    rfl
  unfold State.nextStep State.stall State.advance Destination.next
  rw [dest_of_lookup s d x h]
  cases x.stallsOn t with
  | true => exact stops _ _
  | false =>
    cases x.queued with
    | nil => exact stops _ _
    | cons q rest => rfl

theorem complete_eq {s : State} {d : Nat} {x : Destination} (h : s.totes.dests.lookup d = some x) (t : Tote)
    (reason : CompletionReason) (item : Nat) :
    s.complete d t reason item = (s.modDest d (x.completion t)).offerEvents
      (x.completionEvents (x.completion t x) d t reason item s.line.clock) := by
  have offered : (s.offer item (.toteComplete t.id d t.count t.weight reason t.firstDrop)).totes.dests.lookup d = some x := by
    rw [offer_totes]; exact h
  have taken : (State.takeIntoLot (s.offer item (.toteComplete t.id d t.count t.weight reason t.firstDrop))
      d t).totes.dests.lookup d = some (x.intoLot t x) := by
    rw [takeIntoLot_eq offered, offerEvents_totes]; exact lookup_modDest offered _
  unfold State.complete
  dsimp only
  rw [nextStep_eq taken, takeIntoLot_eq offered, completionEvents_eq]
  simp only [offerEvents_line, modDest_line, offer_line, offerEvents_modDest, modDest_modDest]
  rw [show (⟨s.line.clock, item, .toteComplete t.id d t.count t.weight reason t.firstDrop⟩ ::
    (x.lotEvents d t s.line.clock ++ (x.completion t x).nextEvents d s.line.clock) : List Event) =
      [⟨s.line.clock, item, .toteComplete t.id d t.count t.weight reason t.firstDrop⟩] ++
        (x.lotEvents d t s.line.clock ++ (x.completion t x).nextEvents d s.line.clock) from rfl,
    offerEvents_append, offerEvents_append]
  rfl

/-- Whatever the destination, its completion's events are added to those that are stored (R188). -/
theorem eventsGrow_complete (s : State) (d : Nat) (t : Tote) (reason : CompletionReason) (item : Nat) :
    s.eventsGrow (s.complete d t reason item) := by
  have lotOpen : ∀ u : State, u.eventsGrow (u.offerLotOpen d) := fun u => by
    unfold State.offerLotOpen
    split
    exacts [eventsGrow_refl u, eventsGrow_offer u _ _]
  have offered : ∀ (u : State) f item body, u.eventsGrow ((u.modDest d f).offer item body) := fun u f item body =>
    eventsGrow_offer (u.modDest d f) item body
  have lot : ∀ u : State, u.eventsGrow (u.takeIntoLot d t) := fun u => by
    unfold State.takeIntoLot
    dsimp only
    split
    exacts [offered u _ _ _, eventsGrow_of_queue_eq rfl]
  have next : ∀ u : State, u.eventsGrow (u.nextStep d t) := fun u => by
    unfold State.nextStep State.stall State.advance
    repeat' split
    exacts [(offered u _ _ _).trans (lotOpen _), eventsGrow_of_queue_eq rfl, (offered u _ _ _).trans (lotOpen _)]
  exact (eventsGrow_offer s _ _).trans ((lot _).trans (next _))

/-! ### An accepted drop at its tote (R156) -/

/-- The destination after a drop that left `t` its current tote. -/
def Destination.afterDrop (x : Destination) (t : Tote) (y : Destination) : Destination :=
  if t.count = t.capacity then x.completion t y else y

/-- The events of a drop's tote: its completion at the capacity, TOTE NEAR FULL at the warning count (R156). -/
def Destination.dropEvents (x : Destination) (d : Nat) (t : Tote) (item clock : Nat) : List Event :=
  if t.count = t.capacity then x.completionEvents (x.completion t x) d t .full item clock
  else if t.count = t.warnAt then [⟨clock, item, .toteNearFull t.id d t.count t.capacity t.weight⟩]
  else []

theorem dropEvents_ofTote (x : Destination) (d : Nat) (t : Tote) (item clock : Nat) :
    ∀ e ∈ x.dropEvents d t item clock, e.OfTote clock := by
  intro e he
  unfold Destination.dropEvents at he
  repeat' split at he
  · exact completionEvents_ofTote _ _ _ _ _ _ _ e he
  · cases List.mem_singleton.1 he; exact ⟨rfl, by simp [toteKinds, EventBody.kind]⟩
  · cases he

theorem dropEvents_length (x : Destination) (d : Nat) (t : Tote) (item clock : Nat) :
    (x.dropEvents d t item clock).length ≤ 4 := by
  unfold Destination.dropEvents
  repeat' split
  exacts [completionEvents_length _ _ _ _ _ _ _, Nat.succ_le_succ (Nat.zero_le 3), Nat.zero_le 4]

theorem modDest_id (s : State) (d : Nat) : s.modDest d (fun y => y) = s := by
  have entries : s.totes.dests.modify d (fun y => y) = s.totes.dests := by
    unfold Table.modify
    simp
  unfold State.modDest
  rw [entries]

theorem afterDrop_eq {s : State} {d : Nat} {x : Destination} (h : s.totes.dests.lookup d = some x) (t : Tote)
    (item : Nat) :
    s.afterDrop d t item = (s.modDest d (x.afterDrop t)).offerEvents (x.dropEvents d t item s.line.clock) := by
  unfold State.afterDrop Destination.afterDrop Destination.dropEvents
  by_cases full : t.count = t.capacity
  · simp only [if_pos full]
    exact complete_eq h t .full item
  · simp only [if_neg full, modDest_id]
    split <;> rfl

/-- What a drop brings about at its tote adds events to those that are stored (R188). -/
theorem eventsGrow_afterDrop (s : State) (d : Nat) (t : Tote) (item : Nat) : s.eventsGrow (s.afterDrop d t item) := by
  unfold State.afterDrop
  repeat' split
  exacts [eventsGrow_complete s d t _ _, eventsGrow_offer s _ _, eventsGrow_refl s]

end Sys2Proof.Machine
end

section
/-! The pitch as its acts in a free order, what every act of a pitch keeps, and the index edge (R134 to R146). -/

namespace Sys2Proof.Machine

/-! ### A pitch is its acts (R134, R144, R145) -/

/-- The state after the edge of a pitch alone (R134, R143, R145). -/
def State.pitched (s : State) : State := { s with sorter := s.sorter.pitched }

theorem misses_iff (x : Sorter) : x.misses = true ↔ x.aligned = true ∧ x.origin = 95 ∧ x.revolution ≠ 0 := by
  have raised : 2 ≤ x.revolution + 1 ↔ x.revolution ≠ 0 := by omega
  simp only [Sorter.misses, Sorter.passes, Bool.and_eq_true, decide_eq_true_eq, raised, and_assoc]
  exact Iff.rfl

theorem pitch_eq (s : State) :
    s.pitch = ((s.pitched.freeOrder (s.pitched.pitchActs s.sorter.misses s.suspended)).foldl State.pitchAct
      s.pitched).countDraw (s.pitched.pitchActs s.sorter.misses s.suspended).length := by
  unfold State.pitch State.pitched
  rw [Sorter.advance_eq_pitched]

theorem countDraw_eq (s : State) (choices : Nat) : ∃ k, s.countDraw choices = { s with draws := k } := by
  unfold State.countDraw
  split
  exacts [⟨s.draws, rfl⟩, ⟨_, rfl⟩]

/-- The acts of a pitch are taken one after another, in some order (log entry 3). -/
theorem exec_pitch_acts (s : State) : ∃ (order : List PitchAct) (k : Nat),
    order.Perm (s.pitched.pitchActs s.sorter.misses s.suspended) ∧
      exec .pitch s = .next { order.foldl State.pitchAct s.pitched with draws := k } := by
  obtain ⟨k, hk⟩ := countDraw_eq
    ((s.pitched.freeOrder (s.pitched.pitchActs s.sorter.misses s.suspended)).foldl State.pitchAct s.pitched)
    (s.pitched.pitchActs s.sorter.misses s.suspended).length
  exact ⟨_, k, freeOrder_perm _ _, congrArg _ ((pitch_eq s).trans hk)⟩

/-- A pitch of no act is its edge alone. -/
theorem exec_pitch_of_nil {s : State} (h : s.pitched.pitchActs s.sorter.misses s.suspended = []) :
    exec .pitch s = .next s.pitched := by
  refine congrArg _ ((pitch_eq s).trans ?_)
  rw [h]
  rfl

/-- A pitch of one act has one order. -/
theorem exec_pitch_of_single {s : State} {a : PitchAct}
    (h : s.pitched.pitchActs s.sorter.misses s.suspended = [a]) : exec .pitch s = .next (s.pitched.pitchAct a) := by
  refine congrArg _ ((pitch_eq s).trans ?_)
  rw [h]
  rfl

/-- The gates whose items have come, in their order (R140). -/
def State.dueGates (s : State) : List PitchAct := ((List.range 17).filter s.gateDue).map .gate

theorem pitchActs_suspended (s : State) (missing : Bool) :
    s.pitchActs missing true = if missing then [.indexMissing] else [] := List.append_nil _

theorem pitchActs_running (s : State) (missing : Bool) :
    s.pitchActs missing false = (if missing then [.indexMissing] else []) ++ .merge :: s.dueGates := rfl

theorem mem_pitchActs_gate {s : State} {missing : Bool} {g : Nat} :
    .gate g ∈ s.pitchActs missing false ↔ g ≤ 16 ∧ s.gateDue g = true := by
  rw [pitchActs_running]
  cases missing <;> simp [State.dueGates, Nat.lt_succ_iff]

theorem pitchActs_nodup (s : State) (missing suspended : Bool) : (s.pitchActs missing suspended).Nodup := by
  have gates : s.dueGates.Nodup := (List.nodup_range.filter _).map fun a b h => by cases h; rfl
  have merge : .merge ∉ s.dueGates := by simp [State.dueGates]
  have index : .indexMissing ∉ s.dueGates := by simp [State.dueGates]
  cases suspended with
  | true => rw [pitchActs_suspended]; cases missing <;> simp
  | false =>
    rw [pitchActs_running]
    cases missing <;> simp [gates, merge, index]

/-! ### What one act can do -/

/-- The merge: a lap for the item on the carrier, a grant to the first eligible lane, or nothing (R136 to R139). -/
inductive State.MergeEffect (s : State) : State → Prop
  | lapped (n : Nat) (brought : s.sorter.carriers.lookup (carrierAt s.sorter.origin 0) = some n) :
      s.MergeEffect (s.modItem n fun it => it.lap s.line.lapLimit)
  | granted (l : LaneId) (n : Nat) (eligible : s.eligible l = some n) :
      s.MergeEffect (s.grant l n (carrierAt s.sorter.origin 0))
  | nothing : s.MergeEffect s

theorem mergeWork_effect (s : State) : s.MergeEffect s.mergeWork := by
  unfold State.mergeWork
  dsimp only
  split
  · next n brought => exact .lapped n brought
  · split
    · split
      · next l n first => exact .granted l n (firstEligible_eq_some first)
      · exact .nothing
    · exact .nothing

/-- The work of a gate on the item it finds: a redirection, an overflow, a drop, a drop at gate E, or nothing (R140 to R142,
R155). -/
inductive State.GateEffect (s : State) (g : Nat) : State → Prop
  | redirected (n : Nat) (it : Item) (found : s.atGate g = some (n, it)) :
      s.GateEffect g (s.modItem n fun x => x.sendToE .tooHeavy)
  | completed (n : Nat) (it : Item) (found : s.atGate g = some (n, it)) (t : Tote) :
      s.GateEffect g (s.complete g t .weight n)
  | dropped (n : Nat) (it : Item) (found : s.atGate g = some (n, it)) (t : Tote) (w : Nat) :
      s.GateEffect g (s.acceptDrop n it g t w)
  | excepted (n : Nat) (it : Item) (found : s.atGate g = some (n, it)) (reason : ExcReason) (gateE : g = 16) :
      s.GateEffect g (s.exceptionDrop n it reason)
  | nothing : s.GateEffect g s

theorem gateWork_effect (s : State) (g : Nat) : s.GateEffect g (s.gateWork g) := by
  have claimed : ∀ n it, s.atGate g = some (n, it) → s.GateEffect g (s.claim n it g) := fun n it found => by
    unfold State.claim
    dsimp only
    repeat' split
    exacts [.nothing, .nothing, .redirected n it found, .completed n it found _, .dropped n it found _ _]
  unfold State.gateWork
  split
  · exact .nothing
  · next n it found =>
    split
    · exact .nothing
    · split
      · next d _ e => subst e; exact claimed n it found
      · exact .nothing
    · split
      · next gateE => exact .excepted n it found _ gateE
      · exact .nothing

/-- What a gate finds stands on the carrier at its position (R135). -/
theorem atGate_eq_some_iff {s : State} {g n : Nat} {it : Item} : s.atGate g = some (n, it) ↔
    ∃ p, s.line.gatePositions.lookup g = some p ∧
      s.sorter.carriers.lookup (carrierAt s.sorter.origin p) = some n ∧ s.item n = some it := by
  unfold State.atGate
  cases s.line.gatePositions.lookup g with
  | none => simp
  | some p =>
    cases hc : s.sorter.carriers.lookup (carrierAt s.sorter.origin p) with
    | none => simp [hc]
    | some m => simp only [Option.map_eq_some_iff, Prod.mk.injEq, Option.some.injEq, exists_eq_left', hc]; aesop

/-! ### What every act keeps -/

/-- What every act of a pitch leaves: the ring, the bus, the port, the line but for its mode and pause mark, the counters and
the programs; stored events stay stored. -/
structure State.PitchKept (s t : State) : Prop where
  origin     : t.sorter.origin = s.sorter.origin
  aligned    : t.sorter.aligned = s.sorter.aligned
  revolution : t.sorter.revolution = s.sorter.revolution
  events     : s.eventsGrow t
  bus        : t.bus = s.bus
  port       : t.port = s.port
  settings   : t.line.settings = s.line.settings
  nextNumber : t.items.nextNumber = s.items.nextNumber
  counters   : ∀ l, (t.lanes.at l).parcelCounter = (s.lanes.at l).parcelCounter ∧
    (t.lanes.at l).nextTicket = (s.lanes.at l).nextTicket
  programs   : ∀ b, (t.plan.banks.at b).programs = (s.plan.banks.at b).programs

namespace State.PitchKept

variable {s t u : State}

theorem refl (s : State) : s.PitchKept s :=
  ⟨rfl, rfl, rfl, eventsGrow_refl s, rfl, rfl, rfl, rfl, fun _ => ⟨rfl, rfl⟩, fun _ => rfl⟩

theorem trans (h : s.PitchKept t) (h' : t.PitchKept u) : s.PitchKept u :=
  ⟨h'.origin.trans h.origin, h'.aligned.trans h.aligned, h'.revolution.trans h.revolution, h.events.trans h'.events,
    h'.bus.trans h.bus, h'.port.trans h.port, h'.settings.trans h.settings, h'.nextNumber.trans h.nextNumber,
    fun l => ⟨(h'.counters l).1.trans (h.counters l).1, (h'.counters l).2.trans (h.counters l).2⟩,
    fun b => (h'.programs b).trans (h.programs b)⟩

theorem foldl {α : Type} {f : State → α → State} (h : ∀ (s : State) a, s.PitchKept (f s a)) (l : List α) (s : State) :
    s.PitchKept (l.foldl f s) := by
  induction l generalizing s with
  | nil => exact refl s
  | cons a rest ih => exact (h s a).trans (ih _)

/-- The blocks concerned stay, but for what the gates and the events hold. -/
theorem aside (events : s.eventsGrow t) (sorter : t.sorter = s.sorter := by simp) (bus : t.bus = s.bus := by simp)
    (port : t.port = s.port := by simp) (line : t.line = s.line := by simp) (items : t.items = s.items := by simp)
    (lanes : t.lanes = s.lanes := by simp) (plan : t.plan = s.plan := by simp) : s.PitchKept t :=
  ⟨by rw [sorter], by rw [sorter], by rw [sorter], events, bus, port, by rw [line], by rw [items],
    fun l => by rw [lanes]; exact ⟨rfl, rfl⟩, fun b => by rw [plan]⟩

theorem clock (h : s.PitchKept t) : t.line.clock = s.line.clock := (congrArg LineControl.clock h.settings :)

theorem gatePositions (h : s.PitchKept t) : t.line.gatePositions = s.line.gatePositions :=
  (congrArg LineControl.gatePositions h.settings :)

end State.PitchKept

theorem indexMissing_pitchKept (s : State) : s.PitchKept s.indexMissing := by
  have paused : ∀ u : State, u.PitchKept (u.setPause .index .index) := fun u => by
    unfold State.setPause
    split
    · exact .refl u
    · have marked : u.PitchKept { u with line := { u.line with pause := some .index } } :=
        ⟨rfl, rfl, rfl, eventsGrow_refl u, rfl, rfl, rfl, rfl, fun _ => ⟨rfl, rfl⟩, fun _ => rfl⟩
      exact marked.trans (.aside (eventsGrow_offer _ _ _))
  exact (State.PitchKept.aside (eventsGrow_offer s _ _)).trans (paused _)

theorem modItem_pitchKept (s : State) (n : Nat) (f : Item → Item) : s.PitchKept (s.modItem n f) :=
  ⟨rfl, rfl, rfl, eventsGrow_refl s, rfl, rfl, rfl, rfl, fun _ => ⟨rfl, rfl⟩, fun _ => rfl⟩

theorem grant_pitchKept (s : State) (l : LaneId) (n carrier : Nat) : s.PitchKept (s.grant l n carrier) := by
  refine ⟨rfl, rfl, rfl, eventsGrow_refl s, rfl, rfl, rfl, rfl, fun m => ?_, fun _ => rfl⟩
  show (((s.lanes.modify l _).at m).parcelCounter = _) ∧ ((s.lanes.modify l _).at m).nextTicket = _
  rw [quad_at_modify]
  split <;> exact ⟨rfl, rfl⟩

theorem mergeWork_pitchKept (s : State) : s.PitchKept s.mergeWork := by
  have effect := mergeWork_effect s
  generalize s.mergeWork = t at effect ⊢
  cases effect with
  | lapped n => exact modItem_pitchKept s n _
  | granted l n => exact grant_pitchKept s l n _
  | nothing => exact .refl s

theorem closeRecord_pitchKept (s : State) (n : Nat) (it : Item) (final : EventBody) :
    s.PitchKept (s.closeRecord n it final) := by
  refine ⟨rfl, rfl, rfl, ⟨_, rfl⟩, rfl, rfl, rfl, rfl, fun l => ?_, fun _ => rfl⟩
  rw [closeRecord_lanes, quad_at_modify]
  split <;> exact ⟨rfl, rfl⟩

theorem afterRetirement_pitchKept (s : State) (it : Item) : s.PitchKept (s.afterRetirement it true) := by
  have line := afterRetirement_told_line s it true
  refine ⟨by simp, by simp, by simp, eventsGrow_afterRetirement_told s it true, afterRetirement_bus s it true,
    afterRetirement_port s it true, by rw [line]; rfl, by simp, fun l => ?_, fun b => ?_⟩
  · rcases afterRetirement_lanes s it with ⟨_, h⟩ | ⟨_, h⟩
    · rw [h, quad_at_modify]
      split <;> exact ⟨rfl, rfl⟩
    · rw [h]; exact ⟨rfl, rfl⟩
  · rw [afterRetirement_plan, releaseBank_plan]
    by_cases hb : it.bank = b
    · subst hb
      rw [pair_at_modify_self]
      unfold Bank.released
      split <;> rfl
    · rw [pair_at_modify_other _ _ _ _ hb]

theorem fireGate_pitchKept (s : State) (g : Nat) : s.PitchKept (s.fireGate g) :=
  ⟨rfl, rfl, rfl, eventsGrow_refl s, rfl, rfl, rfl, rfl, fun _ => ⟨rfl, rfl⟩, fun _ => rfl⟩

theorem modDest_pitchKept (s : State) (d : Nat) (f : Destination → Destination) : s.PitchKept (s.modDest d f) :=
  .aside (eventsGrow_refl s)

theorem gateWork_pitchKept (s : State) (g : Nat) : s.PitchKept (s.gateWork g) := by
  have effect := gateWork_effect s g
  generalize s.gateWork g = t at effect ⊢
  cases effect with
  | redirected n => exact modItem_pitchKept s n _
  | completed n it found t => exact .aside (eventsGrow_complete s g t _ n)
  | dropped n it found t w =>
    exact (modDest_pitchKept s g _).trans <| (fireGate_pitchKept _ g).trans <| (closeRecord_pitchKept _ n it _).trans <|
      (State.PitchKept.aside (eventsGrow_afterDrop _ g _ n)).trans (afterRetirement_pitchKept _ it)
  | excepted n it found reason =>
    exact (fireGate_pitchKept s 16).trans <|
      (closeRecord_pitchKept _ n it _).trans (afterRetirement_pitchKept _ it)
  | nothing => exact .refl s

theorem pitchAct_pitchKept (s : State) (a : PitchAct) : s.PitchKept (s.pitchAct a) := by
  cases a with
  | indexMissing => exact indexMissing_pitchKept s
  | merge => exact mergeWork_pitchKept s
  | gate g => exact gateWork_pitchKept s g

/-- The number of the next free choice is none of what an act keeps. -/
theorem State.PitchKept.drawn {s t : State} (h : s.PitchKept t) (k : Nat) : s.PitchKept { t with draws := k } :=
  ⟨h.origin, h.aligned, h.revolution, h.events, h.bus, h.port, h.settings, h.nextNumber, h.counters, h.programs⟩

theorem exec_pitch_pitchKept (s : State) : ∃ t, exec .pitch s = .next t ∧ s.pitched.PitchKept t := by
  obtain ⟨order, k, _, acts⟩ := exec_pitch_acts s
  exact ⟨_, acts, (State.PitchKept.foldl pitchAct_pitchKept order _).drawn k⟩

/-! ### INDEX MISSING and the pause mark (R145) -/

theorem setPause_of_paused {s : State} (h : s.line.pause.isSome = true) (why : PauseCause) (cause : LineCause) :
    s.setPause why cause = s := if_pos h

theorem setPause_of_running {s : State} (h : s.line.pause = none) (why : PauseCause) (cause : LineCause) :
    s.setPause why cause = State.offer { s with line := { s.line with pause := some why } } 0
      (.lineState s.line.mode (some why) s.line.hold cause) :=
  if_neg (by simp [h])

theorem indexMissing_of_paused {s : State} (h : s.line.pause.isSome = true) :
    s.indexMissing = s.offer 0 (.indexMissing s.sorter.origin s.occupied) :=
  setPause_of_paused (by rwa [offer_line]) _ _

theorem indexMissing_of_running {s v : State} (hv : v = s.offer 0 (.indexMissing s.sorter.origin s.occupied))
    (h : s.line.pause = none) :
    s.indexMissing = State.offer { v with line := { v.line with pause := some .index } } 0
      (.lineState s.line.mode (some .index) s.line.hold .index) := by
  subst hv
  refine (setPause_of_running (by rwa [offer_line]) _ _).trans ?_
  rw [offer_line]

/-- The marks of a line that is not suspended (R172). -/
theorem marks_of_not_suspended {s : State} (h : s.suspended = false) : s.line.pause = none ∧ s.line.hold = false := by
  simpa [State.suspended, LineControl.suspended] using h

theorem gateWork_pause (s : State) (g : Nat) : (s.gateWork g).line.pause = s.line.pause := by
  have retired : ∀ (u : State) it, (u.afterRetirement it true).line.pause = u.line.pause := fun u it => by
    rw [afterRetirement_told_line]
  have effect := gateWork_effect s g
  generalize s.gateWork g = t at effect ⊢
  cases effect with
  | completed => rw [complete_line]
  | dropped => exact (retired _ _).trans (by rw [afterDrop_line]; rfl)
  | excepted => exact (retired _ _).trans rfl
  | redirected | nothing => rfl

theorem mergeWork_line (s : State) : s.mergeWork.line = s.line := by
  have effect := mergeWork_effect s
  generalize s.mergeWork = t at effect ⊢
  cases effect <;> rfl

theorem indexMissing_pause (s : State) : s.indexMissing.line.pause = some (s.line.pause.getD .index) := by
  cases h : s.line.pause with
  | some cause => rw [indexMissing_of_paused (by simp [h]), offer_line, h]; rfl
  | none => rw [indexMissing_of_running rfl h, offer_line]; rfl

/-- INDEX MISSING sets the pause mark if it is not set, and no other act of a pitch touches it. -/
theorem foldl_pitchAct_pause (acts : List PitchAct) (s : State) :
    (acts.foldl State.pitchAct s).line.pause =
      if .indexMissing ∈ acts then some (s.line.pause.getD .index) else s.line.pause := by
  induction acts generalizing s with
  | nil => rfl
  | cons a rest ih =>
    rw [List.foldl_cons, ih]
    cases a with
    | indexMissing => simp [State.pitchAct, indexMissing_pause]
    | merge => simp [State.pitchAct, mergeWork_line]
    | gate g => simp [State.pitchAct, gateWork_pause]

/-- With both kinds enabled and room, a line that is not paused stores INDEX MISSING and LINE STATE. -/
theorem indexMissing_events {s : State} (running : s.line.pause = none) (missing : s.enabled .indexMissing = true)
    (lineState : s.enabled .lineState = true) (room : s.used + s.live ≤ 254) :
    s.indexMissing.queue.events = s.queue.events ++ [⟨s.line.clock, 0, .indexMissing s.sorter.origin s.occupied⟩,
      ⟨s.line.clock, 0, .lineState s.line.mode (some .index) s.line.hold .index⟩] := by
  have first := offer_stored s 0 (.indexMissing s.sorter.origin s.occupied) missing
    (decide_eq_true (by show _ < 256; omega))
  rw [indexMissing_of_running rfl running, first, offer_stored _ _ _ lineState]
  · exact List.append_assoc _ _ _
  · refine decide_eq_true ?_
    show (s.queue.events ++ [_]).length + s.live < 256
    rw [List.length_append]
    exact Nat.lt_of_le_of_lt (Nat.add_right_comm s.used 1 s.live).le (Nat.lt_succ_of_le (Nat.succ_le_succ room))

theorem mergeWork_queue (s : State) : s.mergeWork.queue = s.queue := by
  have effect := mergeWork_effect s
  generalize s.mergeWork = t at effect ⊢
  cases effect <;> rfl

theorem mergeWork_live (s : State) : s.mergeWork.live = s.live := by
  have effect := mergeWork_effect s
  generalize s.mergeWork = t at effect ⊢
  cases effect with
  | lapped n => exact size_modify s.items.records n _
  | granted l n => exact size_modify s.items.records n _
  | nothing => rfl

/-! ### The pitch that misses the index (R145) -/

/-- The two orders of a pitch that misses the index and brings nothing to a gate: INDEX MISSING stands before or behind the
merge, which it counts or does not count. -/
theorem missed_events {s u : State} {order : List PitchAct} (running : u.line.pause = none)
    (missing : u.enabled .indexMissing = true) (lineState : u.enabled .lineState = true) (room : u.used + u.live ≤ 254)
    (acts : order.Perm [.indexMissing, .merge]) (hs : s = order.foldl State.pitchAct u) :
    ∃ occupied, (occupied = u.sorter.carriers.size ∨ occupied = s.sorter.carriers.size) ∧
      s.queue.events = u.queue.events ++ [⟨u.line.clock, 0, .indexMissing u.sorter.origin occupied⟩,
        ⟨u.line.clock, 0, .lineState u.line.mode (some .index) u.line.hold .index⟩] := by
  subst hs
  have cases : order = [.indexMissing, .merge] ∨ order = [.merge, .indexMissing] := by
    have swap : order ∈ [PitchAct.indexMissing, .merge].permutations := List.mem_permutations.2 acts
    simpa [List.permutations] using swap
  rcases cases with rfl | rfl
  · exact ⟨_, .inl rfl, (congrArg EventQueue.events (mergeWork_queue u.indexMissing)).trans
      (indexMissing_events running missing lineState room)⟩
  · have line := mergeWork_line u
    have queue := mergeWork_queue u
    have enabled : ∀ k, u.mergeWork.enabled k = u.enabled k := fun k => by unfold State.enabled; rw [line]
    have used : u.mergeWork.used = u.used := by unfold State.used; rw [queue]
    have events := indexMissing_events (s := u.mergeWork) (by rw [line]; exact running) (by rw [enabled]; exact missing)
      (by rw [enabled]; exact lineState) (by rw [used, mergeWork_live]; exact room)
    refine ⟨_, .inr rfl, ?_⟩
    show u.mergeWork.indexMissing.queue.events = _
    have carriers : u.mergeWork.indexMissing.sorter = u.mergeWork.sorter := by simp [State.indexMissing]
    rw [events, line, queue, (mergeWork_pitchKept u).origin]
    show _ = u.queue.events ++ [⟨_, _, .indexMissing _ u.mergeWork.indexMissing.sorter.carriers.size⟩, _]
    rw [carriers]
    rfl

/-- The acts of a pitch, with the conditions of R145 written out. -/
theorem pitchActs_eq (s : State) :
    s.pitched.pitchActs s.sorter.misses s.suspended =
      (if s.sorter.aligned = true ∧ s.sorter.origin = 95 ∧ s.sorter.revolution ≠ 0 then
        [PitchAct.indexMissing] else []) ++
      (if s.suspended = true then [] else .merge :: s.pitched.dueGates) := by
  unfold State.pitchActs
  simp only [misses_iff]
  rfl

theorem pitched_of_missed {s : State} (origin : s.sorter.origin = 95) (aligned : s.sorter.aligned = true)
    (passed : s.sorter.revolution ≠ 0) : s.pitched.sorter.origin = 0 ∧ s.pitched.sorter.revolution = 0 := by
  simp [State.pitched, Sorter.pitched, origin, aligned, passed]

/-- R144, R145: a suspended line's pitch moves the ring, and brings INDEX MISSING when it is due, with the pause mark unless
it is set. -/
theorem exec_pitch_suspended {s : State} (suspended : s.suspended = true) :
    (¬ (s.sorter.aligned = true ∧ s.sorter.origin = 95 ∧ s.sorter.revolution ≠ 0) → exec .pitch s = .next s.pitched) ∧
      (s.sorter.aligned = true → s.sorter.origin = 95 → s.sorter.revolution ≠ 0 →
        ∀ v : State, v = s.pitched.offer 0 (.indexMissing 0 s.sorter.carriers.size) →
          (s.line.pause.isSome = true → exec .pitch s = .next v) ∧
          (s.line.pause = none → exec .pitch s = .next
            (State.offer { v with line := { v.line with pause := some .index } } 0
              (.lineState s.line.mode (some .index) s.line.hold .index)))) := by
  refine ⟨fun onTime => exec_pitch_of_nil ?_, fun aligned origin passed v hv => ?_⟩
  · rw [pitchActs_eq, if_neg onTime, if_pos suspended]; rfl
  · have missed : exec .pitch s = .next s.pitched.indexMissing := by
      refine exec_pitch_of_single (a := .indexMissing) ?_
      rw [pitchActs_eq, if_pos ⟨aligned, origin, passed⟩, if_pos suspended]
      rfl
    have hv : v = s.pitched.offer 0 (.indexMissing s.pitched.sorter.origin s.pitched.occupied) := by
      rw [(pitched_of_missed origin aligned passed).1]; exact hv
    rw [missed]
    refine ⟨fun paused => ?_, fun unpaused => congrArg _ (indexMissing_of_running (s := s.pitched) hv unpaused)⟩
    rw [hv]
    exact congrArg _ (indexMissing_of_paused (s := s.pitched) paused)

theorem dueGates_eq_nil {s : State} (none : ∀ g, g ≤ 16 → s.gateDue g = false) : s.dueGates = [] := by
  refine congrArg (List.map PitchAct.gate) (List.filter_eq_nil_iff.2 fun g hg => ?_)
  rw [none g (Nat.lt_succ_iff.1 (List.mem_range.1 hg))]
  exact Bool.false_ne_true

/-- R145: on a line that is not suspended the pitch that misses the index pauses the line. -/
theorem exec_pitch_missed {s : State} (running : s.suspended = false) (aligned : s.sorter.aligned = true)
    (origin : s.sorter.origin = 95) (passed : s.sorter.revolution ≠ 0) :
    ∃ t, exec .pitch s = .next t ∧ t.line.pause = some .index ∧ t.sorter.origin = 0 ∧ t.sorter.revolution = 0 ∧
      ((∀ g, g ≤ 16 → s.pitched.gateDue g = false) → s.enabled .indexMissing = true → s.enabled .lineState = true →
        s.used + s.live ≤ 254 → ∃ occupied, (occupied = s.sorter.carriers.size ∨ occupied = t.sorter.carriers.size) ∧
          t.queue.events = s.queue.events ++ [⟨s.line.clock, 0, .indexMissing 0 occupied⟩,
            ⟨s.line.clock, 0, .lineState s.line.mode (some .index) s.line.hold .index⟩]) := by
  obtain ⟨order, k, perm, acts⟩ := exec_pitch_acts s
  obtain ⟨unpaused, _⟩ := marks_of_not_suspended running
  obtain ⟨home, cleared⟩ := pitched_of_missed origin aligned passed
  have kept := State.PitchKept.foldl pitchAct_pitchKept order s.pitched
  rw [pitchActs_eq, if_pos ⟨aligned, origin, passed⟩, running] at perm
  refine ⟨_, acts, ?_, kept.origin.trans home, kept.revolution.trans cleared, fun none missing lineState room => ?_⟩
  · have due : PitchAct.indexMissing ∈ order := perm.mem_iff.2 List.mem_cons_self
    refine (foldl_pitchAct_pause order s.pitched).trans ?_
    rw [if_pos due]
    exact congrArg (fun p : Option PauseCause => some (p.getD .index)) unpaused
  · rw [dueGates_eq_nil none] at perm
    obtain ⟨occupied, counted, events⟩ := missed_events (u := s.pitched) unpaused missing lineState room perm rfl
    rw [home] at events
    exact ⟨occupied, counted, events⟩

theorem slip_eq (s : State) : s.slip = State.setPause
    (State.offer { s with sorter := { s.sorter with origin := 0, revolution := 0 } } 0
      (.sorterSlip s.sorter.origin s.occupied)) .slip .slip := by
  refine congrArg (fun u => State.setPause u .slip .slip) ?_
  have enabled : State.enabled { s with sorter := { s.sorter with origin := 0, revolution := 0 } } .sorterSlip =
    s.enabled .sorterSlip := rfl
  have room : State.roomForEvent { s with sorter := { s.sorter with origin := 0, revolution := 0 } } =
    s.roomForEvent := rfl
  unfold State.offer
  simp only [EventBody.kind, enabled, room]
  repeat' split
  all_goals rfl

/-- R146: an index edge away from the origin is a slip, which pauses the line. -/
theorem exec_index_slip {s v : State} (aligned : s.sorter.aligned = true) (away : s.sorter.origin ≠ 0)
    (hv : v = State.offer { s with sorter := { s.sorter with origin := 0, revolution := 0 } } 0
      (.sorterSlip s.sorter.origin s.sorter.carriers.size)) :
    (s.line.pause.isSome = true → exec .index s = .next v) ∧
      (s.line.pause = none → exec .index s = .next
        (State.offer { v with line := { v.line with pause := some .slip } } 0
          (.lineState s.line.mode (some .slip) s.line.hold .slip))) := by
  have slipped : s.indexEdge = s.slip := (if_pos aligned).trans (if_neg away)
  have eq : exec .index s = .next (v.setPause .slip .slip) := by
    rw [hv]; exact congrArg _ (slipped.trans (slip_eq s))
  have line : v.line = s.line := by rw [hv, offer_line]
  rw [eq]
  refine ⟨fun paused => congrArg _ (setPause_of_paused (by rw [line]; exact paused) _ _), fun unpaused => ?_⟩
  rw [setPause_of_running (by rw [line]; exact unpaused), line]

/-- Settles O40: a pitch is its acts in a free order (`exec_pitch_acts`), each of which keeps what `State.PitchKept` lists. -/
theorem pitchAndIndexMoveTheRing : Obligations.PitchAndIndexMoveTheRing := by
  refine ⟨fun s => ?_, fun s u suspended hu => ?_, fun s u hu => ?_, fun u v hv => ?_,
    fun s => exec_pitch_missed, fun s => ⟨fun unaligned => ?_, fun aligned home => ?_,
      fun aligned away v hv => exec_index_slip aligned away hv⟩⟩
  · obtain ⟨t, acts, kept⟩ := exec_pitch_pitchKept s
    exact ⟨t, acts, kept.origin, kept.aligned, kept.revolution, kept.events, kept.bus, kept.port, kept.clock,
      (congrArg LineControl.hold kept.settings :), kept.nextNumber, fun l => (kept.counters l).1,
      fun l => (kept.counters l).2⟩
  · subst hu
    exact exec_pitch_suspended suspended
  · obtain ⟨order, k, perm, acts⟩ := exec_pitch_acts s
    subst hu
    exact ⟨order, k, pitchActs_eq s ▸ perm, acts⟩
  · exact ⟨fun paused => (indexMissing_of_paused paused).trans hv.symm, fun unpaused => indexMissing_of_running hv unpaused⟩
  · exact congrArg _ (if_neg (by simp [unaligned]))
  · exact congrArg _ ((if_pos aligned).trans (if_pos home))

end Sys2Proof.Machine
end

section
/-! The merge work of a pitch that brings nothing to a gate (R136 to R139). -/

namespace Sys2Proof.Machine

/-! ### The gates that have nothing to do (R135) -/

theorem gateDue_iff {s : State} {g : Nat} :
    s.gateDue g = true ↔ ∃ n it, s.atGate g = some (n, it) ∧ it.route.map Route.gate = some g := by
  unfold State.gateDue
  rcases s.atGate g with _ | ⟨n, it⟩
  · exact ⟨nofun, fun ⟨_, _, h, _⟩ => nomatch h⟩
  · rw [decide_eq_true_iff]
    exact ⟨fun h => ⟨n, it, rfl, h⟩, fun ⟨_, _, h, route⟩ => by cases h; exact route⟩

/-- The gate of an item's route is its destination's, or gate E's (R135, R142). -/
theorem route_of_gate {it : Item} {g : Nat} (h : it.route.map Route.gate = some g) :
    it.route = some (.tote g) ∨ (g = 16 ∧ it.dest = some .gateE) := by
  obtain ⟨route, hr, gate⟩ := Option.map_eq_some_iff.1 h
  cases route with
  | tote d => exact .inl (gate ▸ hr)
  | exception reason => exact .inr ⟨gate.symm, by simp [Item.dest, hr]⟩

/-- Nothing that the pitch brings to a gate is destined for it. -/
theorem gateDue_pitched_eq_false {s : State} {g : Nat} (none : ∀ p n it, s.line.gatePositions.lookup g = some p →
      s.broughtTo p n it → it.route ≠ some (.tote g) ∧ ¬ (g = 16 ∧ it.dest = some .gateE)) :
    s.pitched.gateDue g = false := by
  rw [Bool.eq_false_iff]
  intro due
  obtain ⟨n, it, found, route⟩ := gateDue_iff.1 due
  obtain ⟨p, position, carried, live⟩ := atGate_eq_some_iff.1 found
  obtain ⟨notTote, notE⟩ := none p n it position ⟨carried, live⟩
  exact (route_of_gate route).elim notTote notE

/-- R134, R140: with nothing at a gate and no index missed, the pitch is the merge. -/
theorem exec_pitch_merge {s : State} (running : s.suspended = false)
    (onTime : ¬ (s.sorter.aligned = true ∧ s.sorter.origin = 95 ∧ s.sorter.revolution ≠ 0))
    (none : ∀ g, g ≤ 16 → s.pitched.gateDue g = false) : exec .pitch s = .next s.pitched.mergeWork := by
  refine exec_pitch_of_single (a := .merge) ?_
  rw [pitchActs_eq, if_neg onTime, running, dueGates_eq_nil none]
  rfl

/-! ### The three outcomes of the merge (R136 to R138) -/

theorem mergeWork_of_carried {s : State} {n : Nat}
    (h : s.sorter.carriers.lookup (carrierAt s.sorter.origin 0) = some n) :
    s.mergeWork = s.modItem n fun it => it.lap s.line.lapLimit := by
  unfold State.mergeWork
  simp only [h]

theorem mergeWork_of_empty {s : State} (h : s.sorter.carriers.lookup (carrierAt s.sorter.origin 0) = none)
    (idle : s.sorter.aligned = false ∨ s.firstEligible = none) : s.mergeWork = s := by
  unfold State.mergeWork
  rcases idle with idle | idle <;> simp [h, idle]

theorem mergeWork_of_eligible {s : State} {l : LaneId} {n : Nat}
    (h : s.sorter.carriers.lookup (carrierAt s.sorter.origin 0) = none) (aligned : s.sorter.aligned = true)
    (first : s.firstEligible = some (l, n)) : s.mergeWork = s.grant l n (carrierAt s.sorter.origin 0) := by
  unfold State.mergeWork
  simp [h, aligned, first]

/-- R8: a holding reason stays, and every other route gives way. -/
theorem sendToE_eq (it : Item) (reason : ExcReason) :
    it.sendToE reason = { it with route := if it.held then it.route else some (.exception reason) } := by
  have same : ∀ r, it.route = r → it = { it with route := r } := by rintro _ rfl; rfl
  cases h : it.route with
  | none => simp [Item.sendToE, Item.held, h]
  | some route =>
    cases route with
    | tote d => simp [Item.sendToE, Item.held, h]
    | exception held =>
      cases held with
      | mapped => simp [Item.sendToE, Item.held, h]
      | laps | tooHeavy | withdrawn | cut =>
        simp only [Item.sendToE, Item.held, h]
        exact same _ h

/-- R136, R137: the lap counts up to 7, and at the limit the item takes the route to gate E. -/
theorem lap_eq (it : Item) (limit : Nat) :
    it.lap limit = { it with
      laps := min 7 (it.laps + 1)
      route := if min 7 (it.laps + 1) < limit then it.route
        else if it.held then it.route else some (.exception .laps) } := by
  unfold Item.lap
  by_cases under : min 7 (it.laps + 1) < limit
  · simp [under, Nat.not_le.2 under]
  · simp only [if_pos (Nat.not_lt.1 under), if_neg under, sendToE_eq]
    rfl

/-! ### The lanes that are eligible (R138) -/

theorem eligible_eq_none {s : State} {l : LaneId} (h : ∀ n rest it, (s.lanes.at l).queue = n :: rest →
      s.item n = some it → ¬ (it.state = .ready ∧ (s.slot ⟨l, .laneEnd⟩).state = .up)) : s.eligible l = none := by
  unfold State.eligible
  split
  · rfl
  · next n rest queue =>
    split
    · rfl
    · next it live => exact if_neg (h n rest it queue live)

theorem eligible_of_ready {s : State} {l : LaneId} {n : Nat} {rest : List Nat} {it : Item}
    (queue : (s.lanes.at l).queue = n :: rest) (live : s.item n = some it) (ready : it.state = .ready)
    (up : (s.slot ⟨l, .laneEnd⟩).state = .up) : s.eligible l = some n := by
  unfold State.eligible
  simp [queue, live, ready, up]

theorem firstEligible_eq_none {s : State} (h : ∀ l, s.eligible l = none) : s.firstEligible = none := by
  refine List.findSome?_eq_none_iff.2 fun l _ => ?_
  rw [h l]
  rfl

/-- The first eligible lane has none before it, from the pointer on. -/
theorem firstEligible_eq {s : State} {before after : List LaneId} {l : LaneId} {n : Nat}
    (order : lanesFrom s.sorter.pointer = before ++ l :: after) (none : ∀ m ∈ before, s.eligible m = none)
    (eligible : s.eligible l = some n) : s.firstEligible = some (l, n) := by
  have skipped : (before.findSome? fun m => (s.eligible m).map fun k => (m, k)) = Option.none :=
    List.findSome?_eq_none_iff.2 fun m hm => by rw [none m hm]; rfl
  unfold State.firstEligible
  rw [order, List.findSome?_append, skipped, List.findSome?_cons, eligible]
  rfl

/-- Settles O41: the pitch is its merge (`exec_pitch_merge`), whose outcome the carrier and the lanes decide. -/
theorem mergeWorkOfAPitch : Obligations.MergeWorkOfAPitch := by
  intro s u c running _ _ placed hu hc onTime idle
  have carrier : carrierAt s.pitched.sorter.origin 0 = c := by
    rw [hc]; unfold carrierAt; rw [Nat.zero_add]; rfl
  have standing : s.pitched.sorter.carriers.lookup (carrierAt s.pitched.sorter.origin 0) =
      s.sorter.carriers.lookup c := by rw [carrier]; rfl
  have merged := exec_pitch_merge running onTime fun g _ => gateDue_pitched_eq_false (idle g)
  have hu : u = s.pitched := hu
  subst hu
  refine ⟨fun n it carried live laps hlaps => ?_, fun empty unaligned => ?_, fun empty none => ?_,
    fun empty aligned before l after n rest it order none queue live ready up => ?_⟩
  · subst hlaps
    rw [merged, mergeWork_of_carried (standing.trans carried)]
    refine congrArg _ (modItem_congr s.pitched n it _ _ ((itemsPlaced_iff s).1 placed).itemsWf live ?_)
    refine (lap_eq it _).trans ?_
    unfold Item.held
    rcases it.route with _ | _ | reason
    · rfl
    · rfl
    · cases reason <;> rfl
  · rw [merged, mergeWork_of_empty (standing.trans empty) (.inl unaligned)]
  · rw [merged, mergeWork_of_empty (standing.trans empty)
      (.inr (firstEligible_eq_none fun l => eligible_eq_none (none l)))]
  · have first : s.pitched.firstEligible = some (l, n) :=
      firstEligible_eq order (fun m hm => eligible_eq_none (none m hm)) (eligible_of_ready queue live ready up)
    rw [merged, mergeWork_of_eligible (standing.trans empty) aligned first, carrier]
    refine ⟨_, rfl, ?_, fun m hm => ?_, ?_, fun m hm => quad_at_modify_other _ _ _ _ (Ne.symm hm), rfl, rfl,
      quad_at_modify_self _ _ _, fun m hm => ?_, rfl, rfl, rfl, rfl, rfl⟩
    · rw [item_grant, if_pos rfl, show s.pitched.item n = some it from live]; rfl
    · rw [item_grant, if_neg (Ne.symm hm)]; rfl
    · refine (quad_at_modify_self s.lanes l fun x => { x with queue := x.queue.tail }).trans ?_
      rw [queue]; rfl
    · refine (quad_at_modify_other _ _ _ _ (Ne.symm hm)).trans ?_
      cases m <;> rfl

end Sys2Proof.Machine
end

section
/-! One gate among the acts of a pitch: what the other acts leave of the item that is brought to it, and the drops at gate E
and at a destination (R140 to R142, R155 to R159). -/

namespace Sys2Proof.Machine

/-! ### What an act does to an item that it does not touch -/

/-- The item, if it is live, is SORTING on carrier `c`. -/
def State.Stands (s : State) (n c : Nat) : Prop := ∀ it, s.item n = some it → it.state = .sorting ∧ it.carrier = some c

/-- The act works on another carrier than `c`: the merge's, or that of another gate's position (R135). -/
def PitchAct.Spares (origin : Nat) (positions : Table Nat) (c : Nat) : PitchAct → Prop
  | .indexMissing => True
  | .merge => carrierAt origin 0 ≠ c
  | .gate g => ∀ p, positions.lookup g = some p → carrierAt origin p ≠ c

/-- An item that stands on one carrier is not the one on another. -/
theorem State.Placed.other_carrier {s : State} (h : s.Placed) {n c k m : Nat} (stands : s.Stands n c)
    (other : k ≠ c) (carried : s.sorter.carriers.lookup k = some m) : m ≠ n := by
  rintro rfl
  obtain ⟨it, live, _, carrier⟩ := h.carried k m carried
  rw [(stands it live).2] at carrier
  exact other (Option.some.inj carrier).symm

theorem mergeWork_item {s : State} (h : s.Placed) {n c : Nat} (stands : s.Stands n c)
    (spares : carrierAt s.sorter.origin 0 ≠ c) : s.mergeWork.item n = s.item n := by
  have effect := mergeWork_effect s
  generalize s.mergeWork = t at effect ⊢
  cases effect with
  | lapped m carried => rw [item_modItem, if_neg (h.other_carrier stands spares carried)]
  | granted l m eligible =>
    obtain ⟨_, it, _, live, ready⟩ := eligible_eq_some eligible
    have other : m ≠ n := by
      rintro rfl
      have sorting := (stands it live).1
      rw [ready] at sorting
      cases sorting
    rw [item_grant, if_neg other]
  | nothing => rfl

/-- What a retirement at a gate leaves of the Item Table: every other item. -/
theorem acceptDrop_item (s : State) (n m : Nat) (it : Item) (d : Nat) (t : Tote) (w : Nat) :
    (s.acceptDrop n it d t w).item m = if n = m then none else s.item m := by
  refine (item_of_items_eq (afterRetirement_items _ _ _) m).trans ?_
  rw [item_of_items_eq (afterDrop_items _ _ _ _), item_closeRecord]
  rfl

theorem exceptionDrop_item (s : State) (n m : Nat) (it : Item) (reason : ExcReason) :
    (s.exceptionDrop n it reason).item m = if n = m then none else s.item m := by
  refine (item_of_items_eq (afterRetirement_items _ _ _) m).trans ?_
  rw [item_closeRecord]
  rfl

theorem gateWork_item {s : State} (h : s.Placed) {g n c : Nat} (stands : s.Stands n c)
    (spares : ∀ p, s.line.gatePositions.lookup g = some p → carrierAt s.sorter.origin p ≠ c) :
    (s.gateWork g).item n = s.item n := by
  have other : ∀ m it, s.atGate g = some (m, it) → m ≠ n := fun m it found => by
    obtain ⟨p, position, carried, _⟩ := atGate_eq_some_iff.1 found
    exact h.other_carrier stands (spares p position) carried
  have effect := gateWork_effect s g
  generalize s.gateWork g = t at effect ⊢
  cases effect with
  | redirected m it found => rw [item_modItem, if_neg (other m it found)]
  | completed m it found => exact item_of_items_eq (complete_items _ _ _ _ _) n
  | dropped m it found => rw [acceptDrop_item, if_neg (other m it found)]
  | excepted m it found => rw [exceptionDrop_item, if_neg (other m it found)]
  | nothing => rfl

/-- A gate moves no item from one carrier to another. -/
theorem gateWork_stands {s : State} {n c : Nat} (stands : s.Stands n c) (g : Nat) : (s.gateWork g).Stands n c := by
  have kept : ∀ t : State, t.item n = s.item n → t.Stands n c := fun t same it live => stands it (same ▸ live)
  have gone : ∀ (t : State) m, t.item n = (if m = n then none else s.item n) → t.Stands n c := fun t m same it live => by
    rw [same] at live
    split at live
    · cases live
    · exact stands it live
  have effect := gateWork_effect s g
  generalize s.gateWork g = t at effect ⊢
  cases effect with
  | redirected m =>
    intro it live
    rw [item_modItem] at live
    split at live
    · obtain ⟨x, hx, rfl⟩ := Option.map_eq_some_iff.1 live
      rw [sendToE_eq]
      exact stands x hx
    · exact stands it live
  | completed m it found t => exact kept _ (item_of_items_eq (complete_items _ _ _ _ _) n)
  | dropped m it found t w => exact gone _ m (acceptDrop_item s m n it g t w)
  | excepted m it found reason => exact gone _ m (exceptionDrop_item s m n it reason)
  | nothing => exact stands

/-! ### What an act does to a gate that is not its own -/

theorem complete_other_dest (s : State) {d k : Nat} (h : k ≠ d) (t : Tote) (reason : CompletionReason) (item : Nat) :
    (s.complete d t reason item).totes.dests.lookup k = s.totes.dests.lookup k := by
  have lotOpen : ∀ u : State, (u.offerLotOpen d).totes = u.totes := fun u => offerLotOpen_totes u d
  have next : ∀ u : State, (u.nextStep d t).totes.dests.lookup k = u.totes.dests.lookup k := fun u => by
    unfold State.nextStep State.stall State.advance
    repeat' split
    · rw [lotOpen, offer_totes]; exact lookup_modDest_other u h _
    · exact lookup_modDest_other u h _
    · rw [lotOpen, offer_totes]; exact lookup_modDest_other u h _
  have lot : ∀ u : State, (u.takeIntoLot d t).totes.dests.lookup k = u.totes.dests.lookup k := fun u => by
    unfold State.takeIntoLot
    dsimp only
    split
    · rw [offer_totes]; exact lookup_modDest_other u h _
    · exact lookup_modDest_other u h _
  unfold State.complete
  rw [next, lot, offer_totes]

theorem afterDrop_other_dest (s : State) {d k : Nat} (h : k ≠ d) (t : Tote) (item : Nat) :
    (s.afterDrop d t item).totes.dests.lookup k = s.totes.dests.lookup k := by
  unfold State.afterDrop
  repeat' split
  exacts [complete_other_dest s h t _ _, by rw [offer_totes], rfl]

theorem acceptDrop_other_dest (s : State) (n : Nat) (it : Item) {d k : Nat} (h : k ≠ d) (t : Tote) (w : Nat) :
    (s.acceptDrop n it d t w).totes.dests.lookup k = s.totes.dests.lookup k := by
  unfold State.acceptDrop
  rw [afterRetirement_totes, afterDrop_other_dest _ h]
  exact lookup_modDest_other s h _

theorem acceptDrop_gates (s : State) (n : Nat) (it : Item) (d : Nat) (t : Tote) (w g : Nat) :
    g ∈ (s.acceptDrop n it d t w).sorter.gates ↔ g = d ∨ g ∈ s.sorter.gates := by
  unfold State.acceptDrop
  rw [afterRetirement_sorter, afterDrop_sorter]
  exact mem_insertGate d g s.sorter.gates

theorem exceptionDrop_gates (s : State) (n : Nat) (it : Item) (reason : ExcReason) (g : Nat) :
    g ∈ (s.exceptionDrop n it reason).sorter.gates ↔ g = 16 ∨ g ∈ s.sorter.gates := by
  unfold State.exceptionDrop
  rw [afterRetirement_sorter]
  exact mem_insertGate 16 g s.sorter.gates

theorem exceptionDrop_totes (s : State) (n : Nat) (it : Item) (reason : ExcReason) :
    (s.exceptionDrop n it reason).totes = s.totes := afterRetirement_totes _ _ _

theorem gateWork_other {s : State} {d g : Nat} (h : g ≠ d) :
    (s.gateWork d).totes.dests.lookup g = s.totes.dests.lookup g ∧
      (g ∈ (s.gateWork d).sorter.gates ↔ g ∈ s.sorter.gates) := by
  have effect := gateWork_effect s d
  generalize s.gateWork d = t at effect ⊢
  cases effect with
  | completed n it found t => exact ⟨complete_other_dest s h t _ n, by rw [complete_sorter]⟩
  | dropped n it found t w =>
    exact ⟨acceptDrop_other_dest s n it h t w, (acceptDrop_gates s n it d t w g).trans (or_iff_right h)⟩
  | excepted n it found reason gateE =>
    exact ⟨by rw [exceptionDrop_totes], (exceptionDrop_gates s n it reason g).trans (or_iff_right (gateE ▸ h))⟩
  | redirected | nothing => exact ⟨rfl, .rfl⟩

theorem mergeWork_other (s : State) : s.mergeWork.totes = s.totes ∧ s.mergeWork.sorter.gates = s.sorter.gates := by
  have effect := mergeWork_effect s
  generalize s.mergeWork = t at effect ⊢
  cases effect <;> exact ⟨rfl, rfl⟩

/-! ### The acts beside one gate's -/

/-- `t` is `s` after acts of a pitch that are not gate `g`'s and do not touch item `n`. -/
structure State.Beside (g n : Nat) (s t : State) : Prop where
  kept   : s.PitchKept t
  placed : s.Placed → t.Placed
  item   : t.item n = s.item n
  dest   : t.totes.dests.lookup g = s.totes.dests.lookup g
  gates  : g ∈ t.sorter.gates ↔ g ∈ s.sorter.gates

theorem State.Beside.refl (g n : Nat) (s : State) : State.Beside g n s s := ⟨.refl s, id, rfl, rfl, .rfl⟩

theorem State.Beside.trans {g n : Nat} {s t u : State} (h : State.Beside g n s t) (h' : State.Beside g n t u) :
    State.Beside g n s u :=
  ⟨h.kept.trans h'.kept, h'.placed ∘ h.placed, h'.item.trans h.item, h'.dest.trans h.dest, h'.gates.trans h.gates⟩

theorem pitchAct_beside {s : State} (h : s.Placed) {g n c : Nat} (stands : s.Stands n c) {a : PitchAct}
    (other : a ≠ .gate g) (spares : a.Spares s.sorter.origin s.line.gatePositions c) :
    State.Beside g n s (s.pitchAct a) := by
  have kept := pitchAct_pitchKept s a
  have placed := (pitchAct_changes s a).placed
  cases a with
  | indexMissing =>
    have items : s.indexMissing.items = s.items := by simp [State.indexMissing]
    have totes : s.indexMissing.totes = s.totes := by simp [State.indexMissing]
    have sorter : s.indexMissing.sorter = s.sorter := by simp [State.indexMissing]
    exact ⟨kept, placed, item_of_items_eq items n, congrArg (fun t : ToteStore => t.dests.lookup g) totes,
      iff_of_eq (congrArg (fun x : Sorter => g ∈ x.gates) sorter)⟩
  | merge =>
    obtain ⟨totes, gates⟩ := mergeWork_other s
    exact ⟨kept, placed, mergeWork_item h stands spares, congrArg (fun t : ToteStore => t.dests.lookup g) totes,
      iff_of_eq (congrArg (g ∈ ·) gates)⟩
  | gate d =>
    obtain ⟨dest, gates⟩ := gateWork_other (s := s) (d := d) (g := g) fun e => other (congrArg _ e.symm)
    exact ⟨kept, placed, gateWork_item h stands spares, dest, gates⟩

theorem foldl_beside {g n c : Nat} (acts : List PitchAct) {s : State} (h : s.Placed) (stands : s.Stands n c)
    (others : ∀ a ∈ acts, a ≠ .gate g ∧ a.Spares s.sorter.origin s.line.gatePositions c) :
    State.Beside g n s (acts.foldl State.pitchAct s) := by
  induction acts generalizing s with
  | nil => exact .refl g n s
  | cons a rest ih =>
    obtain ⟨other, spares⟩ := others a List.mem_cons_self
    have first := pitchAct_beside h stands other spares
    refine first.trans (ih (first.placed h) (fun it live => stands it (first.item ▸ live)) fun b hb => ?_)
    rw [first.kept.origin, first.kept.gatePositions]
    exact others b (List.mem_cons_of_mem a hb)

/-! ### The pitch around one gate (R140, R142) -/

theorem carrierAt_merge {origin p : Nat} (loop : origin < 96) (low : 1 ≤ p) (high : p ≤ 95) :
    carrierAt origin 0 ≠ carrierAt origin p := by
  show (0 + 96 - origin) % 96 ≠ (p + 96 - origin) % 96
  omega

/-- The acts of a pitch beside gate `g`'s work on other carriers than the one that it finds its item on. -/
theorem spares_of_mem_pitchActs {s : State} (line : s.line.Lawful) (loop : s.sorter.origin < 96) {g p n : Nat} {it : Item}
    (position : s.line.gatePositions.lookup g = some p)
    (carried : s.sorter.carriers.lookup (carrierAt s.sorter.origin p) = some n) (live : s.item n = some it)
    (route : it.route.map Route.gate = some g) {missing : Bool} {a : PitchAct}
    (ha : a ∈ s.pitchActs missing false) (other : a ≠ .gate g) :
    a.Spares s.sorter.origin s.line.gatePositions (carrierAt s.sorter.origin p) := by
  cases a with
  | indexMissing => trivial
  | merge =>
    obtain ⟨_, low, high⟩ := line.gates _ (mem_of_lookup _ _ _ position)
    exact carrierAt_merge loop low high
  | gate d =>
    intro q hq same
    obtain ⟨m, x, found, due⟩ := gateDue_iff.1 (mem_pitchActs_gate.1 ha).2
    obtain ⟨q', hq', there, here⟩ := atGate_eq_some_iff.1 found
    cases hq.symm.trans hq'
    rw [same, carried] at there
    cases there
    cases live.symm.trans here
    exact other (congrArg _ (Option.some.inj (due.symm.trans route)))

/-- The pitch brings item `n`, which is destined for gate `g`, to that gate, on a line that is not suspended. -/
structure State.Brings (s : State) (g n : Nat) (it : Item) : Prop where
  running : s.suspended = false
  line    : s.line.Lawful
  sorter  : s.sorter.Lawful
  placed  : s.Placed
  gate    : g ≤ 16
  found   : s.pitched.atGate g = some (n, it)
  route   : it.route.map Route.gate = some g

theorem brings_of_lawful {s : State} {g p n : Nat} {it : Item} (running : s.suspended = false)
    (line : s.line.lawful = true) (sorter : s.sorter.lawful = true) (placed : s.itemsPlaced = true) (gate : g ≤ 16)
    (position : s.line.gatePositions.lookup g = some p) (brought : s.broughtTo p n it)
    (route : it.route.map Route.gate = some g) : s.Brings g n it :=
  ⟨running, (line_law_iff _).1 line, (sorter_lawful_iff _).1 sorter, (itemsPlaced_iff s).1 placed, gate,
    atGate_eq_some_iff.2 ⟨p, position, brought⟩, route⟩

/-- Before the gate's act and after it the pitch takes acts that leave its item alone; at the act the gate finds the item. -/
theorem exec_pitch_gate {s : State} {g n : Nat} {it : Item} (h : s.Brings g n it) :
    ∃ v t, exec .pitch s = .next t ∧ State.Beside g n s.pitched v ∧ v.Placed ∧ v.atGate g = some (n, it) ∧
      State.Beside g n (v.gateWork g) t ∧ t.Placed := by
  obtain ⟨p, position, carried, live⟩ := atGate_eq_some_iff.1 h.found
  have placed : s.pitched.Placed := (sorter_changes s s.sorter.pitched).placed h.placed
  have loop := (pitched_lawful h.sorter).origin
  obtain ⟨x, hx, sorting, carrier⟩ := placed.carried _ _ carried
  cases live.symm.trans hx
  have stands : s.pitched.Stands n (carrierAt s.pitched.sorter.origin p) := fun y hy => by
    cases live.symm.trans hy; exact ⟨sorting, carrier⟩
  obtain ⟨order, k, perm, acts⟩ := exec_pitch_acts s
  rw [h.running] at perm
  have due : .gate g ∈ order := perm.mem_iff.2
    (mem_pitchActs_gate.2 ⟨h.gate, gateDue_iff.2 ⟨n, it, h.found, h.route⟩⟩)
  obtain ⟨before, after, rfl⟩ := List.append_of_mem due
  obtain ⟨apart, _⟩ : .gate g ∉ before ++ after ∧ _ :=
    List.nodup_middle.1 (perm.nodup_iff.2 (pitchActs_nodup _ _ _)) |> List.nodup_cons.1
  have others : ∀ a ∈ before ++ after, a ≠ .gate g ∧
      a.Spares s.pitched.sorter.origin s.pitched.line.gatePositions (carrierAt s.pitched.sorter.origin p) := fun a ha => by
    have other : a ≠ .gate g := fun e => apart (e ▸ ha)
    refine ⟨other, spares_of_mem_pitchActs (s := s.pitched) h.line loop position carried live h.route
      (perm.mem_iff.1 ?_) other⟩
    rcases List.mem_append.1 ha with ha | ha
    exacts [List.mem_append_left _ ha, List.mem_append_right _ (List.mem_cons_of_mem _ ha)]
  have first := foldl_beside before placed stands fun a ha => others a (List.mem_append_left _ ha)
  have there := first.placed placed
  have liveThen : (before.foldl State.pitchAct s.pitched).item n = some it := first.item.trans live
  have found : (before.foldl State.pitchAct s.pitched).atGate g = some (n, it) := by
    obtain ⟨c, hc, lookup⟩ := there.onCarrier n it liveThen sorting
    cases carrier.symm.trans hc
    exact atGate_eq_some_iff.2 ⟨p, first.kept.gatePositions ▸ position, first.kept.origin ▸ lookup, liveThen⟩
  have dropped := (gateWork_changes (before.foldl State.pitchAct s.pitched) g).placed there
  have worked := gateWork_pitchKept (before.foldl State.pitchAct s.pitched) g
  have last := foldl_beside after dropped
    (gateWork_stands (fun y hy => stands y (first.item ▸ hy)) g) fun a ha => by
      rw [worked.origin, worked.gatePositions, first.kept.origin, first.kept.gatePositions]
      exact others a (List.mem_append_right _ ha)
  have drawn : ∀ (u t : State), State.Beside g n u t → State.Beside g n u { t with draws := k } := fun u t b =>
    ⟨b.kept.drawn k, fun hu => (b.placed hu).of_places (b.placed hu).itemsWf (fun _ => rfl) rfl fun _ => rfl,
      b.item, b.dest, b.gates⟩
  rw [List.foldl_append] at acts
  exact ⟨_, _, acts, first, there, found, drawn _ _ last, (drawn _ _ last).placed dropped⟩

/-- An item that is no longer live stands on no carrier (R133). -/
theorem State.Placed.no_carrier {s : State} (h : s.Placed) {n : Nat} (gone : s.item n = none) :
    ∀ e ∈ s.sorter.carriers.entries, e.2 ≠ n := by
  rintro ⟨c, m⟩ he rfl
  obtain ⟨it, live, _⟩ := h.carried c m (lookup_of_mem _ _ _ h.carriersWf he)
  rw [gone] at live
  cases live

/-- The final event of an act of the pitch is stored, behind what was stored before (R13, R188). -/
theorem stored_of_pitch {g n : Nat} {s v u t : State} {e : Event} (before : State.Beside g n s.pitched v)
    (after : State.Beside g n u t) (act : ∃ rest, u.queue.events = v.queue.events ++ e :: rest) :
    ∃ more, t.queue.events = s.queue.events ++ more ∧ e ∈ more := by
  obtain ⟨a, ha⟩ := before.kept.events
  obtain ⟨b, hb⟩ := after.kept.events
  obtain ⟨rest, hr⟩ := act
  refine ⟨a ++ e :: (rest ++ b), ?_, List.mem_append_right _ List.mem_cons_self⟩
  rw [hb, hr, ha]
  simp [State.pitched]

end Sys2Proof.Machine
end

section
/-! The drops at gate E and at a destination, and the three answers of a drop claim (R140 to R142, R155 to R159). -/

namespace Sys2Proof.Machine

/-- The fields of the final event of an item that leaves the ring: it is SORTING, so that its laps count (R14). -/
theorem finalFields_of_sorting {it : Item} (sorting : it.state = .sorting) : it.finalFields =
    { lane := it.lane, ticket := it.ticket, parcel := it.parcel, state := .sorting, grade := it.grade,
      result := it.result, matched := it.matched, dest := it.dest, laps := it.laps, forced := it.forced } := by
  simp [Item.finalFields, Item.inLane, sorting]

theorem dest_of_tote {it : Item} {d : Nat} (route : it.route = some (.tote d)) : it.dest = some (.gate d) := by
  unfold Item.dest
  rw [route]

theorem dest_of_exception {it : Item} {reason : ExcReason} (route : it.route = some (.exception reason)) :
    it.dest = some .gateE := by
  unfold Item.dest
  rw [route]

/-- The item that a gate finds is SORTING (R133). -/
theorem State.Placed.sorting_atGate {s : State} (h : s.Placed) {g n : Nat} {it : Item} (found : s.atGate g = some (n, it)) :
    it.state = .sorting := by
  obtain ⟨_, _, carried, live⟩ := atGate_eq_some_iff.1 found
  obtain ⟨x, hx, sorting, _⟩ := h.carried _ _ carried
  cases live.symm.trans hx
  exact sorting

/-! ### A retirement's events (R13, R156) -/

/-- Of a retirement, that its final event is stored next. -/
theorem State.retires.final_stored {s t : State} {n : Nat} {it : Item} {final : EventBody} {toteEvents : List Event}
    (h : s.retires t n it final toteEvents) :
    ∃ rest, t.queue.events = s.queue.events ++ ⟨s.line.clock, n, final⟩ :: rest := by
  obtain ⟨_, _, _, ⟨more, events, _⟩, _⟩ := h
  exact ⟨_, events⟩

/-- The event kinds that the steps after the final event may offer (R13, R65, R106, R170). -/
def Event.Closing (e : Event) : Prop :=
  e.body.kind = .planDrained ∨ e.body.kind = .parcelClosed ∨ e.body.kind = .lineState

/-- Events are stored after those there, each of a kind that the steps after the final event may offer. -/
def State.growsClosing (s t : State) : Prop :=
  ∃ more, t.queue.events = s.queue.events ++ more ∧ ∀ e ∈ more, e.Closing

namespace State.growsClosing

variable {s t u : State}

theorem of_queue_eq (h : t.queue = s.queue) : s.growsClosing t :=
  ⟨[], by rw [h, List.append_nil], fun _ he => absurd he List.not_mem_nil⟩

theorem trans (h : s.growsClosing t) (h' : t.growsClosing u) : s.growsClosing u := by
  obtain ⟨before, hbefore, kinds⟩ := h
  obtain ⟨after, hafter, kinds'⟩ := h'
  refine ⟨before ++ after, by rw [hafter, hbefore, List.append_assoc], fun e he => ?_⟩
  exact (List.mem_append.1 he).elim (kinds e) (kinds' e)

theorem of_offer (s : State) (item : Nat) {body : EventBody} (h : Event.Closing ⟨s.line.clock, item, body⟩) :
    s.growsClosing (s.offer item body) := by
  unfold State.offer
  repeat' split
  · exact ⟨_, rfl, fun e he => by rw [List.mem_singleton.1 he]; exact h⟩
  · exact ⟨[], (List.append_nil _).symm, fun _ he => absurd he List.not_mem_nil⟩
  · exact of_queue_eq rfl

end State.growsClosing

theorem endTest_growsClosing (s : State) : s.growsClosing s.endTest := by
  unfold State.endTest
  split
  · exact .of_offer { s with line := { s.line with mode := .setup } } 0 (.inr (.inr rfl))
  · exact .of_queue_eq rfl

theorem endIfEmpty_growsClosing (s : State) : s.growsClosing s.endIfEmpty := by
  unfold State.endIfEmpty
  split
  exacts [endTest_growsClosing s, .of_queue_eq rfl]

theorem releaseBank_growsClosing (s : State) (b : BankId) : s.growsClosing (s.releaseBank b) := by
  unfold State.releaseBank
  dsimp only
  split
  · exact .of_offer (s.modBank b _) 0 (.inl rfl)
  · exact .of_queue_eq rfl

theorem settle_growsClosing (s : State) (l : LaneId) (cause : EndCause) (retired : Nat) :
    s.growsClosing (s.settle l cause retired) := by
  have closed : s.growsClosing ((s.lanes.at l).boundRas.foldl State.settleRa s) :=
    .of_queue_eq (foldl_keeps (fun x => x.queue) State.settleRa settleRa_queue _ s)
  have told := closed.trans (.of_offer _ 0 (body := .parcelClosed l (s.lanes.at l).parcelCounter (s.lanes.at l).account
    cause retired (s.outcomes l)) (.inr (.inl rfl)))
  exact told.trans (endTest_growsClosing (s.parcelSettled l cause retired))

theorem afterRetirement_growsClosing (s : State) (it : Item) : s.growsClosing (s.afterRetirement it true) := by
  by_cases h : s.settlesAfter it
  · rw [afterRetirement_settling h]
    exact (releaseBank_growsClosing _ _).trans ((settle_growsClosing _ _ _ _).trans (endIfEmpty_growsClosing _))
  · rw [afterRetirement_waiting h]
    exact (releaseBank_growsClosing _ _).trans (endIfEmpty_growsClosing _)

/-! ### A drop at gate E (R142) -/

/-- At gate E the item is dropped with the reason of its route. -/
theorem gateWork_exception {s : State} {n : Nat} {it : Item} {reason : ExcReason} (found : s.atGate 16 = some (n, it))
    (route : it.route = some (.exception reason)) : s.gateWork 16 = s.exceptionDrop n it reason := by
  unfold State.gateWork
  simp only [found, route, if_true]

theorem exceptionDrop_retires {s : State} {n : Nat} {it : Item} (live : s.item n = some it) (reason : ExcReason) :
    s.retires (s.exceptionDrop n it reason) n it (.itemException reason it.finalFields) [] := by
  have closed : s.Closed ((s.fireGate 16).closeRecord n it (.itemException reason it.finalFields)) n it
      (.itemException reason it.finalFields) [] := ⟨rfl, rfl, rfl, rfl, rfl, rfl, rfl, rfl⟩
  exact afterRetirement_retires closed live

theorem exceptionDrop_port (s : State) (n : Nat) (it : Item) (reason : ExcReason) :
    (s.exceptionDrop n it reason).port = s.port := by
  unfold State.exceptionDrop
  rw [afterRetirement_port]
  rfl

/-! ### An accepted drop (R141, R156) -/

/-- The destination with `t` as its current tote. -/
def Destination.holding (x : Destination) (t : Tote) : Destination := { x with state := .active t }

/-- The drop is counted at its tote, the gate fires and the item's record is closed; the rest of R156 and of R13 is left. -/
def State.dropClosed (s : State) (n : Nat) (it : Item) (d : Nat) (y : Tote) (w : Nat) : State :=
  ((s.modDest d fun x => x.holding (y.countDrop w s.line.clock)).fireGate d).closeRecord n it
    (.itemPlaced y.id w it.finalFields)

section Drop

variable (s : State) (n : Nat) (it : Item) (d : Nat) (y : Tote) (w : Nat)

theorem acceptDrop_eq : s.acceptDrop n it d y w =
    ((s.dropClosed n it d y w).afterDrop d (y.countDrop w s.line.clock) n).afterRetirement it true := rfl

theorem dropClosed_closed : s.Closed (s.dropClosed n it d y w) n it (.itemPlaced y.id w it.finalFields) [] :=
  ⟨rfl, rfl, rfl, rfl, rfl, rfl, rfl, rfl⟩

theorem acceptDrop_port : (s.acceptDrop n it d y w).port = s.port := by
  rw [acceptDrop_eq, afterRetirement_port, afterDrop_port]
  rfl

end Drop

theorem dropClosed_dest {s : State} {d : Nat} {x : Destination} (h : s.totes.dests.lookup d = some x) (n : Nat) (it : Item)
    (y : Tote) (w : Nat) :
    (s.dropClosed n it d y w).totes.dests.lookup d = some (x.holding (y.countDrop w s.line.clock)) :=
  lookup_modDest h _

/-- Offers after a closed record, and a change at a destination, leave it closed; what they store are the tote's events. -/
theorem State.Closed.offered {s u : State} {n : Nat} {it : Item} {final : EventBody} (h : s.Closed u n it final [])
    (d : Nat) (f : Destination → Destination) {events stored : List Event}
    (grown : ((u.modDest d f).offerEvents events).queue.events = u.queue.events ++ stored) :
    s.Closed ((u.modDest d f).offerEvents events) n it final stored := by
  obtain ⟨q, hq⟩ := offerEvents_changes_queue (u.modDest d f) events
  rw [hq] at grown ⊢
  exact ⟨h.items, h.lanes, h.returns, h.carriers, h.plan, h.bus, h.line, by rw [grown, h.events]; simp⟩

/-- What an accepted drop leaves at its destination (R156 to R159). -/
theorem acceptDrop_dest {s : State} {d : Nat} {x : Destination} (h : s.totes.dests.lookup d = some x) (n : Nat) (it : Item)
    (y : Tote) (w : Nat) : (s.acceptDrop n it d y w).totes.dests.lookup d =
      some ((x.holding (y.countDrop w s.line.clock)).afterDrop (y.countDrop w s.line.clock)
        (x.holding (y.countDrop w s.line.clock))) := by
  have holds := dropClosed_dest h n it y w
  rw [acceptDrop_eq, afterRetirement_totes, afterDrop_eq holds, offerEvents_totes]
  exact lookup_modDest holds _

/-- At the capacity the tote completes; below it the destination keeps it (R156). -/
theorem acceptDrop_tote {s : State} {d : Nat} {x : Destination} (h : s.totes.dests.lookup d = some x) (n : Nat) (it : Item)
    (y : Tote) (w : Nat) :
    (y.count + 1 ≠ y.capacity → (s.acceptDrop n it d y w).totes.dests.lookup d =
        some (x.holding (y.countDrop w s.line.clock))) ∧
      (y.count + 1 = y.capacity → ∃ z, (s.acceptDrop n it d y w).totes.dests.lookup d = some z ∧
        x.Completed (y.countDrop w s.line.clock) z) := by
  rw [acceptDrop_dest h]
  unfold Destination.afterDrop
  refine ⟨fun below => congrArg some (if_neg below), fun full => ⟨_, congrArg some (if_pos full), ?_⟩⟩
  exact completion_completed (x.holding (y.countDrop w s.line.clock)) _

/-- After a closed record, what the drop does at its tote and the steps of R13 make a retirement (R13, R156). -/
theorem State.Closed.afterDrop_retires {s u : State} {n d : Nat} {it : Item} {final : EventBody} {x : Destination}
    (h : s.Closed u n it final []) (live : s.item n = some it) (dest : u.totes.dests.lookup d = some x) (t : Tote) :
    ∃ toteEvents, s.retires ((u.afterDrop d t n).afterRetirement it true) n it final toteEvents ∧
      ∀ e ∈ toteEvents, e.body.kind ∈ toteKinds := by
  have ofTote := dropEvents_ofTote x d t n u.line.clock
  obtain ⟨stored, events, sub⟩ := offerEvents_stored (u.modDest d (x.afterDrop t)) _ fun e he => (ofTote e he).1
  rw [afterDrop_eq dest]
  exact ⟨stored, afterRetirement_retires (h.offered d _ events) live, fun e he => (ofTote e (sub.subset he)).2⟩

/-- With the kinds of a tote's events enabled and room for them, the drop stores them all, behind the final event and before
those of the steps after it (R13, R156). -/
theorem State.Closed.afterDrop_events {s u : State} {n d : Nat} {it : Item} {final : EventBody} {x : Destination}
    (h : s.Closed u n it final []) (live : s.item n = some it) (dest : u.totes.dests.lookup d = some x) (t : Tote)
    (enabled : ∀ k ∈ toteKinds, s.enabled k = true) (room : s.used + s.live ≤ 252) :
    ∃ rest, ((u.afterDrop d t n).afterRetirement it true).queue.events = s.queue.events ++
        ⟨s.line.clock, n, final⟩ :: (x.dropEvents d t n s.line.clock ++ rest) ∧ ∀ e ∈ rest, e.Closing := by
  have ofTote := dropEvents_ofTote x d t n u.line.clock
  have filled : u.used + u.live ≤ 252 := (h.used_live live).trans room
  have stored := offerEvents_all (u.modDest d (x.afterDrop t)) _ (fun e he => (ofTote e he).1)
    (fun e he => (h.enabled _).trans (enabled _ (ofTote e he).2)) (Nat.add_le_add filled (dropEvents_length x d t n _))
  obtain ⟨rest, events, kinds⟩ := afterRetirement_growsClosing (u.afterDrop d t n) it
  refine ⟨rest, events.trans ?_, kinds⟩
  rw [afterDrop_eq dest, (h.offered d _ stored).events, h.line]
  simp

/-! ### The answers of a drop claim (R141, R155) -/

/-- The drop claim of the item charges `w`: its weight, or the nominal weight of its program in its bank (R155). -/
def State.Charges (s : State) (it : Item) (w : Nat) : Prop :=
  it.weight = some w ∨ (it.weight = none ∧ ∃ pr,
    (s.plan.banks.at it.bank).programs.lookup (it.category.getD 31) = some pr ∧ w = pr.nominal)

theorem State.Charges.chargeFor {s : State} {it : Item} {w : Nat} (h : s.Charges it w) : s.chargeFor it = w := by
  unfold State.chargeFor
  rcases h with weighed | ⟨unweighed, pr, program, rfl⟩
  · rw [weighed]
    rfl
  · rw [unweighed, program_of_lookup program]
    rfl

/-- A pitch leaves the programs, so that the charge stays. -/
theorem State.Charges.kept {s t : State} {it : Item} {w : Nat} (h : s.Charges it w)
    (programs : ∀ b, (t.plan.banks.at b).programs = (s.plan.banks.at b).programs) : t.Charges it w := by
  unfold State.Charges
  rw [programs]
  exact h

/-- At a destination's gate the item of that destination makes its drop claim. -/
theorem gateWork_claim {s : State} {d n : Nat} {it : Item} (found : s.atGate d = some (n, it))
    (route : it.route = some (.tote d)) : s.gateWork d = s.claim n it d := by
  unfold State.gateWork
  simp only [found, route, if_true]

theorem claim_inactive {s : State} {d : Nat} {x : Destination} (h : s.totes.dests.lookup d = some x)
    (inactive : ∀ y, x.state ≠ .active y) (n : Nat) (it : Item) : s.claim n it d = s := by
  unfold State.claim
  rw [dest_of_lookup s d x h]
  cases state : x.state with
  | active y => exact absurd state (inactive y)
  | starved | stalled => rfl

section Claim

variable {s : State} {d n w : Nat} {it : Item} {x : Destination} {y : Tote}

theorem claim_active (h : s.totes.dests.lookup d = some x) (active : x.state = .active y) (charge : s.Charges it w) :
    s.claim n it d =
      if y.count = 0 ∧ y.weightLimit < w then s.modItem n fun x => x.sendToE .tooHeavy
      else if y.weightLimit < y.weight + w then s.complete d y .weight n
      else s.acceptDrop n it d y w := by
  unfold State.claim
  rw [dest_of_lookup s d x h, active, charge.chargeFor]

theorem claim_too_heavy (h : s.totes.dests.lookup d = some x) (active : x.state = .active y) (charge : s.Charges it w)
    (empty : y.count = 0) (heavy : y.weightLimit < w) : s.claim n it d = s.modItem n fun x => x.sendToE .tooHeavy := by
  rw [claim_active h active charge, if_pos ⟨empty, heavy⟩]

theorem claim_overflow (h : s.totes.dests.lookup d = some x) (active : x.state = .active y) (charge : s.Charges it w)
    (filled : y.count ≠ 0) (exceeds : y.weightLimit < y.weight + w) : s.claim n it d = s.complete d y .weight n := by
  rw [claim_active h active charge, if_neg fun c => filled c.1, if_pos exceeds]

theorem claim_accepted (h : s.totes.dests.lookup d = some x) (active : x.state = .active y) (charge : s.Charges it w)
    (fits : y.weight + w ≤ y.weightLimit) : s.claim n it d = s.acceptDrop n it d y w := by
  rw [claim_active h active charge, if_neg fun c => by omega, if_neg (Nat.not_lt.2 fits)]

end Claim

/-- What the tote's completion at a claim leaves at its destination, and the events it offers (R157). -/
theorem complete_dest {s : State} {d : Nat} {x : Destination} (h : s.totes.dests.lookup d = some x) (t : Tote)
    (reason : CompletionReason) (item : Nat) :
    (s.complete d t reason item).totes.dests.lookup d = some (x.completion t x) := by
  rw [complete_eq h, offerEvents_totes]
  exact lookup_modDest h _

theorem complete_events {s : State} {d : Nat} {x : Destination} (h : s.totes.dests.lookup d = some x) (t : Tote)
    (reason : CompletionReason) (item : Nat) (enabled : ∀ k ∈ toteKinds, s.enabled k = true)
    (room : s.used + s.live ≤ 252) :
    (s.complete d t reason item).queue.events = s.queue.events ++
      x.completionEvents (x.completion t x) d t reason item s.line.clock := by
  have ofTote := completionEvents_ofTote x (x.completion t x) d t reason item s.line.clock
  rw [complete_eq h]
  exact offerEvents_all (s.modDest d (x.completion t)) _ (fun e he => (ofTote e he).1)
    (fun e he => enabled _ (ofTote e he).2) (Nat.add_le_add room (completionEvents_length _ _ _ _ _ _ _))

end Sys2Proof.Machine
end

section
/-! The drops of a pitch at gate E and at a destination's gate (O42, O43). -/

namespace Sys2Proof.Machine

/-- When the gate's act in a pitch retires its item, the whole pitch leaves it retired, with the gate asserted. -/
theorem dropped_of_retires {s v u t : State} {g n : Nat} {it : Item} {final : EventBody} {toteEvents : List Event}
    (before : State.Beside g n s.pitched v) (retires : v.retires u n it final toteEvents) (gate : g ∈ u.sorter.gates)
    (after : State.Beside g n u t) (placed : t.Placed) :
    t.item n = none ∧ g ∈ t.sorter.gates ∧ (∀ e ∈ t.sorter.carriers.entries, e.2 ≠ n) ∧
      ∃ more, t.queue.events = s.queue.events ++ more ∧ ⟨s.line.clock, n, final⟩ ∈ more := by
  have gone : t.item n = none := after.item.trans retires.1
  have clock : v.line.clock = s.line.clock := before.kept.clock
  exact ⟨gone, after.gates.2 gate, placed.no_carrier gone, stored_of_pitch before after (clock ▸ retires.final_stored)⟩

/-! ### Gate E (R142) -/

/-- The final event's body of an item that is dropped at gate E. -/
theorem itemException_of_sorting {it : Item} {reason : ExcReason} (sorting : it.state = .sorting)
    (route : it.route = some (.exception reason)) : EventBody.itemException reason it.finalFields = .itemException reason
      { lane := it.lane, ticket := it.ticket, parcel := it.parcel, state := .sorting, grade := it.grade,
        result := it.result, matched := it.matched, dest := some .gateE, laps := it.laps, forced := it.forced } := by
  rw [finalFields_of_sorting sorting, dest_of_exception route]

/-- Settles O42: gate E's act is the exception drop, whose closed record the steps of a retirement follow; the other acts of
the pitch leave it so. -/
theorem gateEDropsItsItems : Obligations.GateEDropsItsItems := by
  unfold Obligations.GateEDropsItsItems
  refine ⟨fun s p n it reason running line sorter placed position brought route => ?_,
    fun s t p n it reason position carried live sorting route ht => ?_⟩
  · have brings : s.Brings 16 n it :=
      brings_of_lawful running line sorter placed (Nat.le_refl 16) position brought (by rw [route]; rfl)
    obtain ⟨v, t, step, before, there, found, after, kept⟩ := exec_pitch_gate brings
    obtain ⟨_, _, _, live⟩ := atGate_eq_some_iff.1 found
    have retires := exceptionDrop_retires live reason
    rw [itemException_of_sorting (there.sorting_atGate found) route] at retires
    rw [gateWork_exception found route] at after
    have gate : 16 ∈ (v.exceptionDrop n it reason).sorter.gates := (exceptionDrop_gates v n it reason 16).2 (.inl rfl)
    exact ⟨t, step, dropped_of_retires before retires gate after kept⟩
  · have found : s.atGate 16 = some (n, it) := atGate_eq_some_iff.2 ⟨p, position, carried, live⟩
    have drop : t = s.exceptionDrop n it reason := ht.trans (gateWork_exception found route)
    subst drop
    have retires := exceptionDrop_retires live reason
    rw [itemException_of_sorting sorting route] at retires
    exact ⟨retires, exceptionDrop_totes s n it reason, exceptionDrop_port s n it reason, exceptionDrop_gates s n it reason⟩

/-! ### A drop claim in a pitch (R140, R141) -/

theorem itemPlaced_of_sorting {it : Item} {d : Nat} (sorting : it.state = .sorting) (route : it.route = some (.tote d))
    (tote w : Nat) : EventBody.itemPlaced tote w it.finalFields = .itemPlaced tote w
      { lane := it.lane, ticket := it.ticket, parcel := it.parcel, state := .sorting, grade := it.grade,
        result := it.result, matched := it.matched, dest := some (.gate d), laps := it.laps, forced := it.forced } := by
  rw [finalFields_of_sorting sorting, dest_of_tote route]

/-- In the pitch from `s` to `t` item `n` makes its drop claim at destination `d`, which is `x`, in state `v`. -/
structure State.ClaimedIn (s v t : State) (d n w : Nat) (it : Item) (x : Destination) : Prop where
  before  : State.Beside d n s.pitched v
  live    : v.item n = some it
  sorting : it.state = .sorting
  route   : it.route = some (.tote d)
  dest    : v.totes.dests.lookup d = some x
  charges : v.Charges it w
  after   : State.Beside d n (v.claim n it d) t
  placed  : t.Placed

theorem exec_pitch_claim {s : State} {d n w : Nat} {it : Item} {x : Destination} (h : s.Brings d n it)
    (route : it.route = some (.tote d)) (dest : s.totes.dests.lookup d = some x) (charges : s.Charges it w) :
    ∃ v t, exec .pitch s = .next t ∧ s.ClaimedIn v t d n w it x := by
  obtain ⟨v, t, step, before, there, found, after, placed⟩ := exec_pitch_gate h
  obtain ⟨_, _, _, live⟩ := atGate_eq_some_iff.1 found
  rw [gateWork_claim found route] at after
  exact ⟨v, t, step, before, live, there.sorting_atGate found, route, before.dest.trans dest,
    charges.kept before.kept.programs, after, placed⟩

namespace State.ClaimedIn

variable {s v t : State} {d n w : Nat} {it : Item} {x : Destination} {y : Tote}

theorem clock (h : s.ClaimedIn v t d n w it x) : v.line.clock = s.line.clock := h.before.kept.clock

/-- A claim that is not accepted asserts no gate output. -/
theorem no_gate (h : s.ClaimedIn v t d n w it x) (sorter : (v.claim n it d).sorter = v.sorter) : d ∉ t.sorter.gates := by
  rw [h.after.gates, sorter, h.before.gates]
  exact List.not_mem_nil

theorem inactive (h : s.ClaimedIn v t d n w it x) (idle : ∀ y, x.state ≠ .active y) :
    t.item n = some it ∧ t.totes.dests.lookup d = some x ∧ d ∉ t.sorter.gates := by
  have same := claim_inactive h.dest idle n it
  have live : (v.claim n it d).item n = some it := by rw [same, h.live]
  exact ⟨h.after.item.trans live, h.after.dest.trans (by rw [same, h.dest]), h.no_gate (by rw [same])⟩

theorem too_heavy (h : s.ClaimedIn v t d n w it x) (active : x.state = .active y) (empty : y.count = 0)
    (heavy : y.weightLimit < w) :
    t.item n = some { it with route := some (.exception .tooHeavy) } ∧ t.totes.dests.lookup d = some x ∧
      d ∉ t.sorter.gates := by
  have sent := claim_too_heavy (n := n) h.dest active h.charges empty heavy
  have free : it.held = false := by unfold Item.held; rw [h.route]
  refine ⟨h.after.item.trans ?_, h.after.dest.trans (by rw [sent]; exact h.dest), h.no_gate (by rw [sent]; rfl)⟩
  rw [sent, item_modItem, if_pos rfl, h.live, Option.map_some, sendToE_eq, free]
  rfl

theorem overflow (h : s.ClaimedIn v t d n w it x) (active : x.state = .active y) (filled : y.count ≠ 0)
    (exceeds : y.weightLimit < y.weight + w) :
    t.item n = some it ∧ d ∉ t.sorter.gates ∧ ∃ z, t.totes.dests.lookup d = some z ∧ x.Completed y z := by
  have completes := claim_overflow (n := n) h.dest active h.charges filled exceeds
  refine ⟨h.after.item.trans ?_, h.no_gate (by rw [completes, complete_sorter]), _, h.after.dest.trans ?_,
    completion_completed x y⟩
  · rw [completes, item_of_items_eq (complete_items _ _ _ _ _)]
    exact h.live
  · rw [completes]
    exact complete_dest h.dest y .weight n

theorem accepted (h : s.ClaimedIn v t d n w it x) (active : x.state = .active y) (fits : y.weight + w ≤ y.weightLimit) :
    (t.item n = none ∧ d ∈ t.sorter.gates ∧ (∀ e ∈ t.sorter.carriers.entries, e.2 ≠ n) ∧
        ∃ more, t.queue.events = s.queue.events ++ more ∧
          ⟨s.line.clock, n, .itemPlaced y.id w it.finalFields⟩ ∈ more) ∧
      (y.count + 1 ≠ y.capacity → t.totes.dests.lookup d = some (x.holding (y.countDrop w s.line.clock))) ∧
      (y.count + 1 = y.capacity → ∃ z, t.totes.dests.lookup d = some z ∧ x.Completed (y.countDrop w s.line.clock) z) := by
  have drop := claim_accepted (n := n) h.dest active h.charges fits
  have after := drop ▸ h.after
  obtain ⟨toteEvents, retires, _⟩ := (dropClosed_closed v n it d y w).afterDrop_retires h.live
    (dropClosed_dest h.dest n it y w) (y.countDrop w v.line.clock)
  have tote := acceptDrop_tote h.dest n it y w
  rw [h.clock, ← after.dest] at tote
  exact ⟨dropped_of_retires h.before retires ((acceptDrop_gates v n it d y w d).2 (.inl rfl)) after h.placed, tote⟩

end State.ClaimedIn

/-! ### The events of an accepted drop (R156, R157) -/

/-- The events of a drop's tote, by the destination that the drop leaves. -/
theorem dropEvents_holding (x : Destination) (d : Nat) (t : Tote) (item clock : Nat) :
    (x.holding t).dropEvents d t item clock =
      if t.count = t.capacity then
        x.completionEvents ((x.holding t).afterDrop t (x.holding t)) d t .full item clock
      else if t.count = t.warnAt then [⟨clock, item, .toteNearFull t.id d t.count t.capacity t.weight⟩]
      else [] := by
  unfold Destination.dropEvents Destination.afterDrop
  by_cases full : t.count = t.capacity
  · simp only [if_pos full]
    rfl
  · simp only [if_neg full]

/-- Settles O43: the gate's act is the drop claim, which has one lemma for each of its answers; beside it the pitch leaves the
item, its destination and its gate, and an accepted drop is a closed record that the steps of a retirement follow. -/
theorem dropClaimsAtAGate : Obligations.DropClaimsAtAGate := by
  unfold Obligations.DropClaimsAtAGate
  refine ⟨fun s d p n w it x running line sorter placed gate position brought route dest charges => ?_,
    fun s t d n w it x y gate found sorting route dest active charges nearFull complete lot stalled starved lotOpen room
      ht => ?_,
    fun s t d p n w it x y y' gate position carried live sorting route dest active charges fits counted ht => ?_⟩
  · have brings : s.Brings d n it :=
      brings_of_lawful running line sorter placed (Nat.le_succ_of_le gate) position brought (by rw [route]; rfl)
    obtain ⟨v, t, step, claimed⟩ := exec_pitch_claim brings route dest charges
    refine ⟨t, step, claimed.inactive, fun y active => ⟨claimed.too_heavy active, claimed.overflow active, ?_⟩⟩
    rintro fits _ rfl
    have accepted := claimed.accepted active fits
    rw [itemPlaced_of_sorting claimed.sorting route] at accepted
    obtain ⟨⟨gone, fires, carriers, stored⟩, tote⟩ := accepted
    exact ⟨gone, fires, carriers, stored, tote⟩
  · obtain ⟨_, _, _, live⟩ := atGate_eq_some_iff.1 found
    have claim : t = s.claim n it d := ht.trans (gateWork_claim found route)
    have enabled : ∀ k ∈ toteKinds, s.enabled k = true := by
      simp [toteKinds, nearFull, complete, lot, stalled, starved, lotOpen]
    refine ⟨fun filled exceeds => ⟨x.completion y x, ?_, ?_⟩, ?_⟩
    · rw [claim, claim_overflow dest active charges filled exceeds]
      exact complete_dest dest y .weight n
    · rw [claim, claim_overflow dest active charges filled exceeds]
      exact complete_events dest y .weight n enabled room
    · rintro fits _ rfl
      obtain ⟨rest, events, kinds⟩ := (dropClosed_closed s n it d y w).afterDrop_events live
        (dropClosed_dest dest n it y w) (y.countDrop w s.line.clock) enabled room
      rw [itemPlaced_of_sorting sorting route, dropEvents_holding] at events
      rw [claim, claim_accepted dest active charges fits]
      exact ⟨_, rest, acceptDrop_dest dest n it y w, events, kinds⟩
  · have found : s.atGate d = some (n, it) := atGate_eq_some_iff.2 ⟨p, position, carried, live⟩
    have drop : t = s.acceptDrop n it d y w :=
      (ht.trans (gateWork_claim found route)).trans (claim_accepted dest active charges fits)
    subst drop counted
    obtain ⟨toteEvents, retires, kinds⟩ := (dropClosed_closed s n it d y w).afterDrop_retires live
      (dropClosed_dest dest n it y w) (y.countDrop w s.line.clock)
    rw [itemPlaced_of_sorting sorting route] at retires
    obtain ⟨below, full⟩ := acceptDrop_tote dest n it y w
    exact ⟨⟨toteEvents, retires, kinds⟩, below, full, fun k other => acceptDrop_other_dest s n it other y w,
      acceptDrop_port s n it d y w, acceptDrop_gates s n it d y w⟩

end Sys2Proof.Machine
end

section
/-! The law of the totes, clause by clause, and the changes of one destination that keep it: a chain that takes no new
descriptor, and ADD TOTE's new one (R151 to R153, R157 to R161). -/

namespace Sys2Proof.Machine

/-! ### One entry of a table -/

/-- In a table of different keys one entry stands among the others, which a change of it leaves. -/
theorem modify_split {α : Type} (t : Table α) (keys : (t.entries.map (·.1)).Nodup) {k : Nat} {v : α}
    (h : t.lookup k = some v) :
    ∃ before after, t.entries = before ++ (k, v) :: after ∧
      ∀ f, (t.modify k f).entries = before ++ (k, f v) :: after := by
  obtain ⟨before, after, split⟩ := List.append_of_mem (mem_of_lookup t k v h)
  refine ⟨before, after, split, fun f => ?_⟩
  rw [split, List.map_append, List.map_cons, List.nodup_middle, List.nodup_cons, ← List.map_append] at keys
  have other : ∀ e ∈ before ++ after, (if e.1 = k then (e.1, f e.2) else e) = e := fun e he =>
    if_neg fun same => keys.1 (List.mem_map.2 ⟨e, he, same⟩)
  unfold Table.modify
  rw [split, List.map_append, List.map_cons, if_pos rfl,
    List.map_congr_left fun e he => other e (List.mem_append_left _ he),
    List.map_congr_left fun e he => other e (List.mem_append_right _ he), List.map_id', List.map_id']

/-- The descriptors of one chain stand among those of the other destinations, which a change of it leaves. -/
theorem allTotes_modDest {s : State} (keys : s.totes.dests.entries.map (·.1) = List.range 16) {d : Nat}
    {x : Destination} (h : s.totes.dests.lookup d = some x) :
    ∃ others, s.allTotes.Perm (x.totes ++ others) ∧ ∀ f, (s.modDest d f).allTotes.Perm ((f x).totes ++ others) := by
  obtain ⟨before, after, entries, changed⟩ := modify_split s.totes.dests (keys ▸ List.nodup_range) h
  refine ⟨(before.map (·.2)).flatMap Destination.totes ++ (after.map (·.2)).flatMap Destination.totes, ?_, fun f => ?_⟩
  · simpa [State.allTotes, Table.values, entries] using List.perm_append_comm_assoc _ _ _
  · simpa [State.allTotes, Table.values, changed] using List.perm_append_comm_assoc _ _ _

/-! ### The law, clause by clause -/

/-- `State.totesLawful`, clause by clause. -/
structure State.TotesLawful (s : State) : Prop where
  keys  : s.totes.dests.entries.map (·.1) = List.range 16
  dests : ∀ d x, s.totes.dests.lookup d = some x → x.lawful = true
  pool  : s.allTotes.length ≤ 256
  ids   : (s.allTotes.map Tote.id).Nodup

/-- The table of the sixteen destinations is canonical. -/
theorem dests_wf_of_keys {t : Table Destination} (keys : t.entries.map (·.1) = List.range 16) : t.wf = true :=
  (risingKeys_keys t.entries ((List.range 16).map fun k => (k, ())) (by rw [keys]; decide)).trans (by decide)

theorem totesLawful_iff (s : State) : s.totesLawful = true ↔ s.TotesLawful := by
  simp only [State.totesLawful, Bool.and_eq_true, Bool.not_eq_true', hasRepeat_eq_false_iff, decide_eq_true_eq,
    List.all_eq_true]
  constructor
  · rintro ⟨⟨⟨keys, dests⟩, pool⟩, ids⟩
    exact ⟨keys, fun d x h => dests x (List.mem_map_of_mem (mem_of_lookup _ d x h)), pool, ids⟩
  · intro h
    refine ⟨⟨⟨h.keys, fun x hx => ?_⟩, h.pool⟩, h.ids⟩
    obtain ⟨e, he, rfl⟩ := List.mem_map.1 hx
    exact h.dests e.1 e.2 (lookup_of_mem _ _ _ (dests_wf_of_keys h.keys) he)

/-- A destination whose state is not STARVED is one of the sixteen. -/
theorem lookup_of_state_ne_starved {s : State} {d : Nat} (h : (s.dest d).state ≠ .starved) :
    s.totes.dests.lookup d = some (s.dest d) := by
  unfold State.dest at h ⊢
  cases found : s.totes.dests.lookup d with
  | none => rw [found] at h; exact absurd rfl h
  | some x => rfl

/-- A change of a destination beyond the sixteen changes nothing. -/
theorem modDest_of_none {s : State} (wf : s.totes.dests.wf = true) {d : Nat} (h : s.totes.dests.lookup d = none)
    (f : Destination → Destination) : s.modDest d f = s := by
  have same : s.totes.dests.modify d f = s.totes.dests := by
    unfold Table.modify
    refine congrArg Table.mk ((List.map_congr_left fun e he => if_neg fun key => ?_).trans (List.map_id' _))
    rw [← key, lookup_of_mem _ _ _ wf he] at h
    cases h
  unfold State.modDest
  rw [same]

/-! ### A change of one destination -/

/-- A change keeps the law when what it makes of the destination is lawful and its chain fits beside the others. -/
theorem State.TotesLawful.change {s : State} (h : s.TotesLawful) {d : Nat} {x : Destination}
    (found : s.totes.dests.lookup d = some x) {f : Destination → Destination} (lawful : (f x).lawful = true)
    (fits : ∀ others, s.allTotes.Perm (x.totes ++ others) →
      ((f x).totes ++ others).length ≤ 256 ∧ (((f x).totes ++ others).map Tote.id).Nodup) :
    (s.modDest d f).TotesLawful := by
  obtain ⟨others, before, after⟩ := allTotes_modDest h.keys found
  obtain ⟨pool, ids⟩ := fits others before
  refine ⟨(keys_modify _ d f).trans h.keys, fun k y hy => ?_, (after f).length_eq ▸ pool,
    ((after f).map Tote.id).nodup_iff.2 ids⟩
  by_cases same : k = d
  · subst same
    rw [lookup_modDest found] at hy
    exact Option.some.inj hy ▸ lawful
  · rw [lookup_modDest_other s same] at hy
    exact h.dests k y hy

/-- A chain whose tote IDs are some of those it had, in their order, still fits. -/
theorem State.TotesLawful.shrink {s : State} (h : s.TotesLawful) {d : Nat} {x : Destination}
    (found : s.totes.dests.lookup d = some x) {f : Destination → Destination} (lawful : (f x).lawful = true)
    (fewer : ((f x).totes.map Tote.id).Sublist (x.totes.map Tote.id)) : (s.modDest d f).TotesLawful := by
  refine h.change found lawful fun others all => ?_
  have length : (f x).totes.length ≤ x.totes.length := by simpa using fewer.length_le
  have pool := h.pool
  rw [all.length_eq, List.length_append] at pool
  have ids := (all.map Tote.id).nodup_iff.1 h.ids
  rw [List.map_append] at ids ⊢
  exact ⟨by rw [List.length_append]; omega, ids.sublist (fewer.append_right _)⟩

/-- A new descriptor fits where the pool has a FREE one and no descriptor carries its ID (R161). -/
theorem State.TotesLawful.grow {s : State} (h : s.TotesLawful) {d : Nat} {x : Destination}
    (found : s.totes.dests.lookup d = some x) {f : Destination → Destination} (lawful : (f x).lawful = true) {t : Tote}
    (more : (f x).totes.Perm (t :: x.totes)) (room : s.allTotes.length < 256) (new : ∀ y ∈ s.allTotes, y.id ≠ t.id) :
    (s.modDest d f).TotesLawful := by
  refine h.change found lawful fun others all => ?_
  have grown : ((f x).totes ++ others).Perm (t :: s.allTotes) :=
    (more.append_right others).trans (all.symm.cons t)
  refine ⟨grown.length_eq ▸ room, (grown.map Tote.id).nodup_iff.2 (List.nodup_cons.2 ⟨fun listed => ?_, h.ids⟩)⟩
  obtain ⟨y, hy, same⟩ := List.mem_map.1 listed
  exact new y hy same

/-! ### What the changes make of a destination -/

theorem destination_lawful_iff (x : Destination) : x.lawful = true ↔
    (x.state = .starved → x.queued = []) ∧ (∀ t, x.state = .active t → t.lawful = true) ∧
      ∀ t ∈ x.queued, t.fresh = true := by
  unfold Destination.lawful
  cases x.state <;> simp

theorem tote_lawful_iff (t : Tote) : t.lawful = true ↔ t.count < t.capacity ∧ t.weight ≤ t.weightLimit := by
  simp [Tote.lawful]

theorem fresh_iff (t : Tote) : t.fresh = true ↔ t.count = 0 ∧ t.weight = 0 ∧ 1 ≤ t.capacity := by
  simp [Tote.fresh, and_assoc]

/-- A fresh descriptor can become current (R159). -/
theorem lawful_of_fresh {t : Tote} (h : t.fresh = true) : t.lawful = true := by
  obtain ⟨count, weight, capacity⟩ := (fresh_iff t).1 h
  exact (tote_lawful_iff t).2 ⟨by omega, by omega⟩

/-- The QUEUED descriptors are some of the chain, in its order. -/
theorem queued_sublist_totes (x : Destination) : x.queued.Sublist x.totes := by
  unfold Destination.totes
  split
  exacts [List.sublist_cons_self _ _, .refl _, .refl _]

/-- The destination advanced: the first QUEUED descriptor is current, or it is STARVED (R159). -/
def Destination.advanced (x y : Destination) : Destination :=
  match x.queued with
  | [] => { y with state := .starved }
  | q :: rest => { y with state := .active q, queued := rest }

theorem next_of_not_stalls {x : Destination} {t : Tote} (h : x.stallsOn t = false) : x.next t = x.advanced := by
  funext y
  unfold Destination.next Destination.advanced
  rw [h]
  rfl

/-- An advance frees the current descriptor and no QUEUED one. -/
theorem advanced_totes (x : Destination) {y : Destination} (same : y.queued = x.queued) :
    (x.advanced y).totes = x.queued := by
  unfold Destination.advanced
  cases queued : x.queued with
  | nil => exact same.trans queued
  | cons q rest => rfl

theorem advanced_lawful {x : Destination} (fresh : ∀ q ∈ x.queued, q.fresh = true) {y : Destination}
    (same : y.queued = x.queued) : (x.advanced y).lawful = true := by
  unfold Destination.advanced
  cases queued : x.queued with
  | nil => simp [Destination.lawful, same.trans queued]
  | cons q rest =>
    rw [queued, List.forall_mem_cons] at fresh
    exact (destination_lawful_iff _).2 ⟨nofun, fun t active => by cases active; exact lawful_of_fresh fresh.1, fresh.2⟩

/-- A completion frees its descriptor and no QUEUED one (R157). -/
theorem completion_totes (x : Destination) (t : Tote) {y : Destination} (same : y.queued = x.queued) :
    (x.completion t y).totes = x.queued := by
  unfold Destination.completion
  cases stalls : x.stallsOn t with
  | true => unfold Destination.next; rw [if_pos stalls]; exact same
  | false => rw [next_of_not_stalls stalls]; exact advanced_totes x same

theorem completion_lawful {x : Destination} (fresh : ∀ q ∈ x.queued, q.fresh = true) (t : Tote) {y : Destination}
    (same : y.queued = x.queued) : (x.completion t y).lawful = true := by
  unfold Destination.completion
  cases stalls : x.stallsOn t with
  | true =>
    unfold Destination.next
    rw [if_pos stalls]
    exact (destination_lawful_iff _).2 ⟨nofun, nofun, fun q hq => fresh q (same ▸ hq)⟩
  | false => rw [next_of_not_stalls stalls]; exact advanced_lawful fresh same

end Sys2Proof.Machine
end

section
/-! Every step keeps the totes lawful (R151 to R153): the acts of the Destination Controller, and that every other act
leaves the destinations. -/

namespace Sys2Proof.Machine

/-! ### What keeps the law -/

/-- Whatever made the second state of the first kept the totes' law. -/
def State.TotesKept (s t : State) : Prop := s.TotesLawful → t.TotesLawful

namespace State.TotesKept

variable {s t u : State}

theorem refl (s : State) : s.TotesKept s := id

theorem trans (h : s.TotesKept t) (h' : t.TotesKept u) : s.TotesKept u := h' ∘ h

theorem foldl {α : Type} {f : State → α → State} (h : ∀ (s : State) a, s.TotesKept (f s a)) (l : List α) (s : State) :
    s.TotesKept (l.foldl f s) := by
  induction l generalizing s with
  | nil => exact refl s
  | cons a rest ih => exact (h s a).trans (ih _)

/-- The Destination Controller stays. -/
theorem aside (h : t.totes = s.totes := by rfl) : s.TotesKept t := fun lawful => by
  have all : t.allTotes = s.allTotes := by unfold State.allTotes; rw [h]
  exact ⟨h ▸ lawful.keys, h ▸ lawful.dests, all ▸ lawful.pool, all ▸ lawful.ids⟩

/-- The Destination Controller becomes that of another state. -/
theorem congr (h : s.TotesKept t) (same : u.totes = t.totes) : s.TotesKept u := h.trans (aside same)

/-- One destination changes, if it is there: it stays lawful, and takes no new descriptor. -/
theorem modDest (s : State) (d : Nat) (f : Destination → Destination)
    (kept : ∀ x, s.totes.dests.lookup d = some x → x.lawful = true →
      (f x).lawful = true ∧ ((f x).totes.map Tote.id).Sublist (x.totes.map Tote.id)) : s.TotesKept (s.modDest d f) := by
  intro h
  cases found : s.totes.dests.lookup d with
  | none => rw [modDest_of_none (dests_wf_of_keys h.keys) found]; exact h
  | some x =>
    obtain ⟨lawful, fewer⟩ := kept x found (h.dests d x found)
    exact h.shrink found lawful fewer

/-- One destination's settings change. -/
theorem modSetting (s : State) (d : Nat) (f : Destination → Destination)
    (state : ∀ x, (f x).state = x.state := by intro; rfl) (queued : ∀ x, (f x).queued = x.queued := by intro; rfl) :
    s.TotesKept (s.modDest d f) :=
  modDest s d f fun x _ lawful => by
    have chain : (f x).totes = x.totes := by unfold Destination.totes; rw [state, queued]
    rw [destination_lawful_iff, state, queued, ← destination_lawful_iff, chain]
    exact ⟨lawful, .refl _⟩

end State.TotesKept

/-- What the law says of the QUEUED descriptors (R159). -/
theorem fresh_of_lawful {x : Destination} (h : x.lawful = true) : ∀ q ∈ x.queued, q.fresh = true :=
  ((destination_lawful_iff x).1 h).2.2

/-! ### What follows a completion, and the completion (R157 to R159) -/

theorem advance_eq {s : State} {d : Nat} {x : Destination} (h : s.totes.dests.lookup d = some x) :
    s.advance d = (s.modDest d x.advanced).offerEvents ((x.advanced x).nextEvents d s.line.clock) := by
  have starved : ((s.modDest d fun y => { y with state := .starved }).offer 0
      (.destinationStarved d)).totes.dests.lookup d = some { x with state := .starved } := by
    rw [offer_totes]; exact lookup_modDest h _
  unfold State.advance Destination.advanced
  rw [dest_of_lookup s d x h]
  cases x.queued with
  | nil => exact (offerLotOpen_eq starved).trans (by rw [offer_line]; rfl)
  | cons q rest => rfl

theorem advance_totesKept {s : State} {d : Nat} {x : Destination} (h : s.totes.dests.lookup d = some x) :
    s.TotesKept (s.advance d) := by
  rw [advance_eq h]
  refine .congr (.modDest s d _ fun y found lawful => ?_) (offerEvents_totes _ _)
  cases h.symm.trans found
  rw [advanced_totes x rfl]
  exact ⟨advanced_lawful (fresh_of_lawful lawful) rfl, (queued_sublist_totes x).map _⟩

theorem complete_totesKept {s : State} {d : Nat} {x : Destination} (h : s.totes.dests.lookup d = some x) (t : Tote)
    (reason : CompletionReason) (item : Nat) : s.TotesKept (s.complete d t reason item) := by
  rw [complete_eq h]
  refine .congr (.modDest s d _ fun y found lawful => ?_) (offerEvents_totes _ _)
  cases h.symm.trans found
  rw [completion_totes x t rfl]
  exact ⟨completion_lawful (fresh_of_lawful lawful) t rfl, (queued_sublist_totes x).map _⟩

/-! ### The tote requests (R160 to R165) -/

theorem addTote_totes_perm (x : Destination) (t : Tote) : (x.addTote t).totes.Perm (t :: x.totes) := by
  unfold Destination.addTote Destination.totes
  cases x.state with
  | starved => exact .refl _
  | active y => exact List.perm_append_singleton t (y :: x.queued)
  | stalled => exact List.perm_append_singleton t x.queued

theorem addTote_lawful {x : Destination} (h : x.lawful = true) {t : Tote} (fresh : t.fresh = true) :
    (x.addTote t).lawful = true := by
  obtain ⟨empty, current, queued⟩ := (destination_lawful_iff x).1 h
  have joined : ∀ q ∈ x.queued ++ [t], q.fresh = true := fun q hq =>
    (List.mem_append.1 hq).elim (queued q) fun last => List.mem_singleton.1 last ▸ fresh
  have behind : x.state ≠ .starved → ({ x with queued := x.queued ++ [t] } : Destination).lawful = true := fun state =>
    (destination_lawful_iff _).2 ⟨fun starved => absurd starved state, current, joined⟩
  unfold Destination.addTote
  split
  · exact (destination_lawful_iff _).2 ⟨nofun, fun y active => by cases active; exact lawful_of_fresh fresh, queued⟩
  · next state => exact behind (by rw [state]; nofun)
  · next state => exact behind (by rw [state]; nofun)

theorem newTote_fresh {tote capacity weightLimit warnAt : Nat} {pause lotEnd : Bool} (h : 1 ≤ capacity) :
    (newTote tote capacity weightLimit warnAt pause lotEnd).fresh = true :=
  (fresh_iff _).2 ⟨rfl, rfl, h⟩

theorem toteInRange_iff (d tote capacity weightLimit warnAt : Nat) (pause lotEnd : Coded Mark) :
    toteInRange d tote capacity weightLimit warnAt pause lotEnd = true ↔
      d ≤ 15 ∧ tote ≠ 0 ∧ 1 ≤ capacity ∧ capacity ≤ 60 ∧ 500 ≤ weightLimit ∧ weightLimit ≤ 25000 ∧ warnAt < capacity ∧
        (coded pause).isSome = true ∧ (coded lotEnd).isSome = true := by
  simp [toteInRange, and_assoc]

/-- R161: the tests of ADD TOTE leave a FREE descriptor and a new ID. -/
theorem addTote_totesKept (d tote capacity weightLimit warnAt : Nat) (pause lotEnd : Coded Mark) (s : State) :
    s.TotesKept (addTote d tote capacity weightLimit warnAt pause lotEnd s).state := by
  unfold addTote
  split
  · exact .refl s
  · next range =>
    split
    · exact .refl s
    · next new =>
      split
      · exact .refl s
      · next free =>
        intro h
        simp only [Bool.not_eq_true', Bool.not_eq_false] at range
        have room : s.allTotes.length < 256 := by
          have pool : s.freeTotes = 256 - s.allTotes.length := rfl
          omega
        have unlisted : ∀ y ∈ s.allTotes, y.id ≠ tote := by simpa using new
        show (s.modDest d _).TotesLawful
        cases found : s.totes.dests.lookup d with
        | none => rw [modDest_of_none (dests_wf_of_keys h.keys) found]; exact h
        | some x =>
          obtain ⟨_, _, capacity, _⟩ := (toteInRange_iff ..).1 range
          exact h.grow found (addTote_lawful (h.dests d x found) (newTote_fresh capacity)) (addTote_totes_perm x _) room
            unlisted

theorem confirmSwap_totesKept (d : Nat) (s : State) : s.TotesKept (confirmSwap d s).state := by
  unfold confirmSwap
  split
  · exact .refl s
  · split
    · next stalled => exact advance_totesKept (lookup_of_state_ne_starved (by rw [stalled]; nofun))
    all_goals exact .refl s

theorem releaseLimit_totesKept (s : State) (d : Nat) : s.TotesKept (s.releaseLimit d) := by
  unfold State.releaseLimit
  split
  · next stalled =>
    split
    · exact .refl s
    · exact advance_totesKept (lookup_of_state_ne_starved (by rw [stalled]; nofun))
  all_goals exact .refl s

theorem setLimit_totesKept (d : Nat) (limit : Option Nat) (s : State) : s.TotesKept (setLimit d limit s).state := by
  unfold setLimit
  split
  · exact .refl s
  · exact (State.TotesKept.modSetting s d _).trans (releaseLimit_totesKept _ d)

theorem closeTote_totesKept (d tote : Nat) (s : State) : s.TotesKept (closeTote d tote s).state := by
  unfold closeTote
  split
  · exact .refl s
  · split
    · next t active =>
      repeat' split
      exacts [.refl s, .refl s, complete_totesKept (lookup_of_state_ne_starved (by rw [active]; nofun)) t .forced 0]
    all_goals exact .refl s

theorem dropChain_totesKept (d : Nat) (s : State) : s.TotesKept (dropChain d s).state := by
  unfold dropChain
  split
  · exact .refl s
  · refine .modDest s d _ fun x _ lawful => ⟨?_, ?_⟩
    · obtain ⟨_, current, _⟩ := (destination_lawful_iff x).1 lawful
      exact (destination_lawful_iff _).2 ⟨fun _ => rfl, current, nofun⟩
    · unfold Destination.totes
      cases x.state <;> simp

/-- R178: CHAIN MODE is the one setting of a destination. -/
theorem configure_totesKept (name : SettingName) (value : SettingValue) (s : State) :
    s.TotesKept (configure name value s).state := by
  have written : s.TotesKept (s.writeSetting name value) := by
    unfold State.writeSetting
    split
    case h_8 => exact .modSetting s _ _
    all_goals exact .aside
  unfold configure
  repeat' split
  exacts [.refl s, .refl s, .refl s, written]

/-! ### A drop claim (R141, R155, R156) -/

theorem acceptDrop_totes {s : State} {d : Nat} {x : Destination} (h : s.totes.dests.lookup d = some x) (n : Nat)
    (it : Item) (y : Tote) (w : Nat) : (s.acceptDrop n it d y w).totes = (s.modDest d fun v =>
      (x.holding (y.countDrop w s.line.clock)).afterDrop (y.countDrop w s.line.clock)
        (v.holding (y.countDrop w s.line.clock))).totes := by
  have changes := modDest_modDest s d (fun v => v.holding (y.countDrop w s.line.clock))
    ((x.holding (y.countDrop w s.line.clock)).afterDrop (y.countDrop w s.line.clock))
  rw [acceptDrop_eq, afterRetirement_totes, afterDrop_eq (dropClosed_dest h n it y w), offerEvents_totes, ← changes]
  rfl

/-- R152: the drop's weight is within the limit, and a tote that the drop fills completes. -/
theorem acceptDrop_totesKept {s : State} {d : Nat} {x : Destination} (h : s.totes.dests.lookup d = some x) {y : Tote}
    (active : x.state = .active y) (n : Nat) (it : Item) {w : Nat} (fits : y.weight + w ≤ y.weightLimit) :
    s.TotesKept (s.acceptDrop n it d y w) := by
  refine .congr (.modDest s d _ fun x' found lawful => ?_) (acceptDrop_totes h n it y w)
  cases h.symm.trans found
  obtain ⟨_, current, fresh⟩ := (destination_lawful_iff x).1 lawful
  have chain : x.totes = y :: x.queued := by unfold Destination.totes; rw [active]
  unfold Destination.afterDrop
  split
  · rw [completion_totes (x.holding (y.countDrop w s.line.clock)) _ rfl]
    exact ⟨completion_lawful (x := x.holding _) fresh _ rfl, (queued_sublist_totes x).map _⟩
  · next below =>
    obtain ⟨room, _⟩ := (tote_lawful_iff y).1 (current y active)
    have below : y.count + 1 ≠ y.capacity := below
    refine ⟨(destination_lawful_iff _).2 ⟨nofun, fun t counted => ?_, fresh⟩, ?_⟩
    · cases counted
      exact (tote_lawful_iff _).2 ⟨Nat.lt_of_le_of_ne room below, fits⟩
    · rw [chain]
      exact .refl _

theorem claim_totesKept (s : State) (n : Nat) (it : Item) (d : Nat) : s.TotesKept (s.claim n it d) := by
  unfold State.claim
  dsimp only
  split
  · exact .refl s
  · exact .refl s
  · next y active =>
    have found : s.totes.dests.lookup d = some (s.dest d) := lookup_of_state_ne_starved (by rw [active]; nofun)
    split
    · exact .aside
    · split
      · exact complete_totesKept found y .weight n
      · next fits => exact acceptDrop_totesKept found active n it (Nat.not_lt.1 fits)

theorem gateWork_totesKept (s : State) (g : Nat) : s.TotesKept (s.gateWork g) := by
  unfold State.gateWork
  repeat' split
  exacts [.refl s, .refl s, claim_totesKept s _ _ _, .refl s, .aside (exceptionDrop_totes s _ _ _), .refl s]

theorem pitch_totesKept (s : State) : s.TotesKept s.pitch := by
  have acts : ∀ (u : State) a, u.TotesKept (u.pitchAct a) := fun u a => by
    cases a with
    | indexMissing => exact .aside (by simp [State.pitchAct, State.indexMissing])
    | merge => exact .aside (mergeWork_other u).1
    | gate g => exact gateWork_totesKept u g
  exact (State.TotesKept.aside (t := { s with sorter := s.sorter.advance })).trans <|
    (State.TotesKept.foldl acts _ _).trans (.aside (countDraw_totes _ _))

/-! ### The acts of the other blocks -/

theorem takeAnswer_totes (s : State) (a : AnswerHead) (fromRole : Role → Bool) (dataOk : Bool)
    (act : SlotId → State → State) (h : ∀ x u, (act x u).totes = u.totes) :
    (s.takeAnswer a fromRole dataOk act).totes = s.totes := by
  unfold State.takeAnswer
  repeat' split
  exacts [rfl, h _ _, rfl, rfl]

theorem takeGarbled_totes (s : State) : s.takeGarbled.totes = s.totes := by
  unfold State.takeGarbled
  repeat' split
  all_goals rfl

theorem turnPassed_totes (s : State) (partialAnswer : Bool) : (s.turnPassed partialAnswer).totes = s.totes := by
  unfold State.turnPassed
  repeat' split
  all_goals rfl

theorem deliver_totes (s : State) (x : SlotId) (ticket : Nat) (kind : ReportKind) (write : Item → Item) :
    (s.deliver x ticket kind write).totes = s.totes := by
  unfold State.deliver
  repeat' split
  all_goals simp

theorem presented_totes (s : State) (l : LaneId) : (s.presented l).totes = s.totes := by
  have afresh : (s.presentAfresh l).totes = s.totes := by
    unfold State.presentAfresh State.admission
    repeat' split
    exacts [testItem_totes _ _, rfl, rfl]
  unfold State.presented
  split
  exacts [rfl, afresh, afresh]

theorem close_totes (s : State) (l : LaneId) (cause : CloseCause) : (s.close l cause).totes = s.totes :=
  settlementTest_totes _ l

theorem parcelDone_totes (s : State) (l : LaneId) : (s.parcelDone l).totes = s.totes := by
  unfold State.parcelDone
  split
  exacts [rfl, close_totes s l .key, rfl]

theorem atEnd_totes (s : State) (l : LaneId) (ticket : Nat) : (s.atEnd l ticket).totes = s.totes := by
  have arrived : ∀ (u : State) n, (u.arrive l n).totes = u.totes := fun u n => by
    unfold State.arrive
    repeat' split
    all_goals rfl
  unfold State.atEnd
  dsimp only
  split
  · exact offer_totes _ _ _
  · exact (arrived _ _).trans (foldl_keeps (fun u => u.totes) _ (fun u m => withdraw_totes u m .skipped true) _ s)

theorem decisionExpiry_totes (s : State) (l : LaneId) : (s.decisionExpiry l).totes = s.totes := by
  unfold State.decisionExpiry State.decideAtOnce
  repeat' split
  exacts [rfl, rfl, rfl, decideItem_totes _ _, rfl]

theorem manifestExpiry_totes (s : State) (n : Nat) : (s.manifestExpiry n).totes = s.totes := by
  unfold State.manifestExpiry State.manifestOverdue
  dsimp only
  repeat' split
  all_goals simp

theorem holdLevel_totes (s : State) (high : Bool) : (s.holdLevel high).totes = s.totes := by
  unfold State.holdLevel
  split <;> simp

theorem clearPause_totes (s : State) : s.clearPause.totes = s.totes := by
  unfold State.clearPause
  split <;> simp

theorem indexEdge_totes (s : State) : s.indexEdge.totes = s.totes := by
  unfold State.indexEdge State.slip
  repeat' split
  all_goals simp

theorem tick_totes (s : State) : s.tick.totes = s.totes := by
  have waits : s.countWaits.totes = s.totes := by unfold State.countWaits; split <;> rfl
  unfold State.tick
  rw [countDraw_totes]
  exact waits

theorem stopLine_totes (kind : Coded StopKind) (s : State) : (stopLine kind s).state.totes = s.totes := by
  have aborts : ∀ (l : List LaneId) (u : State), (l.foldl (fun u l => u.abort l .cut .cut) u).totes = u.totes :=
    foldl_keeps (fun u => u.totes) _ fun u l => abort_totes u l .cut .cut
  have stopped : ∀ kind, (s.stopAs kind).totes = s.totes := fun kind => by
    unfold State.stopAs
    cases kind with
    | drain => simp
    | cut => simp [State.cutLanes, aborts]
  unfold stopLine State.stop
  repeat' split
  exacts [rfl, rfl, rfl, stopped _, stopped _, rfl, rfl]

/-! ### The requests of the other blocks -/

theorem withdrawItem_totes (n : Nat) (s : State) : (withdrawItem n s).state.totes = s.totes := by
  unfold withdrawItem
  repeat' split
  exacts [rfl, withdraw_totes s n .host true, rfl]

theorem forceGrade_totes (n : Nat) (grade : Coded Grade) (s : State) :
    (forceGrade n grade s).state.totes = s.totes := by
  unfold forceGrade
  repeat' split
  all_goals simp [State.done, State.refuse]

theorem loadReturn_totes (r : ReturnLoad) (s : State) : (loadReturn r s).state.totes = s.totes := by
  have filled : ∀ (u : State) (l : Option LaneId), ((l.map fun l => u.retest l).getD u).totes = u.totes := fun u l => by
    cases l with
    | none => rfl
    | some l => exact retest_totes u l
  unfold loadReturn
  repeat' split
  exacts [rfl, rfl, rfl, rfl, rfl, rfl, rfl, filled _ _]

theorem openParcel_totes (lane account : Nat) (pairs : List (Nat × Nat)) (s : State) :
    (openParcel lane account pairs s).state.totes = s.totes := by
  have bound : ∀ l, (pairs.foldl (fun u p => u.bindPair l account p) s).totes = s.totes := fun l =>
    foldl_keeps (fun u => u.totes) _ (fun u p => by unfold State.bindPair; split <;> rfl) pairs s
  unfold openParcel
  repeat' split
  exacts [rfl, rfl, rfl, rfl, rfl, rfl, rfl, bound _]

theorem closeParcel_totes (lane : Nat) (s : State) : (closeParcel lane s).state.totes = s.totes := by
  unfold closeParcel
  repeat' split
  exacts [rfl, rfl, close_totes s _ .host, rfl]

theorem abortLane_totes (lane : Nat) (s : State) : (abortLane lane s).state.totes = s.totes := by
  unfold abortLane
  split
  exacts [rfl, abort_totes s _ _ _]

theorem writeBank_totes (inRange : Bool) (f : Bank → Bank) (s : State) :
    (s.writeBank inRange f).state.totes = s.totes := by
  unfold State.writeBank
  repeat' split
  all_goals rfl

theorem switchPlan_totes (s : State) : (switchPlan s).state.totes = s.totes := by
  have switched : s.switchBanks.totes = s.totes := by
    unfold State.switchBanks
    cases s.activeBank <;> simp
  unfold switchPlan
  repeat' split
  exacts [rfl, rfl, switched]

theorem startLine_totes (s : State) : (startLine s).state.totes = s.totes := by
  unfold startLine
  repeat' split
  exacts [rfl, rfl, rfl, rfl, rfl, offerLineState_totes _ _]

theorem request_totesKept (c : Instr) (tag kind : Nat) (act : State → Answer) (h : requestAct c = some (tag, kind, act))
    (u : State) : u.TotesKept (act u).state := by
  cases c with
  | addTote => cases h; exact addTote_totesKept _ _ _ _ _ _ _ u
  | confirmSwap tag dest => cases h; exact confirmSwap_totesKept dest u
  | setLimit tag dest limit => cases h; exact setLimit_totesKept dest limit u
  | closeTote tag dest tote => cases h; exact closeTote_totesKept dest tote u
  | dropChain tag dest => cases h; exact dropChain_totesKept dest u
  | configure tag name value => cases h; exact configure_totesKept name value u
  | readItem tag item => cases h; exact .aside (by rw [readItem_state])
  | readReturn tag ra line => cases h; exact .aside (by rw [readReturn_state])
  | readDestination tag dest => cases h; exact .aside (by rw [readDestination_state])
  | readSetting tag name => cases h; exact .aside (by rw [readSetting_state])
  | withdrawItem tag item => cases h; exact .aside (withdrawItem_totes item u)
  | forceGrade tag item grade => cases h; exact .aside (forceGrade_totes item grade u)
  | loadReturn tag load => cases h; exact .aside (loadReturn_totes load u)
  | openParcel tag lane account pairs => cases h; exact .aside (openParcel_totes lane account pairs u)
  | closeParcel tag lane => cases h; exact .aside (closeParcel_totes lane u)
  | abortLane tag lane => cases h; exact .aside (abortLane_totes lane u)
  | writeCheck => cases h; unfold writeCheck; split <;> exact .aside (writeBank_totes _ _ u)
  | writeList | writeProgram | writeThresholds | writeMap => cases h; exact .aside (writeBank_totes _ _ u)
  | switchPlan tag => cases h; exact .aside (switchPlan_totes u)
  | startLine tag => cases h; exact .aside (startLine_totes u)
  | pauseLine => cases h; exact .aside (setPause_totes u _ _)
  | resumeLine tag => cases h; exact .aside (clearPause_totes u)
  | stopLine tag kind => cases h; exact .aside (stopLine_totes kind u)
  | addTags => cases h; unfold addTags; (repeat' split) <;> exact .aside
  | amendReturn => cases h; unfold amendReturn; (repeat' split) <;> exact .aside
  | removeReturn => cases h; unfold removeReturn; (repeat' split) <;> exact .aside
  | enrolStation => cases h; unfold enrolStation; (repeat' split) <;> exact .aside
  | retireStation => cases h; unfold retireStation; (repeat' split) <;> exact .aside
  | readStation => cases h; unfold readStation; split <;> exact .aside
  | clearBank => cases h; unfold clearBank; split <;> exact .aside
  | validatePlan => cases h; unfold validatePlan; (repeat' split) <;> exact .aside
  | setShadow => cases h; unfold setShadow; split <;> exact .aside
  | fetchEvents => cases h; unfold fetchEvents; split <;> exact .aside
  | warmReset | readStatus | unknownRequest | malformedRequest => cases h; exact .refl u
  | _ => cases h

/-! ### Every step -/

theorem serve_totesKept (s : State) (tag kind : Nat) (act : State → Answer)
    (h : ∀ u : State, u.TotesKept (act u).state) : s.TotesKept (s.serve tag kind act) := by
  unfold State.serve
  dsimp only
  split
  · exact .aside (answerBusy_totes s.frameTaken tag kind)
  · exact (State.TotesKept.aside (t := s.frameTaken)).trans ((h s.frameTaken).congr (reply_totes _ _))

/-- R168: after a cold reset every destination is STARVED and every descriptor FREE. -/
theorem cold_totesLawful (holdHigh : Bool) (strap : LinkRate) (pending : List Instr) (draws : Nat) :
    (State.cold holdHigh strap pending draws).TotesLawful :=
  State.TotesKept.aside (s := State.reset) rfl ((totesLawful_iff _).1 (by decide))

theorem exec_totesKept (c : Instr) (s : State) : ∃ t, exec c s = .next t ∧ s.TotesKept t := by
  cases hc : requestAct c with
  | some r =>
    obtain ⟨tag, kind, act⟩ := r
    exact ⟨_, exec_request c tag kind act hc s, serve_totesKept s tag kind act (request_totesKept c tag kind act hc)⟩
  | none =>
    cases c with
    | coldReset holdHigh strap => exact ⟨_, rfl, fun _ => cold_totesLawful holdHigh strap _ _⟩
    | pitch => exact ⟨_, rfl, pitch_totesKept s⟩
    | hold high => exact ⟨_, rfl, .aside (holdLevel_totes s high)⟩
    | index => exact ⟨_, rfl, .aside (indexEdge_totes s)⟩
    | sweepTimer => exact ⟨_, rfl, .aside (sweepExpiry_frame s).totes⟩
    | turnTimeout partialAnswer => exact ⟨_, rfl, .aside (turnPassed_totes s partialAnswer)⟩
    | manifestWaitExpiry ra => exact ⟨_, rfl, .aside (manifestExpiry_totes s ra)⟩
    | decisionWaitExpiry lane => exact ⟨_, rfl, .aside (decisionExpiry_totes s lane)⟩
    | interbyteTimeout | frameDiscarded | replySent | sweepFrameSent | answerOutsideTurn => exact ⟨_, rfl, .aside⟩
    | warmResetActs =>
      refine ⟨_, rfl, ?_⟩
      split <;> exact .aside
    | busy tag kind =>
      refine ⟨_, rfl, ?_⟩
      split
      exacts [.aside (answerBusy_totes s.frameTaken tag kind), .refl s]
    | nothing a => exact ⟨_, rfl, .aside (takeAnswer_totes s a _ _ _ fun _ _ => rfl)⟩
    | presented a => exact ⟨_, rfl, .aside (takeAnswer_totes s a _ _ _ fun x u => presented_totes u x.lane)⟩
    | parcelDone a => exact ⟨_, rfl, .aside (takeAnswer_totes s a _ _ _ fun x u => parcelDone_totes u x.lane)⟩
    | atEnd a => exact ⟨_, rfl, .aside (takeAnswer_totes s a _ _ _ fun x u => atEnd_totes u x.lane a.ticket)⟩
    | tagReading a | weight a | vision a =>
      exact ⟨_, rfl, .aside (takeAnswer_totes s a _ _ _ fun x u => deliver_totes u x _ _ _)⟩
    | garbledAnswer => exact ⟨_, rfl, .aside (takeGarbled_totes s)⟩
    | _ => cases hc

theorem step_totesKept {s t : State} (h : step s = .next t) : s.TotesKept t := by
  unfold step at h
  split at h
  · cases h
    exact .aside (tick_totes s)
  · next c rest _ =>
    obtain ⟨u, hu, kept⟩ := exec_totesKept c { s with pending := rest }
    rw [hu] at h
    cases h
    exact (State.TotesKept.aside (t := { s with pending := rest })).trans kept

/-- Settles O59: a current tote counts only drops that fit, a completed one is freed, and only a fresh one with a new ID
joins a chain. -/
theorem everyStepKeepsTheTotesLawful : Obligations.EveryStepKeepsTheTotesLawful := fun s t lawful h =>
  (totesLawful_iff t).2 (step_totesKept h ((totesLawful_iff s).1 lawful))

end Sys2Proof.Machine
end

section
/-! The tote requests: what they write, when they are refused, and CLOSE TOTE (R157 to R165). -/

namespace Sys2Proof.Machine

/-! ### A request that changes one destination -/

theorem offerEvents_port (s : State) (events : List Event) : (s.offerEvents events).port = s.port := by
  obtain ⟨q, hq⟩ := offerEvents_changes_queue s events
  rw [hq]

/-- Events are offered whatever the receiver holds. -/
theorem offerEvents_frameTaken (s : State) (events : List Event) :
    s.frameTaken.offerEvents events = (s.offerEvents events).frameTaken := by
  refine (foldl_with_port { s.port with receiving := [] } _
    (fun u e => offer_with_port u _ e.item e.body) events s).trans ?_
  unfold State.frameTaken
  rw [offerEvents_port]
  rfl

theorem destReport_of_lookup {s : State} {d : Nat} {x : Destination} (h : s.totes.dests.lookup d = some x) :
    s.destReport d = x.report := by
  unfold State.destReport Destination.report
  rw [dest_of_lookup s d x h]
  cases x.state <;> rfl

section Changed

variable {s : State} {tag kind d : Nat} {act : State → Answer} {x y : Destination} {f : Destination → Destination}
  {events : List Event}

/-- A request whose act changes destination `x` into `y` and offers events ends there, with the port's DONE. -/
theorem exec_modDest (c : Instr) (hc : requestAct c = some (tag, kind, act)) (h : s.serving = false)
    (wf : s.totes.dests.wf = true) (found : s.totes.dests.lookup d = some x) (made : f x = y) {data : ReplyData}
    (acts : act s.frameTaken = ((s.frameTaken.modDest d f).offerEvents events).done data) :
    exec c s = .next (((s.modDest d fun _ => y).offerEvents events).answered tag kind data) := by
  rw [← modDest_congr s d x f (fun _ => y) wf found made]
  exact exec_done c hc h _ (offerEvents_port _ _)
    (acts.trans (congrArg (fun u : State => u.done data) (offerEvents_frameTaken (s.modDest d f) events)))

/-- The same, of a request that answers with the destination. -/
theorem exec_modDest_report (c : Instr) (hc : requestAct c = some (tag, kind, act)) (h : s.serving = false)
    (wf : s.totes.dests.wf = true) (found : s.totes.dests.lookup d = some x) (made : f x = y)
    (acts : act s.frameTaken = ((s.frameTaken.modDest d f).offerEvents events).destDone d) :
    exec c s = .next (((s.modDest d fun _ => y).offerEvents events).answered tag kind (.destination y.report)) := by
  refine exec_modDest c hc h wf found made (acts.trans ?_)
  have changed : ((s.frameTaken.modDest d f).offerEvents events).totes.dests.lookup d = some y := by
    rw [offerEvents_totes, ← made]
    exact lookup_modDest found f
  unfold State.destDone
  rw [destReport_of_lookup changed]

end Changed

/-! ### The acts of the requests -/

theorem addTote_refused {d tote capacity weightLimit warnAt : Nat} {pause lotEnd : Coded Mark}
    (h : ¬ toteInRange d tote capacity weightLimit warnAt pause lotEnd = true) (s : State) :
    addTote d tote capacity weightLimit warnAt pause lotEnd s = s.refuse .outOfRange := by
  simp [addTote, h]

/-- R161: ADD TOTE with a field beyond its range changes the port alone. -/
theorem exec_addTote_outOfRange {s : State} (h : s.serving = false) (tag : Nat)
    {d tote capacity weightLimit warnAt : Nat} {pause lotEnd : Coded Mark}
    (out : ¬ toteInRange d tote capacity weightLimit warnAt pause lotEnd = true) :
    exec (.addTote tag d tote capacity weightLimit warnAt pause lotEnd) s =
      .next (s.answeredRefused tag 128 .outOfRange .headOnly) :=
  exec_refused (.addTote tag d tote capacity weightLimit warnAt pause lotEnd) rfl h (addTote_refused out _)

section AddTote

variable {d tote capacity weightLimit warnAt : Nat} {pause lotEnd : Coded Mark} {s : State}
  (h : toteInRange d tote capacity weightLimit warnAt pause lotEnd = true)

include h

theorem addTote_duplicate (carried : ∃ t ∈ s.allTotes, t.id = tote) :
    addTote d tote capacity weightLimit warnAt pause lotEnd s = s.refuse .duplicate := by
  have any : (s.allTotes.any fun t => decide (t.id = tote)) = true := by simpa using carried
  simp [addTote, h, any]

theorem addTote_full (new : ∀ t ∈ s.allTotes, t.id ≠ tote) (none : s.freeTotes = 0) :
    addTote d tote capacity weightLimit warnAt pause lotEnd s = s.refuse .full := by
  have any : (s.allTotes.any fun t => decide (t.id = tote)) = false := by simpa using new
  simp [addTote, h, any, none]

theorem addTote_taken (new : ∀ t ∈ s.allTotes, t.id ≠ tote) (free : 1 ≤ s.freeTotes) {u : State}
    (hu : u = s.modDest d fun x =>
      x.addTote (newTote tote capacity weightLimit warnAt (markSet pause) (markSet lotEnd))) :
    addTote d tote capacity weightLimit warnAt pause lotEnd s = u.done (.toteAdded (u.destReport d) u.freeTotes) := by
  have any : (s.allTotes.any fun t => decide (t.id = tote)) = false := by simpa using new
  have room : s.freeTotes ≠ 0 := Nat.ne_of_gt free
  simp [addTote, h, any, room, hu]

end AddTote

theorem markSet_known (m : Mark) : markSet (.known m) = decide (m = .set) := by cases m <;> rfl

theorem addTote_eq (x : Destination) (t : Tote) :
    x.addTote t =
      if x.state = .starved then { x with state := .active t } else { x with queued := x.queued ++ [t] } := by
  unfold Destination.addTote
  cases x.state <;> rfl

section Requests

variable {s : State} {d : Nat} {x : Destination} (found : s.totes.dests.lookup d = some x)

include found

theorem confirmSwap_released (range : d ≤ 15) {tote : Nat} (stalled : x.state = .stalled .flag tote) :
    confirmSwap d s = (s.advance d).destDone d := by
  unfold confirmSwap
  rw [if_neg (Nat.not_lt.2 range), dest_of_lookup s d x found, stalled]

theorem confirmSwap_notStalled (range : d ≤ 15) (other : ∀ tote, x.state ≠ .stalled .flag tote) :
    confirmSwap d s = s.refuse .notStalled := by
  unfold confirmSwap
  rw [if_neg (Nat.not_lt.2 range), dest_of_lookup s d x found]
  split
  · next tote stalled => exact absurd stalled (other tote)
  all_goals rfl

/-- A LIMIT stall stays while its tote is the limit, and any other state stays as it is (R163). -/
theorem releaseLimit_stays (kept : ∀ tote, x.state = .stalled .limit tote → x.limit = some tote) :
    s.releaseLimit d = s := by
  unfold State.releaseLimit
  rw [dest_of_lookup s d x found]
  split
  · next tote stalled => exact if_pos (kept tote stalled)
  all_goals rfl

theorem releaseLimit_advances {tote : Nat} (stalled : x.state = .stalled .limit tote) (differs : x.limit ≠ some tote) :
    s.releaseLimit d = s.advance d := by
  unfold State.releaseLimit
  rw [dest_of_lookup s d x found, stalled]
  exact if_neg differs

theorem closeTote_notFound (range : d ≤ 15) {tote : Nat} (named : tote ≠ 0)
    (other : ∀ t, x.state = .active t → t.id ≠ tote) : closeTote d tote s = s.refuse .notFound := by
  unfold closeTote
  rw [if_neg (not_or.2 ⟨Nat.not_lt.2 range, named⟩), dest_of_lookup s d x found]
  split
  · next t active => exact if_pos (other t active)
  all_goals rfl

theorem closeTote_current (range : d ≤ 15) {t : Tote} (active : x.state = .active t) (named : t.id ≠ 0) :
    closeTote d t.id s =
      if t.count = 0 ∧ t.lotEnd = false then s.refuse .empty else (s.complete d t .forced 0).destDone d := by
  unfold closeTote
  rw [if_neg (not_or.2 ⟨Nat.not_lt.2 range, named⟩), dest_of_lookup s d x found, active]
  exact if_neg fun h => h rfl

end Requests

theorem setLimit_taken {d : Nat} (range : d ≤ 15) {limit : Option Nat} (named : limit ≠ some 0) (s : State) :
    setLimit d limit s = ((s.modDest d fun x => { x with limit := limit }).releaseLimit d).destDone d :=
  if_neg (not_or.2 ⟨Nat.not_lt.2 range, named⟩)

theorem dropChain_taken {d : Nat} (range : d ≤ 15) {s : State} {x : Destination}
    (found : s.totes.dests.lookup d = some x) :
    dropChain d s = (s.modDest d fun v => { v with queued := [] }).done
      (.chainDropped (Destination.report { x with queued := [] }) x.queued.length) := by
  unfold dropChain
  rw [if_neg (Nat.not_lt.2 range), dest_of_lookup s d x found]
  dsimp only
  rw [destReport_of_lookup (lookup_modDest found _)]

/-! ### The next step of an advance (R159) -/

theorem advanced_of_cons {x : Destination} {q : Tote} {rest : List Tote} (h : x.queued = q :: rest) (y : Destination) :
    x.advanced y = { y with state := .active q, queued := rest } := by
  unfold Destination.advanced
  rw [h]

theorem advanced_of_nil {x : Destination} (h : x.queued = []) (y : Destination) :
    x.advanced y = { y with state := .starved } := by
  unfold Destination.advanced
  rw [h]

theorem nextEvents_starved {y : Destination} (h : y.state = .starved) (d clock : Nat) :
    y.nextEvents d clock = ⟨clock, 0, .destinationStarved d⟩ :: y.lotOpenEvents d clock := by
  unfold Destination.nextEvents
  rw [h]

theorem lotOpenEvents_eq {y : Destination} {o : Option Lot} (h : y.lot = o) (d clock : Nat) : y.lotOpenEvents d clock =
    o.toList.map fun lot => ⟨clock, 0, .lotOpenAtStop d lot.first lot.totes lot.items⟩ := by
  unfold Destination.lotOpenEvents
  rw [h]

/-! ### The requests that are taken (R160 to R163, R165) -/

section Taken

variable {s : State} {tag d : Nat} {x : Destination} (h : s.serving = false) (wf : s.totes.dests.wf = true)
  (range : d ≤ 15) (found : s.totes.dests.lookup d = some x)

include h wf range found

/-- R162: CONFIRM SWAP advances a destination with a FLAG stall. -/
theorem exec_confirmSwap {tote : Nat} (stalled : x.state = .stalled .flag tote) {y : Destination}
    (made : x.advanced x = y) : exec (.confirmSwap tag d) s =
      .next (((s.modDest d fun _ => y).offerEvents (y.nextEvents d s.line.clock)).answered tag 129
        (.destination y.report)) := by
  subst made
  have lookup : s.frameTaken.totes.dests.lookup d = some x := found
  exact exec_modDest_report (.confirmSwap tag d) rfl h wf found rfl
    ((confirmSwap_released lookup range stalled).trans (congrArg (fun u : State => u.destDone d) (advance_eq lookup)))

/-- R163: SET LIMIT writes the limit, and leaves a stall that the limit does not release. -/
theorem exec_setLimit_written {limit : Option Nat} (named : limit ≠ some 0) {y : Destination}
    (made : { x with limit := limit } = y)
    (kept : ∀ tote, x.state = .stalled .limit tote → limit = some tote) : exec (.setLimit tag d limit) s =
      .next ((s.modDest d fun _ => y).answered tag 130 (.destination y.report)) := by
  refine exec_modDest_report (f := fun v => { v with limit := limit }) (events := []) (.setLimit tag d limit) rfl h wf
    found made ?_
  rw [setLimit_taken range named, releaseLimit_stays (lookup_modDest (s := s.frameTaken) found _) kept]
  rfl

/-- R163: SET LIMIT with another limit advances a destination with a LIMIT stall. -/
theorem exec_setLimit_advanced {limit : Option Nat} (named : limit ≠ some 0) {tote : Nat}
    (stalled : x.state = .stalled .limit tote) (differs : limit ≠ some tote) {y : Destination}
    (made : Destination.advanced { x with limit := limit } { x with limit := limit } = y) :
    exec (.setLimit tag d limit) s =
      .next (((s.modDest d fun _ => y).offerEvents (y.nextEvents d s.line.clock)).answered tag 130
        (.destination y.report)) := by
  have limited : (s.frameTaken.modDest d fun v => { v with limit := limit }).totes.dests.lookup d =
      some { x with limit := limit } := lookup_modDest (s := s.frameTaken) found _
  refine exec_modDest_report (f := fun v => Destination.advanced { x with limit := limit } { v with limit := limit })
    (.setLimit tag d limit) rfl h wf found made ?_
  rw [setLimit_taken range named, releaseLimit_advances limited stalled differs, advance_eq limited, made]
  exact congrArg (fun u : State => (u.offerEvents _).destDone d) (modDest_modDest s.frameTaken d _ _)

omit range in
/-- R161: ADD TOTE adds its descriptor to the chain. -/
theorem exec_addTote {tote capacity weightLimit warnAt : Nat} {pause lotEnd : Coded Mark}
    (admitted : toteInRange d tote capacity weightLimit warnAt pause lotEnd = true)
    (new : ∀ t ∈ s.allTotes, t.id ≠ tote) (free : 1 ≤ s.freeTotes) {y : Destination}
    (made : x.addTote (newTote tote capacity weightLimit warnAt (markSet pause) (markSet lotEnd)) = y) :
    exec (.addTote tag d tote capacity weightLimit warnAt pause lotEnd) s =
      .next ((s.modDest d fun _ => y).answered tag 128 (.toteAdded y.report (s.modDest d fun _ => y).freeTotes)) := by
  have changed : (s.modDest d fun v => v.addTote (newTote tote capacity weightLimit warnAt (markSet pause)
      (markSet lotEnd))) = s.modDest d fun _ => y := modDest_congr s d x _ _ wf found made
  have taken := addTote_taken (s := s.frameTaken) admitted new free rfl
  refine exec_modDest (f := fun v => v.addTote _) (events := []) (.addTote tag d tote capacity weightLimit warnAt pause
    lotEnd) rfl h wf found made (taken.trans ?_)
  rw [destReport_of_lookup (lookup_modDest (s := s.frameTaken) found _), made, ← changed]
  rfl

end Taken

/-! ### CLOSE TOTE (R157, R164) -/

/-- A completion brings no TOTE NEAR FULL (R157). -/
theorem completionEvents_kind_ne (x y : Destination) (d : Nat) (t : Tote) (reason : CompletionReason)
    (item clock : Nat) : ∀ e ∈ x.completionEvents y d t reason item clock, e.body.kind ≠ .toteNearFull := by
  intro e he
  unfold Destination.completionEvents at he
  simp only [List.mem_append, List.mem_singleton] at he
  rcases he with ((rfl | lot) | stop) | lotOpen
  · nofun
  · split at lot
    · cases List.mem_singleton.1 lot; nofun
    · cases lot
  · split at stop
    · cases stop
    all_goals cases List.mem_singleton.1 stop; nofun
  · split at lotOpen
    · cases lotOpen
    · cases List.mem_singleton.1 lotOpen; nofun
    · cases lotOpen

/-- Settles O45: the act completes the tote, whose events are those of R157 in their order. -/
theorem closeToteCompletesIt : Obligations.CloseToteCompletesIt := by
  intro s tag d x t h range found active named ended
  have filled : ¬ (t.count = 0 ∧ t.lotEnd = false) := fun ⟨empty, notEnd⟩ =>
    ended.elim (fun count => count empty) fun lotEnd => by simp [notEnd] at lotEnd
  have taken : closeTote d t.id s.frameTaken = (s.complete d t .forced 0).frameTaken.done
      (.destination (x.completion t x).report) := by
    have found' : s.frameTaken.totes.dests.lookup d = some x := found
    have framed : s.frameTaken.complete d t .forced 0 = (s.complete d t .forced 0).frameTaken := by
      rw [complete_eq found, ← offerEvents_frameTaken, complete_eq found']
      rfl
    have reported := destReport_of_lookup (complete_dest found' t .forced 0)
    rw [closeTote_current found' range active named, if_neg filled]
    unfold State.destDone
    rw [reported, framed]
  refine ⟨_, x.completion t x,
    exec_done (.closeTote tag d t.id) rfl h (s.complete d t .forced 0) (complete_port s d t .forced 0) taken,
    complete_dest found t .forced 0, completion_completed x t, fun k other => complete_other_dest s other t .forced 0,
    complete_items s d t .forced 0, complete_returns s d t .forced 0, complete_lanes s d t .forced 0,
    complete_line s d t .forced 0, complete_bus s d t .forced 0, complete_plan s d t .forced 0,
    complete_sorter s d t .forced 0, congrArg (fun p : Port => p.answered _) (complete_port s d t .forced 0),
    fun complete lot stalled starved lotOpen room => ?_⟩
  show (s.complete d t .forced 0).queue.events = _
  have enabled : ∀ k ∈ toteKinds, k ≠ .toteNearFull → s.enabled k = true := by
    simp [toteKinds, complete, lot, stalled, starved, lotOpen]
  have ofTote := completionEvents_ofTote x (x.completion t x) d t .forced 0 s.line.clock
  rw [complete_eq found]
  exact offerEvents_all (s.modDest d (x.completion t)) _ (fun e he => (ofTote e he).1)
    (fun e he => enabled _ (ofTote e he).2 (completionEvents_kind_ne _ _ _ _ _ _ _ e he))
    (Nat.add_le_add room (completionEvents_length _ _ _ _ _ _ _))

/-! ### The statement's clauses (R160 to R165) -/

/-- R159: a request that leaves a destination STARVED offers DESTINATION STARVED, and LOT OPEN AT STOP if a lot has
begun there. -/
theorem exec_starved {c : Instr} {s u : State} {y : Destination} {d clock tag kind : Nat} {data : ReplyData}
    (h : exec c s = .next ((u.offerEvents (y.nextEvents d clock)).answered tag kind data))
    (state : y.state = .starved) :
    (y.lot = none → exec c s = .next ((u.offer 0 (.destinationStarved d)).answered tag kind data)) ∧
      ∀ lot, y.lot = some lot → exec c s = .next (((u.offer 0 (.destinationStarved d)).offer 0
        (.lotOpenAtStop d lot.first lot.totes lot.items)).answered tag kind data) := by
  rw [nextEvents_starved state] at h
  refine ⟨fun closed => ?_, fun lot held => ?_⟩
  · rw [lotOpenEvents_eq closed] at h
    exact h
  · rw [lotOpenEvents_eq held] at h
    exact h

/-- R161: fields within their ranges, and flags of the list, pass ADD TOTE's first test. -/
theorem toteInRange_known {d tote capacity weightLimit warnAt : Nat} (pause lotEnd : Mark) (range : d ≤ 15)
    (named : tote ≠ 0) (one : 1 ≤ capacity) (most : capacity ≤ 60) (light : 500 ≤ weightLimit)
    (heavy : weightLimit ≤ 25000) (warned : warnAt < capacity) :
    toteInRange d tote capacity weightLimit warnAt (.known pause) (.known lotEnd) = true :=
  (toteInRange_iff ..).2 ⟨range, named, one, most, light, heavy, warned, rfl, rfl⟩

/-- R161: ADD TOTE makes the descriptor that its fields describe. -/
theorem newTote_known (tote capacity weightLimit warnAt : Nat) (pause lotEnd : Mark) :
    newTote tote capacity weightLimit warnAt (markSet (.known pause)) (markSet (.known lotEnd)) =
      { id := tote, capacity := capacity, weightLimit := weightLimit, warnAt := warnAt,
        pause := decide (pause = .set), lotEnd := decide (lotEnd = .set), count := 0, weight := 0,
        firstDrop := none } := by
  rw [markSet_known, markSet_known]
  rfl

/-- Settles O44: each request's tests, in their order, and its change of one destination with the events that an advance
offers. -/
theorem toteRequestsTakenOrRefused : Obligations.ToteRequestsTakenOrRefused := by
  refine ⟨fun s tag d x h canonical range found => ?_, fun s tag d h => ⟨fun beyond => ?_, ?_, fun range x found => ?_⟩⟩
  · have wf := canonical_dests s canonical
    refine ⟨?_, ?_, ?_, ?_, ?_, ?_, ?_⟩
    · intro tote capacity weightLimit warnAt pause lotEnd named one most light heavy warned unlisted free new y u hnew
        hy hu
      have admitted := toteInRange_known pause lotEnd range named one most light heavy warned
      have made : x.addTote new = y := (addTote_eq x new).trans hy.symm
      rw [hnew, ← newTote_known] at made
      rw [hu]
      exact exec_addTote h wf found admitted unlisted free made
    · intro tote q rest y stalled queued hy
      subst hy
      exact exec_confirmSwap h wf range found stalled (advanced_of_cons queued x)
    · intro tote y stalled queued hy
      subst hy
      exact (exec_starved (exec_confirmSwap h wf range found stalled (advanced_of_nil queued x)) rfl :)
    · intro limit y named hy kept
      exact exec_setLimit_written h wf range found named hy.symm kept
    · intro limit tote q rest y named stalled differs queued hy
      subst hy
      exact exec_setLimit_advanced h wf range found named stalled differs (advanced_of_cons queued _)
    · intro limit tote y named stalled differs queued hy
      subst hy
      exact (exec_starved
        (exec_setLimit_advanced h wf range found named stalled differs (advanced_of_nil queued _)) rfl :)
    · intro y hy
      rw [hy]
      exact exec_modDest (f := fun v => { v with queued := [] }) (events := []) (.dropChain tag d) rfl h wf found rfl
        (dropChain_taken range (s := s.frameTaken) found)
  · intro tote capacity weightLimit warnAt pause lotEnd limit
    exact ⟨exec_addTote_outOfRange h tag (by rw [toteInRange_iff]; omega),
      exec_refused (.confirmSwap tag d) rfl h (if_pos beyond),
      exec_refused (.setLimit tag d limit) rfl h (if_pos (.inl beyond)),
      exec_refused (.closeTote tag d tote) rfl h (if_pos (.inl beyond)),
      exec_refused (.dropChain tag d) rfl h (if_pos beyond)⟩
  · intro tote capacity weightLimit warnAt pause lotEnd code
    exact ⟨exec_addTote_outOfRange h tag (by simp [toteInRange, coded]),
      exec_addTote_outOfRange h tag (by simp [toteInRange, coded])⟩
  · have lookup : s.frameTaken.totes.dests.lookup d = some x := found
    refine ⟨?_, ?_, ?_, ?_, ?_, ?_, ?_⟩
    · intro tote capacity weightLimit warnAt pause lotEnd out
      exact exec_addTote_outOfRange h tag (by rw [toteInRange_iff]; omega)
    · intro tote capacity weightLimit warnAt pause lotEnd named one most light heavy warned
      have admitted := toteInRange_known pause lotEnd range named one most light heavy warned
      exact ⟨fun carried => exec_refused (.addTote ..) rfl h (addTote_duplicate (s := s.frameTaken) admitted carried),
        fun new full => exec_refused (.addTote ..) rfl h (addTote_full (s := s.frameTaken) admitted new full)⟩
    · intro other
      exact exec_refused (.confirmSwap tag d) rfl h (confirmSwap_notStalled lookup range other)
    · exact exec_refused (.setLimit tag d (some 0)) rfl h (if_pos (.inr rfl))
    · exact exec_refused (.closeTote tag d 0) rfl h (if_pos (.inr rfl))
    · intro tote named other
      exact exec_refused (.closeTote tag d tote) rfl h (closeTote_notFound lookup range named other)
    · intro t active named empty notEnd
      exact exec_refused (.closeTote tag d t.id) rfl h
        ((closeTote_current lookup range active named).trans (if_pos ⟨empty, notEnd⟩))

end Sys2Proof.Machine
end

section
/-! READ DESTINATION, READ SETTING and READ STATUS (R166, R179, R180): each answers from what the blocks hold. -/

namespace Sys2Proof.Machine

/-- A request that only answers changes the port alone. -/
theorem exec_answered (c : Instr) {tag kind : Nat} {act : State → Answer} (hc : requestAct c = some (tag, kind, act))
    {s : State} (h : s.serving = false) {data : ReplyData} (acts : act s.frameTaken = s.frameTaken.done data) :
    exec c s = .next (s.answered tag kind data) :=
  exec_done c hc h s rfl acts

/-- What a list over the sixteen destinations holds of one of them. -/
theorem getElem?_dests {α : Type} (s : State) (f : Destination → α) {d : Nat} {x : Destination} (range : d < 16)
    (found : s.totes.dests.lookup d = some x) : ((List.range 16).map fun d => f (s.dest d))[d]? = some (f x) := by
  rw [List.getElem?_map, List.getElem?_range range, ← dest_of_lookup s d x found]
  rfl

/-- A setting that exists is answered with the value it holds (R179). -/
theorem exec_readSetting {s : State} (h : s.serving = false) (tag : Nat) {name : SettingName}
    (exist : settingExists name = true) {value : SettingValue} (holds : s.setting name = value) :
    exec (.readSetting tag name) s = .next (s.answered tag 149 (.setting name value)) := by
  have framed : s.frameTaken.setting name = s.setting name := by cases name <;> rfl
  refine exec_answered (.readSetting tag name) rfl h ?_
  simp only [readSetting, exist, framed, holds]
  rfl

theorem setting_gatePosition (s : State) (g : Nat) :
    s.setting (.gatePosition g) = (s.line.gatePositions.lookup g).elim .unset .num := by
  cases position : s.line.gatePositions.lookup g <;> simp [State.setting, position]

theorem setting_chainMode {s : State} {d : Nat} {x : Destination} (found : s.totes.dests.lookup d = some x) :
    s.setting (.chainMode d) = .mode (.known x.mode) := by
  simp [State.setting, dest_of_lookup s d x found]

theorem setting_eventEnable {s : State} {k : Nat} {b : Bool} (held : s.line.enables.lookup k = some b) :
    s.setting (.eventEnable k) = .enable (.known (onOff b)) := by
  simp [State.setting, held]

theorem statusReport_lane (s : State) (l : LaneId) : s.statusReport.lanes.at l = s.laneReport l := by cases l <;> rfl

theorem statusReport_slot (s : State) (x : SlotId) :
    (s.statusReport.slots.at x.lane).at x.role = ((s.slot x).state, (s.slot x).score) := by
  simp [State.statusReport, State.slot]

theorem statusReport_plan (s : State) (b : BankId) : s.statusReport.plan.states.at b = (s.plan.banks.at b).state ∧
    s.statusReport.plan.valid.at b = (s.plan.banks.at b).valid ∧
      s.statusReport.plan.bound.at b = (s.plan.banks.at b).bound :=
  ⟨pair_at_map _ _ b, pair_at_map _ _ b, pair_at_map _ _ b⟩

/-- Settles O9, request by request: each act answers from the blocks and leaves the state it reads. -/
theorem readDestinationSettingStatusReport : Obligations.ReadDestinationSettingStatusReport := by
  intro s tag h
  have settings : ∀ name, settingExists name = true → ∀ value, s.setting name = value →
      exec (.readSetting tag name) s = .next (s.answered tag 149 (.setting name value)) :=
    fun _ exist _ holds => exec_readSetting h tag exist holds
  refine ⟨?_, ?_, ?_, settings _ rfl _ rfl, settings _ rfl _ rfl, settings _ rfl _ rfl, settings _ rfl _ rfl,
    settings _ rfl _ rfl, ?_, ?_, ?_, ?_⟩
  · intro d x range found
    have one : d ≠ 255 := by omega
    refine exec_answered (.readDestination tag d) rfl h ?_
    unfold readDestination
    rw [if_neg one, if_neg (Nat.not_lt.2 range), dest_of_lookup s.frameTaken d x found]
  · exact ⟨_, exec_answered (.readDestination tag 255) rfl h (if_pos rfl), by simp, fun d x range found =>
      getElem?_dests s (fun x => (x.state.name, x.state.currentId, x.queued.length)) range found⟩
  · intro d beyond one
    exact exec_refused (.readDestination tag d) rfl h ((if_neg one).trans (if_pos beyond))
  · intro g range
    refine settings (.gatePosition g) (decide_eq_true range) _ ?_
    rw [setting_gatePosition]
    cases s.line.gatePositions.lookup g <;> rfl
  · intro d x range found
    exact settings (.chainMode d) (decide_eq_true range) _ (setting_chainMode found)
  · intro k b low high held
    exact settings (.eventEnable k) (by simp [settingExists, low, high]) _ (setting_eventEnable held)
  · refine ⟨s.statusReport, exec_answered (.readStatus tag) rfl h rfl, rfl, rfl, rfl, rfl, rfl, fun l => ?_,
      statusReport_slot s, rfl, rfl, rfl, rfl, statusReport_plan s, rfl, rfl, rfl, rfl, rfl, rfl,
      by simp [State.statusReport], fun d x range found => getElem?_dests s (fun x => x.state.name) range found, rfl⟩
    rw [statusReport_lane]
    exact ⟨rfl, rfl, rfl, rfl, rfl, rfl, rfl, rfl⟩

end Sys2Proof.Machine
end

section
/-! The Line Controller's requests and HOLD (R172 to R179): the tests of each in their order, and what it changes. -/

namespace Sys2Proof.Machine

/-- An offer does not look at what the receiver holds. -/
theorem offer_frameTaken (s : State) (item : Nat) (body : EventBody) :
    s.frameTaken.offer item body = (s.offer item body).frameTaken := by
  unfold State.frameTaken
  rw [offer_with_port, offer_port]

/-- A request whose act offers one event in state `u` ends there, with the port's DONE. -/
theorem exec_offered (c : Instr) {tag kind : Nat} {act : State → Answer} (hc : requestAct c = some (tag, kind, act))
    {s : State} (h : s.serving = false) (u : State) {item : Nat} {body : EventBody} {data : ReplyData}
    (port : u.port = s.port) (acts : act s.frameTaken = (u.frameTaken.offer item body).done data) :
    exec c s = .next ((u.offer item body).answered tag kind data) := by
  rw [offer_frameTaken] at acts
  exact exec_done c hc h _ ((offer_port u item body).trans port) acts

/-! ### START LINE (R175) -/

/-- The first place of a range at which a search finds something. -/
theorem findSome?_range {α : Type} {f : Nat → Option α} {n g : Nat} {a : α} (range : g < n) (found : f g = some a)
    (before : ∀ k, k < g → f k = none) : (List.range n).findSome? f = some a := by
  induction n with
  | zero => exact absurd range (Nat.not_lt_zero g)
  | succ n ih =>
    rw [List.range_succ, List.findSome?_append]
    rcases Nat.lt_succ_iff_lt_or_eq.1 range with lt | rfl
    · rw [ih lt, Option.some_or]
    · rw [List.findSome?_eq_none_iff.2 fun k hk => before k (List.mem_range.1 hk), Option.none_or]
      simp [found]

section Gates

variable {l : LineControl} {g h : Nat}

theorem firstUnset_eq_none (set : ∀ g, g ≤ 16 → (l.gatePositions.lookup g).isSome = true) : l.firstUnset = none := by
  refine List.find?_eq_none.2 fun g hg => ?_
  have range := List.mem_range.1 hg
  simp [Table.has, set g (by omega)]

theorem firstUnset_eq_some (range : g ≤ 16) (before : ∀ k, k < g → (l.gatePositions.lookup k).isSome = true)
    (unset : l.gatePositions.lookup g = none) : l.firstUnset = some g := by
  refine List.find?_range_eq_some.2 ⟨by simp [Table.has, unset], List.mem_range.2 (by omega), fun k hk => ?_⟩
  simp [Table.has, before k hk]

/-- The next gate that shares the position of gate `g`. -/
def LineControl.sharer (l : LineControl) (g : Nat) : Option Nat :=
  (List.range 17).find? fun h => decide (g < h) && decide (l.gatePositions.lookup g = l.gatePositions.lookup h)

theorem sharedGates_eq (l : LineControl) :
    l.sharedGates = (List.range 17).findSome? fun g => (l.sharer g).map fun h => (g, h) := rfl

theorem sharer_eq_none (alone : ∀ h, g < h → h ≤ 16 → l.gatePositions.lookup g ≠ l.gatePositions.lookup h) :
    l.sharer g = none := by
  refine List.find?_eq_none.2 fun h hh => ?_
  have range := List.mem_range.1 hh
  simpa using fun lt => alone h lt (by omega)

theorem sharer_eq_some (lt : g < h) (range : h ≤ 16) (shared : l.gatePositions.lookup g = l.gatePositions.lookup h)
    (next : ∀ k, g < k → k < h → l.gatePositions.lookup g ≠ l.gatePositions.lookup k) : l.sharer g = some h := by
  refine List.find?_range_eq_some.2 ⟨by simp [lt, shared], List.mem_range.2 (by omega), fun k hk => ?_⟩
  simpa using or_iff_not_imp_left.2 fun below => next k (Nat.not_le.1 below) hk

theorem sharedGates_eq_none
    (apart : ∀ g h, g < h → h ≤ 16 → l.gatePositions.lookup g ≠ l.gatePositions.lookup h) : l.sharedGates = none := by
  rw [sharedGates_eq]
  refine List.findSome?_eq_none_iff.2 fun g _ => ?_
  rw [sharer_eq_none (apart g), Option.map_none]

theorem sharedGates_eq_some (lt : g < h) (range : h ≤ 16)
    (shared : l.gatePositions.lookup g = l.gatePositions.lookup h)
    (lowest : ∀ a b, a < g → a < b → b ≤ 16 → l.gatePositions.lookup a ≠ l.gatePositions.lookup b)
    (next : ∀ k, g < k → k < h → l.gatePositions.lookup g ≠ l.gatePositions.lookup k) :
    l.sharedGates = some (g, h) := by
  rw [sharedGates_eq]
  refine findSome?_range (g := g) (by omega) ?_ fun a ha => ?_
  · rw [sharer_eq_some lt range shared next, Option.map_some]
  · rw [sharer_eq_none fun b => lowest a b ha, Option.map_none]

end Gates

theorem usableLanes_eq_nil {s : State} (h : ∀ l, s.usable l = false) : s.usableLanes = [] := by
  simp [State.usableLanes, h]

theorem usableLanes_ne_nil {s : State} {l : LaneId} (h : s.usable l = true) : s.usableLanes ≠ [] :=
  List.ne_nil_of_mem (List.mem_filter.2 ⟨mem_allLanes l, h⟩)

theorem startLine_of_placed {s : State} (mode : s.line.mode = .setup) (set : s.line.firstUnset = none)
    (apart : s.line.sharedGates = none) : startLine s =
      if s.activeBank = none then s.refuseWith .notValid .faultPlan
      else if s.usableLanes.isEmpty then s.refuse .laneIncomplete else s.start.done (.started s.usableLanes) := by
  simp only [startLine, mode, set, apart]
  rfl

/-- Settles O46: the tests of `startLine` in their order, and the start. -/
theorem startLineTakenOrRefused : Obligations.StartLineTakenOrRefused := by
  refine ⟨fun s tag h mode set apart active usable u hu => ?_, fun s tag h => ⟨fun mode => ?_, fun mode =>
    ⟨fun g range before unset => ?_, fun set => ⟨fun g k lt range shared lowest next => ?_, fun apart =>
      ⟨fun none => ?_, fun active none => ?_⟩⟩⟩⟩⟩
  · obtain ⟨l, usable⟩ := usable
    have active' : s.frameTaken.activeBank ≠ none := Option.isSome_iff_ne_none.1 active
    have usable' : ¬ s.frameTaken.usableLanes.isEmpty = true := fun e =>
      usableLanes_ne_nil (s := s.frameTaken) usable (List.isEmpty_iff.1 e)
    have taken := startLine_of_placed (s := s.frameTaken) mode (firstUnset_eq_none set) (sharedGates_eq_none apart)
    rw [if_neg active', if_neg usable'] at taken
    rw [hu]
    exact exec_offered (.startLine tag) rfl h { s with line := { s.line with mode := .running } } rfl taken
  · refine exec_refused (.startLine tag) rfl h (if_pos ?_)
    cases held : s.frameTaken.line.mode with
    | setup => exact absurd held mode
    | running => rfl
    | draining _ => rfl
  · refine exec_refused (.startLine tag) rfl h ?_
    simp only [startLine, frameTaken_line, mode, firstUnset_eq_some range before unset]
    rfl
  · refine exec_refused (.startLine tag) rfl h ?_
    simp only [startLine, frameTaken_line, mode, firstUnset_eq_none set, sharedGates_eq_some lt range shared lowest next]
    rfl
  · have taken := startLine_of_placed (s := s.frameTaken) mode (firstUnset_eq_none set) (sharedGates_eq_none apart)
    exact exec_refused (.startLine tag) rfl h (taken.trans (if_pos none))
  · have taken := startLine_of_placed (s := s.frameTaken) mode (firstUnset_eq_none set) (sharedGates_eq_none apart)
    have active' : s.frameTaken.activeBank ≠ Option.none := Option.isSome_iff_ne_none.1 active
    rw [if_neg active', usableLanes_eq_nil (s := s.frameTaken) none] at taken
    exact exec_refused (.startLine tag) rfl h taken

/-! ### PAUSE LINE, RESUME LINE and HOLD (R172 to R174) -/

theorem setPause_of_clear {s : State} (clear : s.line.pause = none) (why : PauseCause) (cause : LineCause) :
    s.setPause why cause = State.offer { s with line := { s.line with pause := some why } } 0
      (.lineState s.line.mode (some why) s.line.hold cause) := if_neg (by simp [clear])

theorem setPause_of_set {s : State} {held : PauseCause} (set : s.line.pause = some held) (why : PauseCause)
    (cause : LineCause) : s.setPause why cause = s := if_pos (by simp [set])

theorem clearPause_of_set {s : State} {held : PauseCause} (set : s.line.pause = some held) :
    s.clearPause = State.offer { s with line := { s.line with pause := none } } 0
      (.lineState s.line.mode none s.line.hold .resume) := if_pos (by simp [set])

theorem clearPause_of_clear {s : State} (clear : s.line.pause = none) : s.clearPause = s := if_neg (by simp [clear])

/-- With no pause mark the hold mark alone suspends the line (R172). -/
theorem suspended_of_clear {s : State} (clear : s.line.pause = none) : s.suspended = s.line.hold := by
  simp [State.suspended, LineControl.suspended, clear]

theorem suspended_offer (s : State) (item : Nat) (body : EventBody) : (s.offer item body).suspended = s.suspended := by
  unfold State.suspended
  rw [offer_line]

/-- Settles O47: each mark is changed with its LINE STATE, or is as it was asked for already. -/
theorem pauseResumeAndHold : Obligations.PauseResumeAndHold := by
  refine fun s tag => ⟨fun h => ⟨fun clear u hu => ?_, fun cause set => ⟨?_, fun u hu => ?_⟩, fun clear => ?_⟩,
    fun high => ⟨fun change => congrArg _ (if_neg (Ne.symm change)), fun same => congrArg _ (if_pos same.symm)⟩⟩
  · rw [hu]
    refine exec_offered (.pauseLine tag) rfl h { s with line := { s.line with pause := some .host } } rfl ?_
    simp only [pauseLine, setPause_of_clear (s := s.frameTaken) clear, offer_line]
    rfl
  · refine exec_answered (.pauseLine tag) rfl h ?_
    simp only [pauseLine, setPause_of_set (s := s.frameTaken) set, frameTaken_line, set]
  · rw [hu]
    refine exec_offered (.resumeLine tag) rfl h { s with line := { s.line with pause := none } } rfl ?_
    simp only [resumeLine, clearPause_of_set (s := s.frameTaken) set, offer_line, suspended_offer]
    rw [suspended_of_clear rfl]
    rfl
  · refine exec_answered (.resumeLine tag) rfl h ?_
    simp only [resumeLine, clearPause_of_clear (s := s.frameTaken) clear, frameTaken_line, clear,
      suspended_of_clear (s := s.frameTaken) clear]

/-! ### STOP LINE with DRAIN, and the requests that change nothing (R176, R177) -/

theorem lanesNotIdle_eq_zero {s : State} (idle : ∀ l, (s.lanes.at l).state = .idle) : s.lanesNotIdle = 0 := by
  simp only [State.lanesNotIdle, List.length_eq_zero_iff, List.filter_eq_nil_iff, Quad.toList]
  have : (s.lanes.l1.state = .idle) ∧ (s.lanes.l2.state = .idle) ∧ (s.lanes.l3.state = .idle) ∧
      (s.lanes.l4.state = .idle) := ⟨idle .l1, idle .l2, idle .l3, idle .l4⟩
  simp [this]

theorem lanesNotIdle_of_lanes_eq {s t : State} (h : t.lanes = s.lanes) : t.lanesNotIdle = s.lanesNotIdle := by
  unfold State.lanesNotIdle
  rw [h]

/-- A stop of a kind of R176 on a line that has left SETUP is answered from the state it leaves. -/
theorem stopLine_of_started {s : State} (kind : StopKind) (mode : s.line.mode ≠ .setup) :
    stopLine (.known kind) s =
      (s.stop kind).done (.stopped (s.stop kind).line.mode (s.stop kind).live (s.stop kind).lanesNotIdle) := by
  refine (if_neg ?_ :)
  cases held : s.line.mode with
  | setup => exact absurd held mode
  | running => nofun
  | draining _ => nofun

/-- The state of a stop as LINE STATE is offered, before its end test (R176). -/
def State.stopBegun (s : State) (kind : StopKind) : State :=
  State.offerLineState { s with line := { s.line with mode := .draining kind } } .stop

theorem stopBegun_line (s : State) (kind : StopKind) :
    (s.stopBegun kind).line = { s.line with mode := .draining kind } := offer_line _ _ _

theorem stop_drain_of_running {s : State} (mode : s.line.mode = .running) : s.stop .drain = (s.stopBegun .drain).endTest := by
  unfold State.stop
  rw [mode]
  rfl

/-- A request for the kind that the stop already has, or for a DRAIN of a CUT, changes nothing (R176). -/
theorem stop_of_draining {s : State} {held asked : StopKind} (mode : s.line.mode = .draining held)
    (same : held = .cut ∨ asked = .drain) : s.stop asked = s := by
  unfold State.stop
  rw [mode]
  cases held <;> cases asked <;> simp at same ⊢

/-- The end test of a stop that ends (R177). -/
theorem endTest_of_due {s : State} (h : s.stopDue) : s.endTest =
    State.offer { s with line := { s.line with mode := .setup } } 0
      (.lineState .setup s.line.pause s.line.hold .stopEnd) := by
  obtain ⟨mode, live, idle⟩ := h
  exact if_pos (by simp [mode, live, (allLanesIdle_iff s).2 idle])

/-- Settles O48: the tests of `stopLine`, and the end test that follows LINE STATE. -/
theorem stopLineDrain : Obligations.StopLineDrain := by
  refine fun s tag h => ⟨fun code => exec_refused (.stopLine tag (.beyond code)) rfl h rfl, fun mode kind => ?_,
    fun held asked mode same => ?_, fun mode u hu => ⟨fun work => ?_, fun idle live v hv => ?_⟩⟩
  · exact exec_refused (.stopLine tag (.known kind)) rfl h (if_pos (by rw [frameTaken_line, mode]; rfl))
  · refine exec_answered (.stopLine tag (.known asked)) rfl h ?_
    have started : s.frameTaken.line.mode ≠ .setup := by rw [frameTaken_line, mode]; nofun
    rw [stopLine_of_started asked started, stop_of_draining (s := s.frameTaken) mode same, frameTaken_line, mode]
    rfl
  all_goals
    have started : s.frameTaken.line.mode ≠ .setup := by rw [frameTaken_line, mode]; nofun
    have stopped := stopLine_of_started .drain started
    rw [stop_drain_of_running (s := s.frameTaken) mode] at stopped
    have line := stopBegun_line s.frameTaken .drain
    have lanes : (s.frameTaken.stopBegun .drain).lanes = s.lanes := offer_lanes _ _ _
    have items : (s.frameTaken.stopBegun .drain).items = s.items := offer_items _ _ _
  · have busy : ¬ (s.frameTaken.stopBegun .drain).stopDue := fun ⟨_, empty, idle⟩ => by
      rw [lanes] at idle
      exact work.elim (fun ⟨l, hl⟩ => hl (idle l)) fun live => live ((live_of_items_eq items).symm.trans empty)
    rw [endTest_of_not_due busy, line, live_of_items_eq items, lanesNotIdle_of_lanes_eq lanes] at stopped
    rw [hu]
    exact exec_offered (.stopLine tag (.known .drain)) rfl h
      { s with line := { s.line with mode := .draining .drain } } rfl stopped
  · have due : (s.frameTaken.stopBegun .drain).stopDue :=
      ⟨by rw [line]; rfl, (live_of_items_eq items).trans live, fun l => by rw [lanes]; exact idle l⟩
    have live' : (s.frameTaken.stopBegun .drain).endTest.live = 0 := (live_of_items_eq (endTest_items _)).trans due.2.1
    have idle' : (s.frameTaken.stopBegun .drain).endTest.lanesNotIdle = 0 :=
      lanesNotIdle_eq_zero fun l => by rw [endTest_lanes]; exact due.2.2 l
    rw [live', idle', endTest_line_of_due due, endTest_of_due due] at stopped
    have begun : s.frameTaken.stopBegun .drain = u.frameTaken := by
      rw [hu]
      exact offer_frameTaken { s with line := { s.line with mode := .draining .drain } } 0 _
    have pause : u.line.pause = s.line.pause := by
      rw [hu, offer_line]
    have hold : u.line.hold = s.line.hold := by
      rw [hu, offer_line]
    rw [begun] at stopped
    rw [hv, ← pause, ← hold]
    exact exec_offered (.stopLine tag (.known .drain)) rfl h { u with line := { u.line with mode := .setup } }
      (by rw [hu]; exact offer_port _ _ _) stopped

end Sys2Proof.Machine
end

section
/-! CONFIGURE and the refusals of READ SETTING (R178, R179): the tests in their order, and what is written. -/

namespace Sys2Proof.Machine

theorem writeSetting_frameTaken (s : State) (name : SettingName) (value : SettingValue) :
    s.frameTaken.writeSetting name value = (s.writeSetting name value).frameTaken := by
  unfold State.writeSetting
  split <;> rfl

theorem setting_frameTaken (s : State) (name : SettingName) : s.frameTaken.setting name = s.setting name := by
  cases name <;> rfl

theorem writeSetting_port (s : State) (name : SettingName) (value : SettingValue) :
    (s.writeSetting name value).port = s.port := by
  unfold State.writeSetting
  split <;> rfl

/-- R179, test 2: a setting written in SETUP only, in SETUP, and any other setting pass. -/
theorem setupOnly_passed {s : State} {name : SettingName} (phase : setupOnly name = true → s.line.mode = .setup) :
    (setupOnly name && !s.line.mode.isSetup) = false := by
  cases only : setupOnly name with
  | false => rfl
  | true => rw [phase only]; rfl

section Configure

variable {s : State} (h : s.serving = false) (tag : Nat) (name : SettingName) (value : SettingValue)
include h

/-- A value that passes the three tests is written, and answered as the setting then holds it. -/
theorem exec_configure (exist : settingExists name = true) (phase : setupOnly name = true → s.line.mode = .setup)
    (admits : settingAdmits name value = true) {held : SettingValue}
    (holds : (s.writeSetting name value).setting name = held) :
    exec (.configure tag name value) s = .next ((s.writeSetting name value).answered tag 148 (.setting name held)) := by
  have timely := setupOnly_passed (s := s.frameTaken) phase
  refine exec_done (.configure tag name value) rfl h _ (writeSetting_port s name value) ?_
  simp only [configure, exist, timely, admits, writeSetting_frameTaken, setting_frameTaken, holds]
  rfl

theorem exec_configure_unknown (beyond : settingExists name = false) :
    exec (.configure tag name value) s = .next (s.answeredRefused tag 148 .outOfRange .headOnly) :=
  exec_refused (.configure tag name value) rfl h (if_pos (by rw [beyond]; rfl))

theorem exec_configure_untimely (exist : settingExists name = true) (only : setupOnly name = true)
    (mode : s.line.mode ≠ .setup) :
    exec (.configure tag name value) s = .next (s.answeredRefused tag 148 .lineState .headOnly) := by
  have untimely : s.frameTaken.line.mode.isSetup = false := by
    rw [frameTaken_line]
    cases held : s.line.mode with
    | setup => exact absurd held mode
    | running => rfl
    | draining _ => rfl
  refine exec_refused (.configure tag name value) rfl h ?_
  simp only [configure, exist, only, untimely]
  rfl

theorem exec_configure_beyond (exist : settingExists name = true) (phase : setupOnly name = true → s.line.mode = .setup)
    (beyond : settingAdmits name value = false) :
    exec (.configure tag name value) s = .next (s.answeredRefused tag 148 .outOfRange .headOnly) := by
  have timely := setupOnly_passed (s := s.frameTaken) phase
  refine exec_refused (.configure tag name value) rfl h ?_
  simp only [configure, exist, timely, beyond]
  rfl

end Configure

/-- Settles O50: each setting's write and ranges, and the tests of `configure` in their order. -/
theorem configureWritesOrIsRefused : Obligations.ConfigureWritesOrIsRefused := by
  refine ⟨fun s tag h => ⟨?_, ?_, ?_, ?_, ?_, fun setup => ⟨?_, ?_, ?_, ?_⟩⟩, fun s tag h => ⟨?_, ?_, ?_⟩⟩
  · intro n low high u hu
    rw [hu]
    exact exec_configure h tag .manifestWait (.num n) rfl nofun (by simp [settingAdmits, low, high]) rfl
  · intro n low high u hu
    rw [hu]
    exact exec_configure h tag .decisionWait (.num n) rfl nofun (by simp [settingAdmits, low, high]) rfl
  · intro n low high u hu
    rw [hu]
    exact exec_configure h tag .downThreshold (.num n) rfl nofun (by simp [settingAdmits, low, high]) rfl
  · intro n low high u hu
    rw [hu]
    exact exec_configure h tag .lapLimit (.num n) rfl nofun (by simp [settingAdmits, low, high]) rfl
  · intro k low high v u final hu
    have exist : settingExists (.eventEnable k) = true := by simp [settingExists, low, high]
    rw [hu]
    cases v with
    | on =>
      exact exec_configure h tag (.eventEnable k) (.enable (.known .on)) exist nofun rfl
        (setting_eventEnable (b := true) (lookup_put_self _ k true))
    | off =>
      exact exec_configure h tag (.eventEnable k) (.enable (.known .off)) exist nofun (decide_eq_true (final rfl))
        (setting_eventEnable (b := false) (lookup_put_self _ k false))
  · intro n low high u hu
    rw [hu]
    exact exec_configure h tag .sweepPeriod (.num n) rfl (fun _ => setup) (by simp [settingAdmits, low, high]) rfl
  · intro g n range low high u hu
    rw [hu]
    refine exec_configure h tag (.gatePosition g) (.num n) (decide_eq_true range) (fun _ => setup)
      (by simp [settingAdmits, low, high]) ?_
    rw [setting_gatePosition]
    exact congrArg (Option.elim · _ _) (lookup_put_self _ g n)
  · intro g range u hu
    rw [hu]
    refine exec_configure h tag (.gatePosition g) .unset (decide_eq_true range) (fun _ => setup) rfl ?_
    rw [setting_gatePosition]
    exact congrArg (Option.elim · _ _) (lookup_remove_self _ g)
  · intro d x m range found
    exact exec_configure h tag (.chainMode d) (.mode (.known m)) (decide_eq_true range) (fun _ => setup) rfl
      (setting_chainMode (x := { x with mode := m }) (lookup_modDest found _))
  · intro name beyond
    have unknown : settingExists name = false := by
      rcases beyond with ⟨g, rfl, hg⟩ | ⟨d, rfl, hd⟩ | ⟨k, rfl, hk⟩ | ⟨code, rfl⟩
      · simp [settingExists, hg]
      · simp [settingExists, hd]
      · rcases hk with rfl | hk
        · rfl
        · simp [settingExists, hk]
      · rfl
    exact ⟨exec_refused (.readSetting tag name) rfl h (if_pos (by rw [unknown]; rfl)),
      fun value => exec_configure_unknown h tag name value unknown⟩
  · intro name only mode value
    rcases only with rfl | ⟨g, rfl, hg⟩ | ⟨d, rfl, hd⟩
    · exact exec_configure_untimely h tag _ value rfl rfl mode
    · exact exec_configure_untimely h tag _ value (decide_eq_true hg) rfl mode
    · exact exec_configure_untimely h tag _ value (decide_eq_true hd) rfl mode
  · intro name value beyond
    rcases beyond with ⟨n, rfl, rfl, hn⟩ | ⟨n, rfl, rfl, hn⟩ | ⟨n, rfl, rfl, hn⟩ | ⟨n, rfl, rfl, hn⟩ |
      ⟨k, code, rfl, low, high, rfl⟩ | ⟨k, rfl, low, high, rfl⟩ | ⟨setup, ⟨n, rfl, rfl, hn⟩ | ⟨g, n, rfl, hg, rfl, hn⟩ |
        ⟨d, code, rfl, hd, rfl⟩⟩
    · exact exec_configure_beyond h tag _ _ rfl nofun (by simp [settingAdmits]; omega)
    · exact exec_configure_beyond h tag _ _ rfl nofun (by simp [settingAdmits]; omega)
    · exact exec_configure_beyond h tag _ _ rfl nofun (by simp [settingAdmits]; omega)
    · exact exec_configure_beyond h tag _ _ rfl nofun (by simp [settingAdmits]; omega)
    · exact exec_configure_beyond h tag _ _ (by simp [settingExists, low, high]) nofun rfl
    · exact exec_configure_beyond h tag _ _ (by simp [settingExists]; omega) nofun (decide_eq_false (by omega))
    · exact exec_configure_beyond h tag _ _ rfl (fun _ => setup) (by simp [settingAdmits]; omega)
    · exact exec_configure_beyond h tag _ _ (decide_eq_true hg) (fun _ => setup) (by simp [settingAdmits]; omega)
    · exact exec_configure_beyond h tag _ _ (decide_eq_true hd) (fun _ => setup) rfl

end Sys2Proof.Machine
end

section
/-! WARM RESET (R183): what the reset leaves of each block (R21, R48, R69, R91, R111, R150, R194); and the laws that the state
after a cold reset satisfies (R20, R182, R188). -/

namespace Sys2Proof.Machine

theorem awaitsReset_iff (p : Port) : p.awaitsReset = true ↔ ∃ tag kind, p.service = some ⟨tag, kind, .sent⟩ := by
  unfold Port.awaitsReset
  split
  · next tag kind held => exact iff_of_true rfl ⟨tag, kind, held⟩
  · next other => exact iff_of_false nofun fun ⟨tag, kind, held⟩ => other tag kind held

/-- What a warm reset leaves of the Return Table: the records that are no placeholders, each placed by its counts (R48). -/
theorem ra_warm {s : State} (wf : s.returns.records.wf = true) (n : Nat) :
    s.warm.ra n = ((s.ra n).filter fun r => !r.placeholder).map Ra.warm := by
  refine (lookup_mapValues _ Ra.warm n).trans (congrArg (Option.map Ra.warm) (Option.ext fun r => ?_))
  rw [Option.filter_eq_some_iff]
  exact lookup_filter_values s.returns.records wf (fun r => !r.placeholder) n r

theorem ra_warm_of_bound {s : State} (wf : s.returns.records.wf = true) {n : Nat} {r : Ra} (live : s.ra n = some r)
    (bound : r.state = .bound) : s.warm.ra n = some r.warm := by
  have unheld : r.placeholder = false := by simp [Ra.placeholder, bound]
  rw [ra_warm wf, live, Option.filter_some, unheld]
  rfl

theorem warm_of_free {r : Ra} (free : r.state ≠ .bound) : r.warm = r := if_neg free

theorem fullyReceived_iff (r : Ra) : r.fullyReceived = true ↔ ∀ l ∈ r.lines, l.received = l.quantity := by
  simp [Ra.fullyReceived]

theorem warm_of_full {r : Ra} (bound : r.state = .bound) (full : r.fullyReceived = true) :
    r.warm = { r with state := .complete, closed := true, boundLane := none, mismatch := false } := by
  rw [Ra.warm, if_pos bound, full, Bool.or_true]
  rfl

theorem warm_of_part {r : Ra} (bound : r.state = .bound) (part : r.fullyReceived = false) :
    r.warm = { r with
      state := if r.closed = true then .short else .loaded, boundLane := none, mismatch := false } := by
  rw [Ra.warm, if_pos bound, part, Bool.or_false]
  rfl

theorem slot_warm (s : State) (x : SlotId) : s.warm.slot x = (s.slot x).warm := by
  simp [State.slot, State.warm, StationBus.warm]

theorem slotWarm_eq (x : Slot) : x.warm =
    { x with state := if x.state = .vacant then .vacant else .up, score := 0, maxScore := 0, outcome := none } := by
  unfold Slot.warm Slot.enrolled
  cases x.state <;> rfl

/-- Settles O51: DONE leaves every block, and the reset that acts after it is `State.warm`, block by block. -/
theorem warmResetAnswersThenActs : Obligations.WarmResetAnswersThenActs := by
  refine ⟨fun s tag => ⟨fun h => exec_answered (.warmReset tag) rfl h rfl, fun unsent => ?_⟩,
    fun s tag kind sent wf => ⟨s.warm, ?_, rfl, rfl, fun n none => ?_, fun n r live => ⟨fun held => ?_, fun free => ?_,
      fun bound => ⟨fun full => ?_, fun part => ?_⟩⟩, fun l => quad_at_map _ _ l, fun x => ?_, rfl, rfl, rfl,
      fun b => pair_at_map _ _ b, rfl, rfl, rfl, rfl, rfl, rfl, rfl⟩⟩
  · exact congrArg _ (if_neg fun awaits => by
      obtain ⟨t, k, sent⟩ := (awaitsReset_iff _).1 awaits
      exact unsent t k sent)
  · exact congrArg _ (if_pos ((awaitsReset_iff _).2 ⟨tag, kind, sent⟩))
  · rw [ra_warm wf, none]
    rfl
  · rw [ra_warm wf, live, Option.filter_some, (placeholder_iff r).2 held]
    rfl
  · have unheld : r.placeholder = false := by
      rw [Bool.eq_false_iff, Ne, placeholder_iff]
      rcases free with state | state | state <;> simp [state]
    have unbound : r.state ≠ .bound := by rcases free with state | state | state <;> simp [state]
    rw [ra_warm wf, live, Option.filter_some, unheld]
    exact congrArg some (warm_of_free unbound)
  · rw [ra_warm_of_bound wf live bound, warm_of_full bound ((fullyReceived_iff r).2 full)]
  · rw [ra_warm_of_bound wf live bound,
      warm_of_part bound (Bool.eq_false_iff.2 fun full => part ((fullyReceived_iff r).1 full))]
  · rw [slot_warm, slotWarm_eq]

/-- Settles O4: each law is a condition that the one state `State.reset` evaluates. -/
theorem resetStateIsLawful : Obligations.ResetStateIsLawful := by
  unfold Obligations.ResetStateIsLawful
  decide

end Sys2Proof.Machine
end

section
/-! The millisecond (R171, R29, R61, R74): the clock and the timers move, and the expiries wait as commands (log entry 1). -/

namespace Sys2Proof.Machine

/-- The timers and the line clock one millisecond on, before the expiries are put in the queue. -/
def State.millisecond (s : State) : State :=
  { s.countWaits with
    line := { s.countWaits.line with clock := wrapNext 0 4294967295 s.countWaits.line.clock }
    bus := { s.countWaits.bus with timer := s.countWaits.bus.timer - 1 } }

theorem tick_eq (s : State) : s.tick = State.countDraw
    { s.millisecond with pending := s.millisecond.freeOrder s.millisecond.expiries } s.millisecond.expiries.length := rfl

theorem countWaits_of_suspended {s : State} (h : s.suspended = true) : s.countWaits = s := if_pos h

theorem countWaits_of_running {s : State} (h : s.suspended = false) :
    s.countWaits = { s with returns := s.returns.countDown, lanes := s.lanes.map Lane.countDown } :=
  if_neg (by simp [h])

/-- The waits run down in the Return Table and the lanes alone. -/
theorem countWaits_eq (s : State) :
    s.countWaits = { s with returns := s.countWaits.returns, lanes := s.countWaits.lanes } := by
  unfold State.countWaits
  split <;> rfl

theorem millisecond_eq (s : State) : s.millisecond =
    { s with
      line := { s.line with clock := wrapNext 0 4294967295 s.line.clock }
      bus := { s.bus with timer := s.bus.timer - 1 }
      returns := s.countWaits.returns
      lanes := s.countWaits.lanes } := by
  unfold State.millisecond
  rw [countWaits_eq]

theorem millisecond_suspended (s : State) : s.millisecond.suspended = s.suspended := by
  rw [millisecond_eq]
  rfl

theorem millisecond_returns (s : State) : s.millisecond.returns = s.countWaits.returns := rfl

theorem millisecond_lanes (s : State) : s.millisecond.lanes = s.countWaits.lanes := rfl

theorem millisecond_timer (s : State) : s.millisecond.bus.timer = s.bus.timer - 1 := by rw [millisecond_eq]

theorem mem_tick_pending (s : State) (c : Instr) : c ∈ s.tick.pending ↔ c ∈ s.millisecond.expiries := by
  rw [tick_eq, countDraw_pending]
  exact (freeOrder_perm _ _).mem_iff

theorem mem_expired (t : ReturnTable) (c : Instr) : c ∈ t.expired ↔
    ∃ n r, (n, r) ∈ t.records.entries ∧ r.state = .expected ∧ r.timer = some 0 ∧ c = .manifestWaitExpiry n := by
  simp only [ReturnTable.expired, List.mem_map, List.mem_filter, Bool.and_eq_true, decide_eq_true_eq, Prod.exists]
  exact exists₂_congr fun n r => by rw [and_assoc, and_assoc, eq_comm (b := c)]

theorem mem_expiredLanes (s : State) (c : Instr) : c ∈ s.expiredLanes ↔
    ∃ l w, (s.lanes.at l).timer = some w ∧ w.remaining = 0 ∧ c = .decisionWaitExpiry l := by
  simp only [State.expiredLanes, List.mem_map, List.mem_filter, mem_allLanes, true_and, decide_eq_true_eq,
    Option.map_eq_some_iff]
  exact exists_congr fun l => ⟨fun ⟨⟨w, timer, out⟩, e⟩ => ⟨w, timer, out, e.symm⟩,
    fun ⟨w, timer, out, e⟩ => ⟨⟨w, timer, out⟩, e.symm⟩⟩

theorem mem_expiries (s : State) (c : Instr) : c ∈ s.expiries ↔
    (s.suspended = false ∧ (c ∈ s.returns.expired ∨ c ∈ s.expiredLanes)) ∨ (s.bus.timer = 0 ∧ c = .sweepTimer) := by
  unfold State.expiries
  cases s.suspended <;> by_cases out : s.bus.timer = 0 <;> simp [out, or_assoc]

/-- A placeholder's expiry falls due as its timer comes to 0 (R30). -/
theorem mem_countDown_expired (t : ReturnTable) (n : Nat) : Instr.manifestWaitExpiry n ∈ t.countDown.expired ↔
    ∃ r k, (n, r) ∈ t.records.entries ∧ r.state = .expected ∧ r.timer = some k ∧ k ≤ 1 := by
  simp only [mem_expired, ReturnTable.countDown, Table.mapValues, List.mem_map, Prod.exists, Prod.mk.injEq,
    Instr.manifestWaitExpiry.injEq]
  constructor
  · rintro ⟨_, _, ⟨_, r, listed, rfl, rfl⟩, state, timer, rfl⟩
    obtain ⟨k, held, out⟩ := Option.map_eq_some_iff.1 timer
    exact ⟨r, k, listed, state, held, by omega⟩
  · rintro ⟨r, k, listed, state, held, out⟩
    refine ⟨n, _, ⟨n, r, listed, rfl, rfl⟩, state, Option.map_eq_some_iff.2 ⟨k, held, ?_⟩, rfl⟩
    omega

/-- A lane's expiry falls due as its timer comes to 0 (R62). -/
theorem mem_countDown_expiredLanes {s t : State} (counted : t.lanes = s.lanes.map Lane.countDown) (l : LaneId) :
    Instr.decisionWaitExpiry l ∈ t.expiredLanes ↔ ∃ w, (s.lanes.at l).timer = some w ∧ w.remaining ≤ 1 := by
  simp only [mem_expiredLanes, counted, quad_at_map, Lane.countDown, Instr.decisionWaitExpiry.injEq]
  constructor
  · rintro ⟨_, w, timer, out, rfl⟩
    obtain ⟨x, held, rfl⟩ := Option.map_eq_some_iff.1 timer
    exact ⟨x, held, by dsimp only at out; omega⟩
  · rintro ⟨x, held, out⟩
    exact ⟨l, _, Option.map_eq_some_iff.2 ⟨x, held, rfl⟩, by dsimp only; omega, rfl⟩

theorem sweepTimer_mem_tick (s : State) : Instr.sweepTimer ∈ s.tick.pending ↔ s.bus.timer ≤ 1 := by
  rw [mem_tick_pending, mem_expiries, millisecond_timer, mem_expired, mem_expiredLanes]
  constructor
  · rintro (⟨_, ⟨n, r, _, _, _, e⟩ | ⟨l, w, _, _, e⟩⟩ | ⟨out, _⟩)
    · cases e
    · cases e
    · omega
  · exact fun out => .inr ⟨by omega, rfl⟩

theorem decisionWaitExpiry_mem_tick (s : State) (l : LaneId) : Instr.decisionWaitExpiry l ∈ s.tick.pending ↔
    s.suspended = false ∧ ∃ w, (s.lanes.at l).timer = some w ∧ w.remaining ≤ 1 := by
  rw [mem_tick_pending, mem_expiries, millisecond_suspended, mem_expired]
  have due : s.suspended = false → (Instr.decisionWaitExpiry l ∈ s.millisecond.expiredLanes ↔ _) := fun running =>
    mem_countDown_expiredLanes (s := s) (by rw [millisecond_lanes, countWaits_of_running running]) l
  constructor
  · rintro (⟨running, ⟨n, r, _, _, _, e⟩ | out⟩ | ⟨_, e⟩)
    · cases e
    · exact ⟨running, (due running).1 out⟩
    · cases e
  · exact fun ⟨running, out⟩ => .inl ⟨running, .inr ((due running).2 out)⟩

theorem manifestWaitExpiry_mem_tick (s : State) (n : Nat) : Instr.manifestWaitExpiry n ∈ s.tick.pending ↔
    s.suspended = false ∧ ∃ r k, (n, r) ∈ s.returns.records.entries ∧ r.state = .expected ∧ r.timer = some k ∧ k ≤ 1 := by
  rw [mem_tick_pending, mem_expiries, millisecond_suspended, mem_expiredLanes]
  have due : s.suspended = false → (Instr.manifestWaitExpiry n ∈ s.millisecond.returns.expired ↔
      ∃ r k, (n, r) ∈ s.returns.records.entries ∧ r.state = .expected ∧ r.timer = some k ∧ k ≤ 1) := fun running => by
    rw [millisecond_returns, countWaits_of_running running]
    exact mem_countDown_expired s.returns n
  constructor
  · rintro (⟨running, out | ⟨l, w, _, _, e⟩⟩ | ⟨_, e⟩)
    · exact ⟨running, (due running).1 out⟩
    · cases e
    · cases e
  · exact fun ⟨running, out⟩ => .inl ⟨running, .inl ((due running).2 out)⟩

theorem tick_pending_kinds (s : State) (c : Instr) (h : c ∈ s.tick.pending) :
    c = .sweepTimer ∨ (∃ l, c = .decisionWaitExpiry l) ∨ ∃ n, c = .manifestWaitExpiry n := by
  rw [mem_tick_pending, mem_expiries, mem_expired, mem_expiredLanes] at h
  rcases h with ⟨_, ⟨n, _, _, _, _, rfl⟩ | ⟨l, _, _, _, rfl⟩⟩ | ⟨_, rfl⟩
  · exact .inr (.inr ⟨n, rfl⟩)
  · exact .inr (.inl ⟨l, rfl⟩)
  · exact .inl rfl

/-- Settles O2: the blocks as `State.millisecond` leaves them, and the expiries, which a free order lists each once. -/
theorem emptyQueueIsOneMillisecond : Obligations.EmptyQueueIsOneMillisecond := by
  intro s empty
  refine ⟨s.tick, by rw [step, empty], ?_, ?_, ?_, ?_, ?_, ?_, ?_, ?_, fun suspended => ?_, fun running => ?_,
    sweepTimer_mem_tick s, decisionWaitExpiry_mem_tick s, manifestWaitExpiry_mem_tick s, tick_pending_kinds s⟩
  · rw [tick_eq, countDraw_line, millisecond_eq]; rfl
  · rw [tick_eq, countDraw_bus, millisecond_eq]
  · rw [tick_eq, countDraw_port, millisecond_eq]
  · rw [tick_eq, countDraw_queue, millisecond_eq]
  · rw [tick_eq, countDraw_items, millisecond_eq]
  · rw [tick_eq, countDraw_plan, millisecond_eq]
  · rw [tick_eq, countDraw_sorter, millisecond_eq]
  · rw [tick_eq, countDraw_totes, millisecond_eq]
  · rw [tick_eq, countDraw_returns, countDraw_lanes, millisecond_eq, countWaits_of_suspended suspended]
    exact ⟨rfl, rfl⟩
  · have returns : s.tick.returns = s.returns.countDown := by
      rw [tick_eq, countDraw_returns, millisecond_eq, countWaits_of_running running]
    have lanes : s.tick.lanes = s.lanes.map Lane.countDown := by
      rw [tick_eq, countDraw_lanes, millisecond_eq, countWaits_of_running running]
    refine ⟨fun n => ?_, fun l => by rw [lanes, quad_at_map]; rfl⟩
    unfold State.ra
    rw [returns]
    exact lookup_mapValues s.returns.records _ n

end Sys2Proof.Machine
end

section
/-! STOP LINE with CUT (R176, R67, R147, R177): the four lanes abort one after another in a free order, and the SORTING items
are sent to gate E. -/

namespace Sys2Proof.Machine

/-! ### The end of the stop over several acts (R177) -/

/-- Every lane is IDLE and no item is live. -/
def State.cleared (s : State) : Prop := s.live = 0 ∧ ∀ l, (s.lanes.at l).state = .idle

/-- `t` is `s` after acts each of which makes the end test as R177 says. -/
structure State.StopRun (s t : State) : Prop where
  ends  : s.stopEnds t
  stays : s.cleared → t.cleared

theorem item_of_live_eq_zero {s : State} (h : s.live = 0) (n : Nat) : s.item n = none := by
  have nil : s.items.records.entries = [] := List.length_eq_zero_iff.1 h
  unfold State.item Table.lookup
  rw [nil]
  rfl

namespace State.StopRun

variable {s t u : State}

theorem refl (h : ¬ s.stopDue) : s.StopRun s :=
  ⟨⟨fun mode live idle => absurd ⟨mode, live, idle⟩ h, fun _ => rfl⟩, id⟩

/-- A stop that has ended is over, so that the line is not due to end it again. -/
theorem not_due (h : s.StopRun t) : ¬ t.stopDue := fun ⟨mode, live, idle⟩ => by
  obtain ⟨ended, kept⟩ := h.ends
  by_cases draining : s.line.mode.isDraining = true
  · rw [ended draining live idle] at mode
    cases mode
  · rw [kept fun due => draining due.1] at mode
    exact draining mode

theorem trans (h : s.StopRun t) (h' : t.StopRun u) : s.StopRun u := by
  obtain ⟨ended, kept⟩ := h.ends
  obtain ⟨ended', kept'⟩ := h'.ends
  refine ⟨⟨fun mode live idle => ?_, fun notDue => ?_⟩, fun gone => h'.stays (h.stays gone)⟩
  · by_cases gone : t.cleared
    · have line := ended mode gone.1 gone.2
      have notDraining : ¬ t.line.mode.isDraining = true := by
        rw [line]
        nofun
      rw [kept' fun due => notDraining due.1, line]
    · have line := kept fun due => gone ⟨due.2.1, due.2.2⟩
      rw [ended' (line ▸ mode) live idle, line]
  · have line : t.line = s.line := kept fun due => notDue ⟨due.1, h'.stays ⟨due.2.1, due.2.2⟩⟩
    rw [kept' fun due => notDue ⟨line ▸ due.1, due.2⟩, line]

/-- What the end test looks at beside the line: the number of live items and the states of the lanes. -/
theorem congr (h : s.StopRun t) (line : u.line = t.line) (live : u.live = t.live)
    (states : ∀ l, (u.lanes.at l).state = (t.lanes.at l).state) : s.StopRun u := by
  obtain ⟨ends, stays⟩ := h
  refine ⟨?_, fun gone => ?_⟩
  · unfold State.stopEnds at ends ⊢
    simpa only [line, live, states] using ends
  · obtain ⟨empty, idle⟩ := stays gone
    exact ⟨live.trans empty, fun l => (states l).trans (idle l)⟩

/-- While a lane is not IDLE no stop has ended. -/
theorem line_of_busy (h : s.StopRun t) {l : LaneId} (busy : (t.lanes.at l).state ≠ .idle) : t.line = s.line :=
  h.ends.2 fun due => busy (due.2.2 l)

end State.StopRun

theorem endTest_stopRun (s : State) : s.StopRun s.endTest := by
  refine ⟨stopEnds_endTest rfl, fun ⟨live, idle⟩ => ⟨(live_of_items_eq (endTest_items s)).trans live, fun l => ?_⟩⟩
  rw [endTest_lanes]
  exact idle l

theorem withdraw_stopRun {s : State} (h : ¬ s.stopDue) (n : Nat) (reason : WithdrawReason) :
    s.StopRun (s.withdraw n reason false) := by
  cases live : s.item n with
  | none => simp only [State.withdraw, live]; exact .refl h
  | some it =>
    simp only [State.withdraw, live]
    rw [afterRetirement_untold]
    refine ⟨stopEnds_endIfEmpty (.inl (releaseBank_line _ _)), fun gone => ?_⟩
    rw [item_of_live_eq_zero gone.1] at live
    cases live

theorem foldl_withdraw_stopRun (ns : List Nat) (reason : WithdrawReason) {s : State} (h : ¬ s.stopDue) :
    s.StopRun (ns.foldl (fun u n => u.withdraw n reason false) s) := by
  induction ns generalizing s with
  | nil => exact .refl h
  | cons n rest ih =>
    have first := withdraw_stopRun h n reason
    exact first.trans (ih first.not_due)

theorem emptied_stopRun {s : State} (h : ¬ s.stopDue) (l : LaneId) (reason : WithdrawReason) :
    s.StopRun (s.emptied l reason) := by
  refine (foldl_withdraw_stopRun (s.lanes.at l).queue reason h).congr rfl rfl fun m => ?_
  unfold State.emptied
  rw [modLane_lanes, quad_at_modify]
  split <;> rfl

theorem abort_stopRun {s : State} (h : ¬ s.stopDue) (l : LaneId) (reason : WithdrawReason) (cause : EndCause) :
    s.StopRun (s.abort l reason cause) := by
  have emptied := emptied_stopRun h l reason
  by_cases idle : (s.lanes.at l).state = .idle
  · rw [abort_of_idle reason cause idle]
    exact emptied
  · have line : (s.emptied l reason).line = s.line :=
      emptied.line_of_busy (l := l) (by rw [emptied_lane]; exact idle)
    rw [abort_of_busy reason cause idle, settle_eq]
    exact ⟨stopEnds_endTest ((parcelSettled_line _ _ _ _).trans line), fun gone => absurd (gone.2 l) idle⟩

/-! ### Room for the PARCEL CLOSED of each lane (R188) -/

theorem parcelSettled_eventLoad (s : State) (l : LaneId) (cause : EndCause) (retired : Nat) :
    (s.parcelSettled l cause retired).eventLoad ≤ s.eventLoad + 1 := by
  obtain ⟨more, events, one⟩ := offer_events ((s.lanes.at l).boundRas.foldl State.settleRa s) 0
    (.parcelClosed l (s.lanes.at l).parcelCounter (s.lanes.at l).account cause retired (s.outcomes l))
  rw [foldl_keeps (fun x => x.queue) State.settleRa settleRa_queue] at events
  have used : (s.parcelSettled l cause retired).used = s.used + more.length := by
    unfold State.used State.parcelSettled
    rw [modLane_queue, events, List.length_append]
  have live : (s.parcelSettled l cause retired).live = s.live := by
    refine live_of_items_eq ?_
    simp [State.parcelSettled, foldl_keeps (fun x => x.items) State.settleRa settleRa_items]
  have plan : (s.parcelSettled l cause retired).plan = s.plan := by
    simp [State.parcelSettled, foldl_keeps (fun x => x.plan) State.settleRa settleRa_plan]
  unfold State.eventLoad
  rw [used, live, plan]
  omega

/-- While another lane still has its parcel, an abort takes one entry beyond those kept for it: that of PARCEL CLOSED. -/
theorem abort_eventLoad {s : State} {l m : LaneId} (reason : WithdrawReason) (cause : EndCause)
    (busy : (s.lanes.at m).state ≠ .idle) (after : ((s.abort l reason cause).lanes.at m).state ≠ .idle) :
    (s.abort l reason cause).eventLoad ≤ s.eventLoad + 1 := by
  have emptied : (s.emptied l reason).eventLoad ≤ s.eventLoad := foldl_withdraw_eventLoad _ reason s busy
  by_cases idle : (s.lanes.at l).state = .idle
  · rw [abort_of_idle reason cause idle]
    exact Nat.le_succ_of_le emptied
  · rw [abort_of_busy reason cause idle, settle_eq] at after ⊢
    rw [endTest_lanes] at after
    rw [endTest_of_not_due fun due => after (due.2.2 m)]
    exact (parcelSettled_eventLoad _ _ _ _).trans (Nat.succ_le_succ emptied)

theorem eventLoad_le (s : State) : s.eventLoad ≤ s.used + s.live + 2 := by
  have drains : ∀ b : Bank, b.drains ≤ 1 := fun b => by
    unfold Bank.drains
    split <;> omega
  have := drains (s.plan.banks.at .b0)
  have := drains (s.plan.banks.at .b1)
  unfold State.eventLoad
  omega

/-! ### The lanes that a cut has aborted (R67) -/

/-- A lane after its abort: IDLE and empty, with the counters of before. -/
def Lane.aborted (x : Lane) : Lane :=
  { (if x.state = .idle then x else x.settled) with queue := [], verdict := .none, timer := none }

theorem aborted_idle (x : Lane) : x.aborted.state = .idle := by
  unfold Lane.aborted
  split
  · assumption
  · rfl

theorem abort_lane_aborted (s : State) (l : LaneId) (reason : WithdrawReason) (cause : EndCause) :
    (s.abort l reason cause).lanes.at l = (s.lanes.at l).aborted := by
  unfold Lane.aborted
  by_cases idle : (s.lanes.at l).state = .idle
  · rw [abort_of_idle reason cause idle, emptied_lane, if_pos idle]
  · rw [abort_lane_of_busy reason cause idle, if_neg idle]

theorem abort_nextNumber (s : State) (l : LaneId) (reason : WithdrawReason) (cause : EndCause) :
    (s.abort l reason cause).items.nextNumber = s.items.nextNumber := by
  have withdrawn : ∀ (u : State) n, (u.withdraw n reason false).items.nextNumber = u.items.nextNumber := fun u n => by
    unfold State.withdraw
    split
    · rfl
    · rw [afterRetirement_items]
      rfl
  have emptied : (s.emptied l reason).items.nextNumber = s.items.nextNumber :=
    foldl_keeps (fun x => x.items.nextNumber) _ withdrawn _ s
  rw [abort_eq]
  split
  · exact emptied
  · rw [settle_items, emptied]

/-- A lane among `ls` that has a parcel binds the RA. -/
def State.bindsIn (s : State) (ls : List LaneId) (n : Nat) : Prop :=
  ∃ l ∈ ls, (s.lanes.at l).state ≠ .idle ∧ n ∈ (s.lanes.at l).boundRas

/-- The PARCEL CLOSED of a lane that a cut aborts, with the RAs as they stand before the cut (R65). -/
def State.cutClosing (s : State) (l : LaneId) : Event :=
  ⟨s.line.clock, 0, .parcelClosed l (s.lanes.at l).parcelCounter (s.lanes.at l).account .cut (s.lanes.at l).queue.length
    ((s.lanes.at l).boundRas.filterMap fun n => (s.ra n).map fun r => (n, r.closingReport))⟩

/-- No RA is bound to two lanes, and each PARCEL CLOSED of a cut is stored. -/
structure State.Closable (s : State) : Prop where
  bindings : s.bindingsLawful = true
  enabled  : s.enabled .parcelClosed = true
  room     : s.used + s.live ≤ 246

/-- `t` is `s` after the lanes `ls` aborted in some order, with at most one event before them. -/
structure State.LanesCut (s t : State) (ls : List LaneId) : Prop where
  placed     : t.Placed
  aborted    : ∀ l ∈ ls, t.lanes.at l = (s.lanes.at l).aborted
  waiting    : ∀ l, l ∉ ls → t.lanes.at l = s.lanes.at l
  item       : ∀ n it, t.item n = some it ↔ s.item n = some it ∧ ∀ l ∈ ls, n ∉ (s.lanes.at l).queue
  nextNumber : t.items.nextNumber = s.items.nextNumber
  closed     : ∀ n, s.bindsIn ls n → t.ra n = (s.ra n).bind Ra.closing
  unbound    : ∀ n, ¬ s.bindsIn ls n → t.ra n = s.ra n
  sorter     : t.sorter = s.sorter
  run        : s.StopRun t
  events     : ∃ more, t.queue.events = s.queue.events ++ more ∧
    (∀ l ∈ ls, (s.withdrawals (s.lanes.at l).queue .cut).Sublist more) ∧
    (s.Closable → ∀ l ∈ ls, (s.lanes.at l).state ≠ .idle →
      (s.withdrawals (s.lanes.at l).queue .cut ++ [s.cutClosing l]).Sublist more)
  load       : ∀ l, (t.lanes.at l).state ≠ .idle → t.eventLoad ≤ s.eventLoad + ls.length + 1

namespace State.LanesCut

variable {s t : State} {ls : List LaneId} {l : LaneId}

theorem queued_item (h : s.LanesCut t ls) (new : l ∉ ls) {n : Nat} (hn : n ∈ (s.lanes.at l).queue) :
    t.item n = s.item n := by
  rw [← h.waiting l new] at hn
  obtain ⟨it, live, _⟩ := h.placed.queued l n hn
  rw [live, ((h.item n it).1 live).1]

theorem clock (h : s.LanesCut t ls) : t.line.clock = s.line.clock := by rw [line_of_stopEnds h.run.ends]

theorem enabled (h : s.LanesCut t ls) (k : EventKind) : t.enabled k = s.enabled k := by
  unfold State.enabled
  rw [line_of_stopEnds h.run.ends]

theorem withdrawals (h : s.LanesCut t ls) (new : l ∉ ls) :
    t.withdrawals (t.lanes.at l).queue .cut = s.withdrawals (s.lanes.at l).queue .cut := by
  rw [h.waiting l new]
  refine List.filterMap_congr fun n hn => ?_
  rw [h.queued_item new hn, h.clock]

/-- A lane binds its own RAs, so that the settlement of other lanes leaves them as they were. -/
theorem bound_ra (h : s.LanesCut t ls) (new : l ∉ ls) (bindings : s.bindingsLawful = true) {n : Nat}
    (hn : n ∈ (s.lanes.at l).boundRas) : t.ra n = s.ra n := by
  refine h.unbound n fun ⟨m, hm, _, bound⟩ => new ?_
  have lawful := (bindingsLawful_iff s).1 bindings
  obtain ⟨r, live, _, lane⟩ := (lawful l).2 n hn
  obtain ⟨r', live', _, lane'⟩ := (lawful m).2 n bound
  obtain rfl : r = r' := Option.some.inj (live.symm.trans live')
  obtain rfl : l = m := Option.some.inj (lane.symm.trans lane')
  exact hm

theorem cutClosing (h : s.LanesCut t ls) (new : l ∉ ls) (bindings : s.bindingsLawful = true) :
    t.cutClosing l = s.cutClosing l := by
  unfold State.cutClosing
  rw [h.waiting l new, h.clock]
  have report := List.filterMap_congr (l := (s.lanes.at l).boundRas)
    (f := fun n => (t.ra n).map fun r => (n, r.closingReport)) (g := fun n => (s.ra n).map fun r => (n, r.closingReport))
    fun n hn => by rw [h.bound_ra new bindings hn]
  rw [report]

/-- Three lanes before it leave the last lane's PARCEL CLOSED its entry. -/
theorem room (h : s.LanesCut t ls) (few : ls.length ≤ 3) (roomy : s.used + s.live ≤ 246)
    (busy : (t.lanes.at l).state ≠ .idle) : t.used + t.live ≤ 253 := by
  have load := h.load l busy
  have before := eventLoad_le s
  have after : t.used + t.live ≤ t.eventLoad := Nat.le_add_right _ _
  omega

/-- The final events of the next lane, and its PARCEL CLOSED after them. -/
theorem next_events (h : s.LanesCut t ls) (new : l ∉ ls) (few : ls.length ≤ 3) :
    ∃ more, (t.abort l .cut .cut).queue.events = t.queue.events ++ more ∧
      (s.withdrawals (s.lanes.at l).queue .cut).Sublist more ∧
      (s.Closable → (s.lanes.at l).state ≠ .idle →
        (s.withdrawals (s.lanes.at l).queue .cut ++ [s.cutClosing l]).Sublist more) := by
  obtain ⟨more, events, finals, _⟩ := abort_events (l := l) .cut .cut h.placed
  rw [h.withdrawals new] at finals
  refine ⟨more, events, finals, fun closable busy => ?_⟩
  rw [← h.waiting l new] at busy
  obtain ⟨more', events', closing⟩ := abort_events_of_busy .cut .cut h.placed busy
    ((h.enabled .parcelClosed).trans closable.enabled) (h.room few closable.room busy)
  obtain rfl := List.append_cancel_left (events.symm.trans events')
  rw [← h.withdrawals new, ← h.cutClosing new closable.bindings]
  exact closing

theorem abort_ra (h : s.LanesCut t ls) (new : l ∉ ls) (n : Nat) : (t.abort l .cut .cut).ra n =
    if (s.lanes.at l).state ≠ .idle ∧ n ∈ (s.lanes.at l).boundRas then (t.ra n).bind Ra.closing else t.ra n := by
  rw [← h.waiting l new]
  by_cases idle : (t.lanes.at l).state = .idle
  · rw [if_neg fun c => c.1 idle, abort_of_idle _ _ idle, emptied_ra]
  · simp only [abort_ra_of_busy _ _ idle, ne_eq, idle, not_false_eq_true, true_and]

/-- One lane more aborts. -/
theorem next (h : s.LanesCut t ls) (new : l ∉ ls) (few : ls.length ≤ 3) :
    s.LanesCut (t.abort l .cut .cut) (l :: ls) := by
  have others : ∀ m, m ≠ l → (t.abort l .cut .cut).lanes.at m = t.lanes.at m := fun m hm =>
    abort_other_lane .cut .cut h.placed hm
  have lane : (t.abort l .cut .cut).lanes.at l = (s.lanes.at l).aborted := by
    rw [abort_lane_aborted, h.waiting l new]
  refine
    { placed := (abort_changes t l .cut .cut).placed h.placed
      aborted := fun m hm => ?_
      waiting := fun m hm => ?_
      item := fun n it => ?_
      nextNumber := (abort_nextNumber t l .cut .cut).trans h.nextNumber
      closed := fun n binds => ?_
      unbound := fun n free => ?_
      sorter := (abort_sorter .cut .cut h.placed).trans h.sorter
      run := h.run.trans (abort_stopRun h.run.not_due l .cut .cut)
      events := ?_
      load := fun m busy => ?_ }
  · rcases List.mem_cons.1 hm with rfl | hm
    · exact lane
    · rw [others m fun e => new (e ▸ hm), h.aborted m hm]
  · rw [others m (List.ne_of_not_mem_cons hm), h.waiting m (List.not_mem_of_not_mem_cons hm)]
  · rw [abort_item, h.waiting l new]
    by_cases queued : n ∈ (s.lanes.at l).queue
    · simp [queued]
    · simp [queued, h.item]
  · rw [h.abort_ra new]
    by_cases before : s.bindsIn ls n
    · rw [h.closed n before, closing_closing, ite_self]
    · obtain ⟨m, hm, busy, bound⟩ := binds
      rcases List.mem_cons.1 hm with rfl | hm
      · rw [if_pos ⟨busy, bound⟩, h.unbound n before]
      · exact absurd ⟨m, hm, busy, bound⟩ before
  · rw [h.abort_ra new, if_neg fun c => free ⟨l, List.mem_cons_self, c⟩]
    exact h.unbound n fun ⟨m, hm, c⟩ => free ⟨m, List.mem_cons_of_mem l hm, c⟩
  · obtain ⟨before, events, finals, closings⟩ := h.events
    obtain ⟨more, events', finals', closings'⟩ := h.next_events new few
    refine ⟨before ++ more, by rw [events', events, List.append_assoc], fun m hm => ?_, fun closable m hm busy => ?_⟩
    · rcases List.mem_cons.1 hm with rfl | hm
      · exact finals'.trans (List.sublist_append_right _ _)
      · exact (finals m hm).trans (List.sublist_append_left _ _)
    · rcases List.mem_cons.1 hm with rfl | hm
      · exact (closings' closable busy).trans (List.sublist_append_right _ _)
      · exact (closings closable m hm busy).trans (List.sublist_append_left _ _)
  · have other : m ≠ l := fun e => busy (by rw [e, lane]; exact aborted_idle _)
    have before : (t.lanes.at m).state ≠ .idle := by rwa [others m other] at busy
    have := h.load m before
    have := abort_eventLoad .cut .cut before busy
    rw [List.length_cons]
    omega

theorem foldl (ms : List LaneId) (h : s.LanesCut t ls) (nodup : (ms ++ ls).Nodup) :
    s.LanesCut (ms.foldl (fun u l => u.abort l .cut .cut) t) (ms.reverse ++ ls) := by
  induction ms generalizing t ls with
  | nil => exact h
  | cons l rest ih =>
    have perm : (l :: rest ++ ls).Perm (rest ++ l :: ls) := List.perm_middle.symm
    have nodup' := perm.nodup_iff.1 nodup
    have four : (l :: ls).length ≤ allLanes.length :=
      ((List.nodup_append.1 nodup').2.1.subperm fun m _ => mem_allLanes m).length_le
    have new : l ∉ ls := (List.nodup_cons.1 (List.nodup_append.1 nodup').2.1).1
    rw [List.foldl_cons, List.reverse_cons, List.append_assoc]
    exact ih (h.next new (Nat.le_of_succ_le_succ four)) nodup'

theorem countDraw (h : s.LanesCut t ls) (n : Nat) : s.LanesCut (t.countDraw n) ls := by
  have placed := (countDraw_changes t n).placed h.placed
  have run := h.run.congr (countDraw_line t n) (live_of_items_eq (countDraw_items t n)) fun l => by rw [countDraw_lanes]
  unfold State.countDraw at placed run ⊢
  split at placed
  · rwa [if_pos ‹_›]
  · rw [if_neg ‹_›] at run ⊢
    exact ⟨placed, h.aborted, h.waiting, h.item, h.nextNumber, h.closed, h.unbound, h.sorter, run, h.events, h.load⟩

/-- The lanes without work and then those with work, in the free order, are the four lanes, each once. -/
theorem cutLanes (h : s.LanesCut t []) : ∃ ls, (∀ l, l ∈ ls) ∧ s.LanesCut t.cutLanes ls := by
  have order : ((t.freeOrder (allLanes.filter t.cutTouches)) ++ allLanes.filter fun l => !t.cutTouches l).Perm allLanes :=
    ((freeOrder_perm t _).append_right _).trans (List.filter_append_perm t.cutTouches allLanes)
  have nodup := order.nodup_iff.2 (by decide)
  have idle := h.foldl (allLanes.filter fun l => !t.cutTouches l)
    (by rw [List.append_nil]; exact (List.nodup_append.1 nodup).2.1)
  rw [List.append_nil] at idle
  have all := idle.foldl (t.freeOrder (allLanes.filter t.cutTouches))
    (((List.reverse_perm _).append_left _).nodup_iff.2 nodup)
  refine ⟨_, fun l => ?_, all.countDraw _⟩
  have := order.mem_iff.2 (mem_allLanes l)
  simpa using this

end State.LanesCut

/-! ### What the cut leaves (R147, R176, R177) -/

theorem eventsGrow_abort (s : State) (l : LaneId) (reason : WithdrawReason) (cause : EndCause) :
    s.eventsGrow (s.abort l reason cause) := by
  obtain ⟨more, events, _⟩ := foldl_withdraw_growsUnsettled (s.lanes.at l).queue reason s
  have emptied : s.eventsGrow (s.emptied l reason) := ⟨more, events⟩
  rw [abort_eq]
  split
  · exact emptied
  · exact emptied.trans (eventsGrow_settle _ _ _ _)

theorem eventsGrow_cutLanes (s : State) : s.eventsGrow s.cutLanes :=
  (eventsGrow_foldl (fun u l => eventsGrow_abort u l .cut .cut) _ s).trans <|
    (eventsGrow_foldl (fun u l => eventsGrow_abort u l .cut .cut) _ _).trans
      (eventsGrow_of_queue_eq (countDraw_queue _ _))

/-- What every abort leaves, and the choice of their order, the cut of the lanes leaves. -/
theorem cutLanes_keeps {β : Type} (field : State → β) (aborts : ∀ s l, field (s.abort l .cut .cut) = field s)
    (draws : ∀ s n, field (s.countDraw n) = field s) (s : State) : field s.cutLanes = field s := by
  unfold State.cutLanes
  dsimp only
  rw [draws, foldl_keeps field _ aborts, foldl_keeps field _ aborts]

/-- A stop with the end test that follows LINE STATE (R176). -/
def State.stopTested (s : State) (kind : StopKind) : State := (s.stopBegun kind).endTest

/-- A RUNNING line, and one that drains, is cut (R176). -/
theorem stop_cut {s : State} (mode : s.line.mode = .running ∨ s.line.mode = .draining .drain) :
    s.stop .cut = (s.stopTested .cut).cutLanes.cutSorter := by
  unfold State.stop
  rcases mode with mode | mode <;> rw [mode] <;> rfl

section Tested

variable (s : State) (kind : StopKind)

theorem stopTested_port : (s.stopTested kind).port = s.port := (endTest_port _).trans (offer_port _ _ _)
theorem stopTested_items : (s.stopTested kind).items = s.items := (endTest_items _).trans (offer_items _ _ _)
theorem stopTested_lanes : (s.stopTested kind).lanes = s.lanes := (endTest_lanes _).trans (offer_lanes _ _ _)
theorem stopTested_returns : (s.stopTested kind).returns = s.returns := (endTest_returns _).trans (offer_returns _ _ _)
theorem stopTested_sorter : (s.stopTested kind).sorter = s.sorter := (endTest_sorter _).trans (offer_sorter _ _ _)
theorem stopTested_plan : (s.stopTested kind).plan = s.plan := (endTest_plan _).trans (offer_plan _ _ _)
theorem stopTested_bus : (s.stopTested kind).bus = s.bus := (endTest_bus _).trans (offer_bus _ _ _)
theorem stopTested_totes : (s.stopTested kind).totes = s.totes := (endTest_totes _).trans (offer_totes _ _ _)

theorem stopTested_ra (n : Nat) : (s.stopTested kind).ra n = s.ra n := by
  unfold State.ra
  rw [stopTested_returns]

/-- LINE STATE with cause STOP is the first event of a stop, if it is enabled and has room. -/
theorem stopTested_events (enabled : s.enabled .lineState = true) (room : s.used + s.live < 256) :
    ∃ more, (s.stopTested kind).queue.events = s.queue.events ++
      ⟨s.line.clock, 0, .lineState (.draining kind) s.line.pause s.line.hold .stop⟩ :: more := by
  obtain ⟨more, grown⟩ := eventsGrow_endTest (s.stopBegun kind)
  have begun : (s.stopBegun kind).queue.events = s.queue.events ++
      [⟨s.line.clock, 0, .lineState (.draining kind) s.line.pause s.line.hold .stop⟩] :=
    congrArg (fun t : State => t.queue.events) <| offer_stored { s with line := { s.line with mode := .draining kind } } 0
      (.lineState (.draining kind) s.line.pause s.line.hold .stop) enabled (decide_eq_true room)
  exact ⟨more, by rw [State.stopTested, grown, begun, List.append_assoc, List.singleton_append]⟩

/-- While a lane is not IDLE, LINE STATE takes the one entry that a stop takes before its lanes abort. -/
theorem stopTested_eventLoad {l : LaneId} (busy : (s.lanes.at l).state ≠ .idle) :
    (s.stopTested kind).eventLoad ≤ s.eventLoad + 1 := by
  have lanes : (s.stopBegun kind).lanes = s.lanes := offer_lanes _ _ _
  obtain ⟨more, events, one⟩ := offer_events { s with line := { s.line with mode := .draining kind } } 0
    (.lineState (.draining kind) s.line.pause s.line.hold .stop)
  have used : (s.stopTested kind).used = s.used + more.length := by
    unfold State.stopTested
    rw [endTest_of_not_due fun due => busy (lanes ▸ due.2.2 l)]
    exact (congrArg List.length events).trans List.length_append
  unfold State.eventLoad
  rw [used, live_of_items_eq (stopTested_items s kind), stopTested_plan]
  omega

theorem stopTested_lanesCut (placed : s.Placed) :
    State.LanesCut { s with line := { s.line with mode := .draining kind } } (s.stopTested kind) [] where
  placed := by
    refine placed.of_places ?_ (fun n => ?_) ?_ fun l => ?_
    · rw [stopTested_items]; exact placed.itemsWf
    · rw [item_of_items_eq (stopTested_items s kind)]
    · rw [stopTested_sorter]
    · rw [stopTested_lanes]
  aborted := nofun
  waiting := fun l _ => by rw [stopTested_lanes]
  item := fun n it => by
    rw [item_of_items_eq (stopTested_items s kind)]
    exact ⟨fun live => ⟨live, nofun⟩, And.left⟩
  nextNumber := by rw [stopTested_items]
  closed := fun n ⟨_, listed, _⟩ => absurd listed List.not_mem_nil
  unbound := fun n _ => stopTested_ra s kind n
  sorter := stopTested_sorter s kind
  run := ⟨stopEnds_endTest (stopBegun_line s kind), fun ⟨empty, idle⟩ =>
    ⟨(live_of_items_eq (stopTested_items s kind)).trans empty, fun l =>
      (congrArg (fun q : Quad Lane => (q.at l).state) (stopTested_lanes s kind)).trans (idle l)⟩⟩
  events := by
    obtain ⟨more, events⟩ := (eventsGrow_offer { s with line := { s.line with mode := .draining kind } } 0
      (.lineState (.draining kind) s.line.pause s.line.hold .stop)).trans (eventsGrow_endTest (s.stopBegun kind))
    exact ⟨more, events, nofun, fun _ => nofun⟩
  load := fun l busy => stopTested_eventLoad s kind (by rwa [stopTested_lanes] at busy)

end Tested

theorem stopCut_port {s : State} (mode : s.line.mode = .running ∨ s.line.mode = .draining .drain) :
    (s.stop .cut).port = s.port := by
  rw [stop_cut mode, cutSorter_port]
  exact (cutLanes_keeps (fun x => x.port) (fun u l => abort_port u l .cut .cut) countDraw_port _).trans
    (stopTested_port s .cut)

theorem aborted_of_busy {x : Lane} (busy : x.state ≠ .idle) :
    x.aborted = { x.settled with queue := [], verdict := .none, timer := none } := by
  unfold Lane.aborted
  rw [if_neg busy]

theorem aborted_counters (x : Lane) :
    x.aborted.parcelCounter = x.parcelCounter ∧ x.aborted.nextTicket = x.nextTicket := by
  unfold Lane.aborted
  split <;> exact ⟨rfl, rfl⟩

theorem item_cutSorter (s : State) (n : Nat) :
    s.cutSorter.item n = (s.item n).map fun it => if it.state = .sorting then it.sendToE .cut else it :=
  lookup_mapValues s.items.records _ n

theorem cutSorter_live (s : State) : s.cutSorter.live = s.live := size_mapValues s.items.records _

/-- The withdrawal of an item that is in its lane's queue is among those of the queue (R14). -/
theorem mem_withdrawals {s : State} {ns : List Nat} {n : Nat} {it : Item} (hn : n ∈ ns) (live : s.item n = some it)
    (reason : WithdrawReason) : ⟨s.line.clock, n, .itemWithdrawn reason it.finalFields⟩ ∈ s.withdrawals ns reason :=
  List.mem_filterMap.2 ⟨n, hn, by rw [live]; rfl⟩

/-- When every lane is IDLE, a stop that its acts have not ended waits for its last items. -/
theorem State.StopRun.line_of_idle {s t : State} (h : s.StopRun t) (mode : s.line.mode.isDraining = true)
    (idle : ∀ l, (t.lanes.at l).state = .idle) :
    t.line = { s.line with mode := if t.live = 0 then .setup else s.line.mode } := by
  obtain ⟨ended, kept⟩ := h.ends
  by_cases live : t.live = 0
  · rw [if_pos live, ended mode live idle]
  · rw [if_neg live, kept fun due => live due.2.1]

theorem exec_stopLine_cut {s : State} (tag : Nat) (h : s.serving = false)
    (mode : s.line.mode = .running ∨ s.line.mode = .draining .drain)
    (idle : ∀ l, ((s.frameTaken.stop .cut).lanes.at l).state = .idle) :
    exec (.stopLine tag (.known .cut)) s = .next { s.frameTaken.stop .cut with
      port := s.port.answered ⟨tag, 147, .done,
        .stopped (s.frameTaken.stop .cut).line.mode (s.frameTaken.stop .cut).live 0⟩ } := by
  have started : s.frameTaken.line.mode ≠ .setup := by
    rw [frameTaken_line]
    rcases mode with mode | mode <;> rw [mode] <;> nofun
  have act : stopLine (.known .cut) s.frameTaken =
      ⟨{ s.frameTaken.stop .cut with port := s.frameTaken.port }, .done,
        .stopped (s.frameTaken.stop .cut).line.mode (s.frameTaken.stop .cut).live 0⟩ := by
    rw [stopLine_of_started .cut started, lanesNotIdle_eq_zero idle, ← stopCut_port (s := s.frameTaken) mode]
    rfl
  rw [exec_request (.stopLine tag (.known .cut)) tag 147 _ rfl s, serve_taken s _ tag 147 _ _ _ h act]

/-- The line of a stop of kind CUT, before anything ends it. -/
def State.cutting (s : State) : State := { s with line := { s.line with mode := .draining .cut } }

/-- `u` is the state in which a STOP LINE with CUT has aborted the four lanes, listed in `ls`, before the SORTING items are
sent to gate E. -/
structure State.CutBy (s u : State) (ls : List LaneId) : Prop where
  all   : ∀ l, l ∈ ls
  lanes : s.cutting.LanesCut u ls
  first : s.enabled .lineState = true → s.used + s.live < 256 → ∃ more, u.queue.events = s.queue.events ++
    ⟨s.line.clock, 0, .lineState (.draining .cut) s.line.pause s.line.hold .stop⟩ :: more
  totes : u.totes = s.totes
  bus   : u.bus = s.bus

theorem cutLanes_cutBy {s : State} (placed : s.Placed) : ∃ ls, s.CutBy (s.stopTested .cut).cutLanes ls := by
  obtain ⟨ls, all, cut⟩ := (stopTested_lanesCut s .cut placed).cutLanes
  refine ⟨ls, all, cut, fun enabled room => ?_, ?_, ?_⟩
  · obtain ⟨first, begun⟩ := stopTested_events s .cut enabled room
    obtain ⟨rest, grown⟩ := eventsGrow_cutLanes (s.stopTested .cut)
    exact ⟨first ++ rest, by rw [grown, begun, List.append_assoc, List.cons_append]⟩
  · rw [cutLanes_keeps (fun x => x.totes) (fun u l => abort_totes u l .cut .cut) countDraw_totes, stopTested_totes]
  · rw [cutLanes_keeps (fun x => x.bus) (fun u l => abort_bus u l .cut .cut) countDraw_bus, stopTested_bus]

namespace State.CutBy

variable {s u : State} {ls : List LaneId}

theorem lane (h : s.CutBy u ls) (l : LaneId) : u.lanes.at l = (s.lanes.at l).aborted := h.lanes.aborted l (h.all l)

theorem idle (h : s.CutBy u ls) (l : LaneId) : (u.lanes.at l).state = .idle := by
  rw [h.lane]
  exact aborted_idle _

/-- A lane's queue held items that are not SORTING, and every lane's queue was retired (R12, R67). -/
theorem item_iff (h : s.CutBy u ls) (placed : s.Placed) (n : Nat) (it : Item) :
    u.item n = some it ↔ s.item n = some it ∧ it.state = .sorting := by
  rw [h.lanes.item]
  refine and_congr_right fun (live : s.item n = some it) => ⟨fun unqueued => ?_, fun sorting l _ queued => ?_⟩
  · by_contra inLane
    exact unqueued it.lane (h.all _) (placed.inQueue n it live inLane).2
  · exact (placed.of_queued queued live).2 sorting

theorem item_none (h : s.CutBy u ls) (placed : s.Placed) {n : Nat} (gone : ∀ it, s.item n = some it → it.state ≠ .sorting) :
    u.cutSorter.item n = none := by
  have unlisted : u.item n = none := Option.eq_none_iff_forall_ne_some.2 fun it live => by
    obtain ⟨before, sorting⟩ := (h.item_iff placed n it).1 live
    exact gone it before sorting
  rw [item_cutSorter, unlisted, Option.map_none]

theorem item_sorting (h : s.CutBy u ls) (placed : s.Placed) {n : Nat} {it : Item} (live : s.item n = some it)
    (sorting : it.state = .sorting) : u.cutSorter.item n = some (it.sendToE .cut) := by
  rw [item_cutSorter, (h.item_iff placed n it).2 ⟨live, sorting⟩, Option.map_some, if_pos sorting]

theorem line (h : s.CutBy u ls) :
    u.line = { s.line with mode := if u.live = 0 then .setup else .draining .cut } :=
  h.lanes.run.line_of_idle rfl h.idle

end State.CutBy

/-- Settles O49: what the abort of every lane leaves (`State.LanesCut`), and of that what `State.cutSorter` makes. -/
theorem stopLineCut : Obligations.StopLineCut := by
  intro s tag h placed mode
  have placed : s.frameTaken.Placed := (itemsPlaced_iff s.frameTaken).1 placed
  obtain ⟨ls, cut⟩ := cutLanes_cutBy placed
  have stop := stop_cut (s := s.frameTaken) mode
  have exec := exec_stopLine_cut tag h mode (by rw [stop]; exact cut.idle)
  rw [stop] at exec
  clear stop
  generalize (s.frameTaken.stopTested .cut).cutLanes = u at cut exec
  obtain ⟨more, events, finals, closings⟩ := cut.lanes.events
  refine ⟨_, exec, fun l => ?_, fun n it live inLane => ?_, fun n it live sorting => ?_, fun n free => ?_,
    ⟨more, events, fun n it live inLane => ?_⟩, cut.first, fun l busy => ?_, fun n free => ?_,
    fun bindings enabled room => ⟨more, events, fun l busy => ?_⟩, ?_, cut.lanes.nextNumber, cut.lanes.sorter, cut.totes,
    cut.bus, rfl⟩
  · have lane : u.lanes.at l = (s.lanes.at l).aborted := cut.lane l
    obtain ⟨counter, ticket⟩ := aborted_counters (s.lanes.at l)
    show (u.lanes.at l).state = _ ∧ (u.lanes.at l).queue = _ ∧ (u.lanes.at l).verdict = _ ∧ (u.lanes.at l).timer = _ ∧
      (u.lanes.at l).parcelCounter = _ ∧ (u.lanes.at l).nextTicket = _
    rw [lane]
    exact ⟨aborted_idle _, rfl, rfl, rfl, counter, ticket⟩
  · exact cut.item_none placed fun x hx => by
      obtain rfl : it = x := Option.some.inj (live.symm.trans hx)
      exact inLane
  · refine (cut.item_sorting placed live sorting).trans ?_
    rw [sendToE_eq, Item.held]
    cases route : it.route with
    | none => rfl
    | some r =>
      cases r with
      | tote d => rfl
      | exception reason => cases reason <;> rfl
  · exact cut.item_none placed fun x hx => by
      rw [item_frameTaken, free] at hx
      cases hx
  · exact (finals it.lane (cut.all _)).subset (mem_withdrawals (placed.inQueue n it live inLane).2 live .cut)
  · have settled : u.lanes.at l = { (s.lanes.at l).settled with queue := [], verdict := .none, timer := none } :=
      (cut.lane l).trans (aborted_of_busy busy)
    exact ⟨congrArg Lane.boundRas settled, congrArg Lane.account settled, congrArg Lane.closeCause settled,
      fun n bound => cut.lanes.closed n ⟨l, cut.all l, busy, bound⟩⟩
  · exact cut.lanes.unbound n fun ⟨l, _, busy, bound⟩ => free l busy bound
  · exact closings ⟨bindings, enabled, room⟩ l (cut.all l) busy
  · have line := cut.line
    rw [← cutSorter_live] at line
    exact line

end Sys2Proof.Machine
end

section
/-! Every step keeps U plus P at or below 256 (R188). An act adds an entry only by an offer, which finds room, by a final
event, whose record leaves the Item Table, or by an admission, which is refused without room. -/

namespace Sys2Proof.Machine

/-! ### What keeps the law -/

/-- Whatever made the second state of the first kept the law of the Event Queue. -/
def State.EventLawKept (s t : State) : Prop := s.eventLaw = true → t.eventLaw = true

theorem eventLaw_iff (s : State) : s.eventLaw = true ↔ s.used + s.live ≤ 256 := decide_eq_true_iff

namespace State.EventLawKept

variable {s t u : State}

theorem refl (s : State) : s.EventLawKept s := id

theorem trans (h : s.EventLawKept t) (h' : t.EventLawKept u) : s.EventLawKept u := h' ∘ h

theorem foldl {α : Type} {f : State → α → State} (h : ∀ (s : State) a, s.EventLawKept (f s a)) (l : List α) (s : State) :
    s.EventLawKept (l.foldl f s) := by
  induction l generalizing s with
  | nil => exact refl s
  | cons a rest ih => exact (h s a).trans (ih _)

/-- The records and the live items together are no more than before. -/
theorem fewer (h : t.used + t.live ≤ s.used + s.live) : s.EventLawKept t := fun law =>
  (eventLaw_iff t).2 (h.trans ((eventLaw_iff s).1 law))

/-- No event is stored or fetched, and no item is created or retired. -/
theorem aside (queue : t.queue = s.queue := by rfl) (items : t.items = s.items := by rfl) : s.EventLawKept t :=
  fewer (by unfold State.used State.live; rw [queue, items])

/-- Records are written again, as many as there were. -/
theorem rewritten (queue : t.queue = s.queue := by rfl) (size : t.live = s.live) : s.EventLawKept t :=
  fewer (by unfold State.used; rw [queue, size])

end State.EventLawKept

theorem modItem_eventLawKept (s : State) (n : Nat) (f : Item → Item) : s.EventLawKept (s.modItem n f) :=
  .rewritten (size := size_modify s.items.records n f)

/-! ### Events and the end of a stop (R170, R177, R189) -/

theorem offer_eventLawKept (s : State) (item : Nat) (body : EventBody) : s.EventLawKept (s.offer item body) :=
  offer_eventLaw s item body

/-- Another block changes, and an event is offered. -/
theorem offer_beside_eventLawKept {s u : State} (item : Nat) (body : EventBody) (queue : u.queue = s.queue := by rfl)
    (items : u.items = s.items := by rfl) : s.EventLawKept (u.offer item body) :=
  (State.EventLawKept.aside queue items).trans (offer_eventLawKept u item body)

/-- The line changes, and LINE STATE is offered. -/
theorem offerLineState_eventLawKept (s : State) (line : LineControl) (cause : LineCause) :
    s.EventLawKept (State.offerLineState { s with line := line } cause) :=
  offer_beside_eventLawKept (u := { s with line := line }) _ _

theorem setPause_eventLawKept (s : State) (why : PauseCause) (cause : LineCause) : s.EventLawKept (s.setPause why cause) := by
  unfold State.setPause
  split
  exacts [.refl s, offerLineState_eventLawKept s _ _]

theorem clearPause_eventLawKept (s : State) : s.EventLawKept s.clearPause := by
  unfold State.clearPause
  split
  exacts [offerLineState_eventLawKept s _ _, .refl s]

theorem endTest_eventLawKept (s : State) : s.EventLawKept s.endTest := by
  unfold State.endTest
  split
  exacts [offerLineState_eventLawKept s _ _, .refl s]

theorem countDraw_eventLawKept (s : State) (choices : Nat) : s.EventLawKept (s.countDraw choices) :=
  .aside (by simp) (by simp)

/-! ### Settlement and retirement (R13, R64 to R66) -/

theorem settle_eventLawKept (s : State) (l : LaneId) (cause : EndCause) (retired : Nat) :
    s.EventLawKept (s.settle l cause retired) := by
  have closed : s.EventLawKept ((s.lanes.at l).boundRas.foldl State.settleRa s) :=
    .foldl (fun u n => .aside (settleRa_queue u n) (settleRa_items u n)) _ s
  rw [settle_eq]
  exact closed.trans <| (offer_eventLawKept _ _ _).trans <|
    (State.EventLawKept.aside (t := s.parcelSettled l cause retired)).trans (endTest_eventLawKept _)

theorem settlementTest_eventLawKept (s : State) (l : LaneId) : s.EventLawKept (s.settlementTest l) := by
  unfold State.settlementTest
  split
  exacts [settle_eventLawKept s l _ 0, .refl s]

theorem releaseBank_eventLawKept (s : State) (b : BankId) : s.EventLawKept (s.releaseBank b) := by
  unfold State.releaseBank
  dsimp only
  split
  exacts [offer_beside_eventLawKept _ _, .aside]

/-- R188: the final event of a live item takes the entry that its record leaves. -/
theorem State.Closed.eventLawKept {s u : State} {n : Nat} {it : Item} {final : EventBody} (h : s.Closed u n it final [])
    (live : s.item n = some it) : s.EventLawKept u :=
  .fewer (h.used_live live)

theorem afterRetirement_eventLawKept (s : State) (it : Item) (tell : Bool) : s.EventLawKept (s.afterRetirement it tell) := by
  have told : ∀ u : State, u.EventLawKept (if tell && !it.decided then u.settlementTest it.lane else u) := fun u => by
    split
    exacts [settlementTest_eventLawKept u it.lane, .refl u]
  have ended : ∀ u : State, u.EventLawKept (if u.live = 0 then u.endTest else u) := fun u => by
    split
    exacts [endTest_eventLawKept u, .refl u]
  exact (releaseBank_eventLawKept s it.bank).trans ((told _).trans (ended _))

theorem withdraw_eventLawKept (s : State) (n : Nat) (reason : WithdrawReason) (tell : Bool) :
    s.EventLawKept (s.withdraw n reason tell) := by
  unfold State.withdraw
  split
  · exact .refl s
  · next it live => exact ((closeRecord_closed s n it _).eventLawKept live).trans (afterRetirement_eventLawKept _ it tell)

theorem abort_eventLawKept (s : State) (l : LaneId) (reason : WithdrawReason) (cause : EndCause) :
    s.EventLawKept (s.abort l reason cause) := by
  have emptied : s.EventLawKept (s.emptied l reason) :=
    (State.EventLawKept.foldl (fun u n => withdraw_eventLawKept u n reason false) _ s).trans .aside
  rw [abort_eq]
  split
  exacts [emptied, emptied.trans (settle_eventLawKept _ _ _ _)]

/-! ### Decisions and the requests of the Item Table (R15 to R18, R117) -/

theorem decideItem_eventLawKept (s : State) (n : Nat) : s.EventLawKept (s.decideItem n) := by
  cases live : s.item n with
  | none => rw [decideItem_of_none live]; exact .refl s
  | some it =>
    cases undecided : it.decided with
    | true => rw [decideItem_of_decided live undecided]; exact .refl s
    | false =>
      have counted : s.EventLawKept (s.countFound it (s.searchFor it)) :=
        .aside (countFound_queue s it _) (countFound_items s it _)
      have written : s.EventLawKept (s.decisionWritten n it) :=
        counted.trans <| (modItem_eventLawKept _ n _).trans .aside
      have made : s.EventLawKept (s.decisionMade n it) :=
        written.trans <| (offer_eventLawKept _ _ _).trans (.foldl (fun u _ => offer_eventLawKept u n _) _ _)
      rw [decideItem_eq live undecided]
      exact made.trans (settlementTest_eventLawKept _ _)

theorem testItem_eventLawKept (s : State) (n : Nat) : s.EventLawKept (s.testItem n) := by
  rcases testItem_cases s n with h | h <;> rw [h]
  exacts [.refl s, decideItem_eventLawKept s n]

/-- A record is written again, and its item is tested. -/
theorem modItem_testItem_eventLawKept (s : State) (n : Nat) (f : Item → Item) :
    s.EventLawKept ((s.modItem n f).testItem n) :=
  (modItem_eventLawKept s n f).trans (testItem_eventLawKept _ n)

theorem retest_eventLawKept (s : State) (l : LaneId) : s.EventLawKept (s.retest l) := by
  refine State.EventLawKept.foldl (fun u n => ?_) _ s
  repeat' split
  exacts [.refl u, testItem_eventLawKept u n, .refl u]

theorem withdrawItem_eventLawKept (n : Nat) (s : State) : s.EventLawKept (withdrawItem n s).state := by
  unfold withdrawItem
  repeat' split
  exacts [.refl s, withdraw_eventLawKept s n .host true, modItem_eventLawKept s n _]

theorem forceGrade_eventLawKept (n : Nat) (grade : Coded Grade) (s : State) :
    s.EventLawKept (forceGrade n grade s).state := by
  have regraded : ∀ f item body, s.EventLawKept ((s.modItem n f).offer item body) := fun f item body =>
    (modItem_eventLawKept s n f).trans (offer_eventLawKept _ item body)
  have forced : ∀ f l g item body, s.EventLawKept ((((s.modItem n f).modLane l g).offer item body).settlementTest l) :=
    fun f l g item body => (modItem_eventLawKept s n f).trans <|
      (State.EventLawKept.aside (t := (s.modItem n f).modLane l g)).trans <|
        (offer_eventLawKept _ item body).trans (settlementTest_eventLawKept _ l)
  unfold forceGrade
  repeat' split
  exacts [.refl s, .refl s, regraded _ _ _, forced _ _ _ _ _]

/-! ### The Station Bus (R71 to R91) -/

/-- The bus, with its roster, holds no event and no item. -/
theorem bus_eventLawKept (s : State) (b : StationBus) : s.EventLawKept { s with bus := b } := .aside

theorem takeAnswer_eventLawKept (s : State) (a : AnswerHead) (fromRole : Role → Bool) (dataOk : Bool)
    (act : SlotId → State → State) (h : ∀ x u, State.EventLawKept u (act x u)) :
    s.EventLawKept (s.takeAnswer a fromRole dataOk act) := by
  unfold State.takeAnswer
  repeat' split
  exacts [.refl s, (bus_eventLawKept s _).trans (h _ _), bus_eventLawKept s _, bus_eventLawKept s _]

theorem takeGarbled_eventLawKept (s : State) : s.EventLawKept s.takeGarbled := by
  unfold State.takeGarbled
  repeat' split
  exacts [.refl s, bus_eventLawKept s _, bus_eventLawKept s _]

theorem turnPassed_eventLawKept (s : State) (partialAnswer : Bool) : s.EventLawKept (s.turnPassed partialAnswer) := by
  unfold State.turnPassed
  repeat' split
  exacts [.refl s, bus_eventLawKept s _, bus_eventLawKept s _]

theorem deliver_eventLawKept (s : State) (x : SlotId) (ticket : Nat) (kind : ReportKind) (write : Item → Item) :
    s.EventLawKept (s.deliver x ticket kind write) := by
  unfold State.deliver
  repeat' split
  exacts [offer_eventLawKept _ _ _, offer_eventLawKept _ _ _, modItem_testItem_eventLawKept s _ _,
    offer_eventLawKept _ _ _, offer_eventLawKept _ _ _]

theorem roleDown_eventLawKept (s : State) (x : SlotId) : s.EventLawKept (s.roleDown x) := by
  have lost : ∀ (u : State) n, u.EventLawKept (u.loseRole x.role n) := fun u n => by
    unfold State.loseRole
    repeat' split
    exacts [.refl u, modItem_testItem_eventLawKept u n _, .refl u]
  unfold State.roleDown
  split
  exacts [.foldl lost _ s, .refl s]

theorem scoreSlot_eventLawKept (s : State) (x : SlotId) : s.EventLawKept (s.scoreSlot x) := by
  unfold State.scoreSlot
  dsimp only
  repeat' split
  exacts [.refl s, (offer_beside_eventLawKept _ _).trans (roleDown_eventLawKept _ x), offer_beside_eventLawKept _ _,
    bus_eventLawKept s _]

theorem sweepExpiry_eventLawKept (s : State) : s.EventLawKept s.sweepExpiry := by
  have closed : s.EventLawKept s.closeSweep := by
    unfold State.closeSweep
    split
    exacts [.refl s, (State.EventLawKept.foldl scoreSlot_eventLawKept _ s).trans (bus_eventLawKept _ _)]
  have begun : ∀ u : State, u.EventLawKept u.beginSweep := fun u => by
    unfold State.beginSweep
    dsimp only
    split <;> exact .aside
  exact closed.trans ((begun _).trans (bus_eventLawKept _ _))

/-! ### The Return Table (R29 to R38) -/

theorem loadReturn_eventLawKept (r : ReturnLoad) (s : State) : s.EventLawKept (loadReturn r s).state := by
  have filled : ∀ (f : Ra → Ra) (l : Option LaneId), s.EventLawKept
      ((l.map fun l => (s.modRa r.ra f).retest l).getD (s.modRa r.ra f)) := fun f l => by
    cases l with
    | none => exact .aside
    | some l => exact (State.EventLawKept.aside (t := s.modRa r.ra f)).trans (retest_eventLawKept _ l)
  unfold loadReturn
  repeat' split
  exacts [.refl s, .refl s, .refl s, .aside, .refl s, .refl s, .refl s, filled _ _]

theorem manifestExpiry_eventLawKept (s : State) (n : Nat) : s.EventLawKept (s.manifestExpiry n) := by
  have overdue : ∀ r, s.EventLawKept (s.manifestOverdue n r) := fun r => by
    have marked : s.EventLawKept (s.modRa n fun x => { x with state := .overdue, timer := none }) := .aside
    unfold State.manifestOverdue
    dsimp only
    split
    exacts [marked, marked.trans <| (offer_eventLawKept _ _ _).trans (retest_eventLawKept _ _)]
  unfold State.manifestExpiry
  repeat' split
  exacts [.refl s, .refl s, overdue _, .refl s]

/-! ### The Lane Controllers (R51 to R66) -/

theorem openParcel_eventLawKept (lane account : Nat) (pairs : List (Nat × Nat)) (s : State) :
    s.EventLawKept (openParcel lane account pairs s).state := by
  have bound : ∀ l (u : State) p, u.EventLawKept (u.bindPair l account p) := fun l u p => by
    unfold State.bindPair
    split <;> exact .aside
  have opened : ∀ l, s.EventLawKept (s.openParcel l account pairs) := fun l =>
    (State.EventLawKept.foldl (bound l) pairs s).trans .aside
  unfold openParcel
  repeat' split
  exacts [.refl s, .refl s, .refl s, .refl s, .refl s, .refl s, .refl s, opened _]

/-- R55: an admission is refused unless U plus P is below 256. -/
theorem room_of_entryRefusal {s : State} {l : LaneId} (h : s.entryRefusal l = none) : s.used + s.live < 256 := by
  by_contra full
  have full : s.roomForEvent = false := decide_eq_false full
  simp only [State.entryRefusal, full, Bool.not_false, if_true] at h
  repeat' split at h
  all_goals cases h

/-- R9, R188: an item that is created takes one entry. -/
theorem createItem_eventLawKept {s : State} (room : s.used + s.live < 256) (l : LaneId) (number ticket : Nat) :
    s.EventLawKept (s.createItem l number ticket) := fun _ => by
  have grown : (s.createItem l number ticket).live ≤ s.live + 1 := size_put s.items.records number _
  have used : (s.createItem l number ticket).used = s.used := rfl
  exact (eventLaw_iff _).2 (by omega)

theorem presented_eventLawKept (s : State) (l : LaneId) : s.EventLawKept (s.presented l) := by
  have afresh : s.EventLawKept (s.presentAfresh l) := by
    cases refusal : s.entryRefusal l with
    | some reason => rw [presentAfresh_of_refused refusal]; exact .aside
    | none =>
      rw [presentAfresh_of_admitted refusal]
      unfold State.admission
      split
      · next number ticket _ _ =>
        exact (createItem_eventLawKept (room_of_entryRefusal refusal) l number ticket).trans (testItem_eventLawKept _ _)
      · exact .refl s
  unfold State.presented
  split
  exacts [.refl s, afresh, afresh]

theorem atEnd_eventLawKept (s : State) (l : LaneId) (ticket : Nat) : s.EventLawKept (s.atEnd l ticket) := by
  have arrives : ∀ (u : State) n, u.EventLawKept (u.arrive l n) := fun u n => by
    have waiting : ∀ f g, u.EventLawKept ((u.modItem n f).modLane l g) := fun f _ => (modItem_eventLawKept u n f).trans .aside
    unfold State.arrive
    repeat' split
    exacts [.refl u, waiting _ _, modItem_eventLawKept u n _, .refl u, .refl u, .refl u]
  unfold State.atEnd
  dsimp only
  split
  · exact offer_eventLawKept _ _ _
  · exact (State.EventLawKept.foldl (fun u m => withdraw_eventLawKept u m .skipped true) _ s).trans (arrives _ _)

theorem decisionExpiry_eventLawKept (s : State) (l : LaneId) : s.EventLawKept (s.decisionExpiry l) := by
  have atOnce : ∀ (u : State) n, u.EventLawKept (u.decideAtOnce n) := fun u n => by
    unfold State.decideAtOnce
    repeat' split
    exacts [.refl u, .refl u, (modItem_eventLawKept u n _).trans (decideItem_eventLawKept _ n)]
  unfold State.decisionExpiry
  repeat' split
  exacts [.refl s,
    (State.EventLawKept.aside (t := s.modLane l fun x => { x with timer := none })).trans (atOnce _ _), .refl s]

theorem close_eventLawKept (s : State) (l : LaneId) (cause : CloseCause) : s.EventLawKept (s.close l cause) :=
  (State.EventLawKept.aside (t := s.modLane l fun x => { x with state := .closing, closeCause := some cause })).trans
    (settlementTest_eventLawKept _ l)

theorem closeParcel_eventLawKept (lane : Nat) (s : State) : s.EventLawKept (closeParcel lane s).state := by
  unfold closeParcel
  repeat' split
  exacts [.refl s, .refl s, close_eventLawKept s _ .host, .refl s]

theorem parcelDone_eventLawKept (s : State) (l : LaneId) : s.EventLawKept (s.parcelDone l) := by
  unfold State.parcelDone
  split
  exacts [.refl s, close_eventLawKept s l .key, .refl s]

theorem abortLane_eventLawKept (lane : Nat) (s : State) : s.EventLawKept (abortLane lane s).state := by
  unfold abortLane
  split
  exacts [.refl s, abort_eventLawKept s _ _ _]

/-! ### The Plan Store and the Destination Controller (R99 to R108, R155 to R166) -/

theorem writeBank_eventLawKept (inRange : Bool) (f : Bank → Bank) (s : State) :
    s.EventLawKept (s.writeBank inRange f).state := by
  unfold State.writeBank
  repeat' split
  all_goals exact .aside

theorem switchPlan_eventLawKept (s : State) : s.EventLawKept (switchPlan s).state := by
  have switched : s.EventLawKept s.switchBanks := by
    unfold State.switchBanks
    cases s.activeBank <;> exact offer_beside_eventLawKept _ _
  unfold switchPlan
  repeat' split
  exacts [.aside, .aside, switched]

theorem offerLotOpen_eventLawKept (s : State) (d : Nat) : s.EventLawKept (s.offerLotOpen d) := by
  unfold State.offerLotOpen
  split
  exacts [.refl s, offer_eventLawKept s _ _]

theorem advance_eventLawKept (s : State) (d : Nat) : s.EventLawKept (s.advance d) := by
  unfold State.advance
  split
  exacts [.aside, (offer_beside_eventLawKept _ _).trans (offerLotOpen_eventLawKept _ d)]

theorem complete_eventLawKept (s : State) (d : Nat) (t : Tote) (reason : CompletionReason) (item : Nat) :
    s.EventLawKept (s.complete d t reason item) := by
  have lot : ∀ u : State, u.EventLawKept (u.takeIntoLot d t) := fun u => by
    unfold State.takeIntoLot
    dsimp only
    split
    exacts [offer_beside_eventLawKept _ _, .aside]
  have next : ∀ u : State, u.EventLawKept (u.nextStep d t) := fun u => by
    unfold State.nextStep State.stall
    split
    exacts [(offer_beside_eventLawKept _ _).trans (offerLotOpen_eventLawKept _ d), advance_eventLawKept u d]
  exact (offer_eventLawKept s _ _).trans ((lot _).trans (next _))

theorem confirmSwap_eventLawKept (d : Nat) (s : State) : s.EventLawKept (confirmSwap d s).state := by
  unfold confirmSwap
  repeat' split
  exacts [.refl s, advance_eventLawKept s d, .refl s, .refl s, .refl s]

theorem setLimit_eventLawKept (d : Nat) (limit : Option Nat) (s : State) : s.EventLawKept (setLimit d limit s).state := by
  have released : ∀ u : State, u.EventLawKept (u.releaseLimit d) := fun u => by
    unfold State.releaseLimit
    repeat' split
    exacts [.refl u, advance_eventLawKept u d, .refl u, .refl u, .refl u]
  unfold setLimit
  split
  exacts [.refl s, (State.EventLawKept.aside (t := s.modDest d fun x => { x with limit := limit })).trans (released _)]

theorem closeTote_eventLawKept (d tote : Nat) (s : State) : s.EventLawKept (closeTote d tote s).state := by
  unfold closeTote
  repeat' split
  exacts [.refl s, .refl s, .refl s, complete_eventLawKept s d _ .forced 0, .refl s, .refl s]

/-! ### The Sorter Tracker (R133 to R147) -/

theorem afterDrop_eventLawKept (s : State) (d : Nat) (t : Tote) (item : Nat) : s.EventLawKept (s.afterDrop d t item) := by
  unfold State.afterDrop
  repeat' split
  exacts [complete_eventLawKept s d t .full item, offer_eventLawKept s _ _, .refl s]

theorem gateWork_eventLawKept (s : State) (g : Nat) : s.EventLawKept (s.gateWork g) := by
  have effect := gateWork_effect s g
  generalize s.gateWork g = t at effect ⊢
  cases effect with
  | redirected n => exact modItem_eventLawKept s n _
  | completed n it found t => exact complete_eventLawKept s g t .weight n
  | dropped n it found t w =>
    rw [acceptDrop_eq]
    exact ((dropClosed_closed s n it g t w).eventLawKept (atGate_item found)).trans <|
      (afterDrop_eventLawKept _ g _ n).trans (afterRetirement_eventLawKept _ it true)
  | excepted n it found reason =>
    have closed : s.Closed ((s.fireGate 16).closeRecord n it (.itemException reason it.finalFields)) n it _ [] :=
      ⟨rfl, rfl, rfl, rfl, rfl, rfl, rfl, rfl⟩
    exact (closed.eventLawKept (atGate_item found)).trans (afterRetirement_eventLawKept _ it true)
  | nothing => exact .refl s

theorem pitch_eventLawKept (s : State) : s.EventLawKept s.pitch := by
  have acts : ∀ (u : State) a, u.EventLawKept (u.pitchAct a) := fun u a => by
    cases a with
    | indexMissing => exact (offer_eventLawKept u _ _).trans (setPause_eventLawKept _ _ _)
    | merge => exact .rewritten (mergeWork_queue u) (mergeWork_live u)
    | gate g => exact gateWork_eventLawKept u g
  exact (State.EventLawKept.aside (t := { s with sorter := s.sorter.advance })).trans <|
    (State.EventLawKept.foldl acts _ _).trans (countDraw_eventLawKept _ _)

theorem indexEdge_eventLawKept (s : State) : s.EventLawKept s.indexEdge := by
  have slipped : s.EventLawKept s.slip :=
    (offer_eventLawKept s _ _).trans (.trans .aside (setPause_eventLawKept _ .slip .slip))
  unfold State.indexEdge
  repeat' split
  exacts [.aside, slipped, .aside]

/-! ### The Line Controller (R172 to R183) -/

theorem holdLevel_eventLawKept (s : State) (high : Bool) : s.EventLawKept (s.holdLevel high) := by
  unfold State.holdLevel
  split
  exacts [.refl s, offerLineState_eventLawKept s _ _]

theorem startLine_eventLawKept (s : State) : s.EventLawKept (startLine s).state := by
  unfold startLine
  repeat' split
  exacts [.refl s, .refl s, .refl s, .refl s, .refl s, offerLineState_eventLawKept s _ _]

theorem stopAs_eventLawKept (s : State) (kind : StopKind) : s.EventLawKept (s.stopAs kind) := by
  have stopped : s.EventLawKept
      (State.offerLineState { s with line := { s.line with mode := .draining kind } } .stop).endTest :=
    (offerLineState_eventLawKept s _ _).trans (endTest_eventLawKept _)
  have aborts : ∀ (lanes : List LaneId) (u : State),
      u.EventLawKept (lanes.foldl (fun u l => u.abort l .cut .cut) u) := fun lanes u =>
    .foldl (fun u l => abort_eventLawKept u l .cut .cut) lanes u
  have lanes : ∀ u : State, u.EventLawKept u.cutLanes := fun u =>
    (aborts _ u).trans <| (aborts _ _).trans (countDraw_eventLawKept _ _)
  have sorting : ∀ u : State, u.EventLawKept u.cutSorter := fun u =>
    .rewritten (size := size_mapValues u.items.records _)
  unfold State.stopAs
  cases kind with
  | drain => exact stopped
  | cut => exact stopped.trans <| (lanes _).trans (sorting _)

theorem stopLine_eventLawKept (kind : Coded StopKind) (s : State) : s.EventLawKept (stopLine kind s).state := by
  have stopped : ∀ kind, s.EventLawKept (s.stop kind) := fun kind => by
    unfold State.stop
    split
    exacts [.refl s, stopAs_eventLawKept s _, stopAs_eventLawKept s _, .refl s, .refl s]
  unfold stopLine
  repeat' split
  exacts [.refl s, .refl s, stopped _]

theorem configure_eventLawKept (name : SettingName) (value : SettingValue) (s : State) :
    s.EventLawKept (configure name value s).state := by
  have written : s.EventLawKept (s.writeSetting name value) := by
    unfold State.writeSetting
    split <;> exact .aside
  unfold configure
  repeat' split
  exacts [.refl s, .refl s, .refl s, written]

/-! ### The clock, FETCH EVENTS and the resets (R171, R191, R193) -/

theorem tick_eventLawKept (s : State) : s.EventLawKept s.tick := by
  have waits : s.EventLawKept s.countWaits := by
    unfold State.countWaits
    split <;> exact .aside
  exact waits.trans (.trans .aside (countDraw_eventLawKept _ _))

/-- R191: what is fetched leaves the queue. -/
theorem fetchEvents_eventLawKept (count : Nat) (s : State) : s.EventLawKept (fetchEvents count s).state := by
  unfold fetchEvents
  split
  · exact .refl s
  · refine .fewer (Nat.add_le_add_right ?_ s.live)
    show (s.queue.events.drop count).length ≤ s.queue.events.length
    rw [List.length_drop]
    exact Nat.sub_le _ _

/-- A reset empties the Event Queue and the Item Table. -/
theorem eventLaw_of_empty {t : State} (events : t.queue.events = [] := by rfl)
    (items : t.items.records = Table.empty := by rfl) : t.eventLaw = true := by
  rw [eventLaw_iff, State.used, State.live, events, items]
  exact Nat.zero_le 256

/-! ### Every step -/

theorem eventLawKept_of_state_eq {act : State → Answer} (h : ∀ u, (act u).state = u) (u : State) :
    u.EventLawKept (act u).state := by
  rw [h]
  exact .refl u

theorem request_eventLawKept (c : Instr) (tag kind : Nat) (act : State → Answer)
    (h : requestAct c = some (tag, kind, act)) (u : State) : u.EventLawKept (act u).state := by
  cases c with
  | readItem tag item => cases h; exact eventLawKept_of_state_eq (readItem_state item) u
  | withdrawItem tag item => cases h; exact withdrawItem_eventLawKept item u
  | forceGrade tag item grade => cases h; exact forceGrade_eventLawKept item grade u
  | loadReturn tag load => cases h; exact loadReturn_eventLawKept load u
  | addTags => cases h; unfold addTags; (repeat' split) <;> exact .aside
  | amendReturn => cases h; unfold amendReturn; (repeat' split) <;> exact .aside
  | removeReturn => cases h; unfold removeReturn; (repeat' split) <;> exact .aside
  | readReturn tag ra line => cases h; exact eventLawKept_of_state_eq (readReturn_state ra line) u
  | openParcel tag lane account pairs => cases h; exact openParcel_eventLawKept lane account pairs u
  | closeParcel tag lane => cases h; exact closeParcel_eventLawKept lane u
  | abortLane tag lane => cases h; exact abortLane_eventLawKept lane u
  | enrolStation => cases h; unfold enrolStation; (repeat' split) <;> exact .aside
  | retireStation => cases h; unfold retireStation; (repeat' split) <;> exact .aside
  | readStation => cases h; unfold readStation; split <;> exact .aside
  | writeCheck => cases h; unfold writeCheck; split <;> exact writeBank_eventLawKept _ _ u
  | writeList | writeProgram | writeThresholds | writeMap => cases h; exact writeBank_eventLawKept _ _ u
  | clearBank => cases h; unfold clearBank; split <;> exact .aside
  | validatePlan => cases h; unfold validatePlan; (repeat' split) <;> exact .aside
  | switchPlan tag => cases h; exact switchPlan_eventLawKept u
  | setShadow => cases h; unfold setShadow; split <;> exact .aside
  | addTote => cases h; unfold addTote; (repeat' split) <;> exact .aside
  | confirmSwap tag dest => cases h; exact confirmSwap_eventLawKept dest u
  | setLimit tag dest limit => cases h; exact setLimit_eventLawKept dest limit u
  | closeTote tag dest tote => cases h; exact closeTote_eventLawKept dest tote u
  | dropChain => cases h; unfold dropChain; split <;> exact .aside
  | readDestination tag dest => cases h; exact eventLawKept_of_state_eq (readDestination_state dest) u
  | startLine tag => cases h; exact startLine_eventLawKept u
  | pauseLine => cases h; exact setPause_eventLawKept u _ _
  | resumeLine tag => cases h; exact clearPause_eventLawKept u
  | stopLine tag kind => cases h; exact stopLine_eventLawKept kind u
  | configure tag name value => cases h; exact configure_eventLawKept name value u
  | readSetting tag name => cases h; exact eventLawKept_of_state_eq (readSetting_state name) u
  | fetchEvents tag count => cases h; exact fetchEvents_eventLawKept count u
  | warmReset | readStatus | unknownRequest | malformedRequest => cases h; exact .refl u
  | _ => cases h

theorem serve_eventLawKept (s : State) (tag kind : Nat) (act : State → Answer)
    (h : ∀ u : State, u.EventLawKept (act u).state) : s.EventLawKept (s.serve tag kind act) := by
  cases serving : s.serving with
  | true => rw [serve_busy s tag kind act serving]; exact .aside (answerBusy_queue _ _ _) (answerBusy_items _ _ _)
  | false =>
    rw [serve_free s tag kind act serving]
    exact (State.EventLawKept.aside (t := s.frameTaken)).trans <|
      (h s.frameTaken).trans (.aside (reply_queue _ _) (reply_items _ _))

theorem exec_eventLawKept (c : Instr) (s : State) : ∃ t, exec c s = .next t ∧ s.EventLawKept t := by
  cases hc : requestAct c with
  | some r =>
    obtain ⟨tag, kind, act⟩ := r
    exact ⟨_, exec_request c tag kind act hc s, serve_eventLawKept s tag kind act (request_eventLawKept c tag kind act hc)⟩
  | none =>
    cases c with
    | coldReset => exact ⟨_, rfl, fun _ => eventLaw_of_empty⟩
    | warmResetActs =>
      refine ⟨_, rfl, ?_⟩
      split
      exacts [fun _ => eventLaw_of_empty, .refl s]
    | hold high => exact ⟨_, rfl, holdLevel_eventLawKept s high⟩
    | pitch => exact ⟨_, rfl, pitch_eventLawKept s⟩
    | index => exact ⟨_, rfl, indexEdge_eventLawKept s⟩
    | sweepTimer => exact ⟨_, rfl, sweepExpiry_eventLawKept s⟩
    | turnTimeout partialAnswer => exact ⟨_, rfl, turnPassed_eventLawKept s partialAnswer⟩
    | manifestWaitExpiry ra => exact ⟨_, rfl, manifestExpiry_eventLawKept s ra⟩
    | decisionWaitExpiry lane => exact ⟨_, rfl, decisionExpiry_eventLawKept s lane⟩
    | interbyteTimeout | frameDiscarded | replySent | sweepFrameSent | answerOutsideTurn => exact ⟨_, rfl, .aside⟩
    | busy tag kind =>
      refine ⟨_, rfl, ?_⟩
      split
      exacts [.aside (answerBusy_queue _ tag kind) (answerBusy_items _ tag kind), .refl s]
    | nothing a => exact ⟨_, rfl, takeAnswer_eventLawKept s a _ _ _ fun _ u => .refl u⟩
    | presented a => exact ⟨_, rfl, takeAnswer_eventLawKept s a _ _ _ fun x u => presented_eventLawKept u x.lane⟩
    | parcelDone a => exact ⟨_, rfl, takeAnswer_eventLawKept s a _ _ _ fun x u => parcelDone_eventLawKept u x.lane⟩
    | atEnd a => exact ⟨_, rfl, takeAnswer_eventLawKept s a _ _ _ fun x u => atEnd_eventLawKept u x.lane a.ticket⟩
    | tagReading a | weight a | vision a =>
      exact ⟨_, rfl, takeAnswer_eventLawKept s a _ _ _ fun x u => deliver_eventLawKept u x _ _ _⟩
    | garbledAnswer => exact ⟨_, rfl, takeGarbled_eventLawKept s⟩
    | _ => cases hc

theorem step_eventLawKept {s t : State} (h : step s = .next t) : s.EventLawKept t := by
  unfold step at h
  split at h
  · cases h
    exact tick_eventLawKept s
  · next c rest _ =>
    obtain ⟨u, hu, kept⟩ := exec_eventLawKept c { s with pending := rest }
    rw [hu] at h
    cases h
    exact (State.EventLawKept.aside (t := { s with pending := rest })).trans kept

/-- Settles O53: an event is stored only with room or in the place of its record, and an item is created only with room. -/
theorem everyStepKeepsTheEventLaw : Obligations.EveryStepKeepsTheEventLaw := fun _ _ law h => step_eventLawKept h law

end Sys2Proof.Machine
end

section
/-! The Message Port: the step from the queue, the requests not done, the frames that reach no block, the replies sent, and
FETCH EVENTS (R183 to R187, R189, R191). -/

namespace Sys2Proof.Machine

/-- Settles O1: a step with a command waiting is the command's meaning. -/
theorem stepTakesTheFrontCommand : Obligations.StepTakesTheFrontCommand := fun _ _ _ => rfl

/-! ### A request not answered DONE (R187) -/

/-- An answer to state `s` that is not DONE leaves it as it was. -/
def Answer.Leaves (s : State) (a : Answer) : Prop := a.status ≠ .done → a.state = s

@[simp] theorem done_leaves (s t : State) (data : ReplyData) : (t.done data).Leaves s := fun h => absurd rfl h
@[simp] theorem planDone_leaves (s t : State) : t.planDone.Leaves s := done_leaves s t _
@[simp] theorem destDone_leaves (s t : State) (d : Nat) : (t.destDone d).Leaves s := done_leaves s t _
@[simp] theorem refuse_leaves (s : State) (reason : RefusalReason) : (s.refuse reason).Leaves s := fun _ => rfl
@[simp] theorem refuseWith_leaves (s : State) (reason : RefusalReason) (data : ReplyData) :
    (s.refuseWith reason data).Leaves s := fun _ => rfl
@[simp] theorem planRefuse_leaves (s : State) (reason : RefusalReason) : (s.planRefuse reason).Leaves s := fun _ => rfl

@[simp] theorem writeBank_leaves (inRange : Bool) (f : Bank → Bank) (s : State) : (s.writeBank inRange f).Leaves s := by
  unfold State.writeBank
  (repeat' split) <;> simp

/-- R187, block by block: every answer of an act is a refusal in the state it found, or DONE. -/
theorem request_leaves (c : Instr) (tag kind : Nat) (act : State → Answer) (h : requestAct c = some (tag, kind, act))
    (s : State) : (act s).Leaves s := by
  cases c with
  | readItem | withdrawItem | forceGrade =>
    cases h; simp only [readItem, withdrawItem, forceGrade]; (repeat' split) <;> simp
  | loadReturn | addTags | amendReturn | removeReturn | readReturn =>
    cases h; simp only [loadReturn, addTags, amendReturn, removeReturn, readReturn]; (repeat' split) <;> simp
  | openParcel | closeParcel | abortLane =>
    cases h; simp only [openParcel, closeParcel, abortLane]; (repeat' split) <;> simp
  | enrolStation | retireStation | readStation =>
    cases h; simp only [enrolStation, retireStation, readStation]; (repeat' split) <;> simp
  | writeCheck => cases h; simp only [writeCheck]; split <;> simp
  | writeList | writeProgram | writeThresholds | writeMap => cases h; exact writeBank_leaves _ _ s
  | clearBank | validatePlan | switchPlan | setShadow =>
    cases h; simp only [clearBank, validatePlan, switchPlan, setShadow]; (repeat' split) <;> simp
  | addTote | confirmSwap | setLimit | closeTote | dropChain | readDestination =>
    cases h; simp only [addTote, confirmSwap, setLimit, closeTote, dropChain, readDestination]; (repeat' split) <;> simp
  | startLine | stopLine | configure | readSetting =>
    cases h; simp only [startLine, stopLine, configure, readSetting]; (repeat' split) <;> simp
  | pauseLine | resumeLine | readStatus | warmReset => cases h; exact done_leaves s _ _
  | fetchEvents => cases h; unfold fetchEvents; split; exacts [refuse_leaves s _, done_leaves s _ _]
  | unknownRequest | malformedRequest => cases h; exact fun _ => rfl
  | _ => cases h

/-- A request whose act leaves the state changes the port alone. -/
theorem serve_left {s : State} {tag kind : Nat} {act : State → Answer} (h : s.serving = false)
    (left : (act s.frameTaken).state = s.frameTaken) : s.serve tag kind act =
      { s with port := s.port.answered ⟨tag, kind, (act s.frameTaken).status, (act s.frameTaken).data⟩ } :=
  serve_taken s s tag kind act _ _ h (congrArg (fun t => Answer.mk t _ _) left)

/-- Settles O5: an act that is not DONE leaves the state, and the port forms the reply. -/
theorem requestsNotDoneChangeNothing : Obligations.RequestsNotDoneChangeNothing := by
  intro c s tag kind act hc free notDone
  rw [exec_request c tag kind act hc, serve_left free (request_leaves c tag kind act hc s.frameTaken notDone)]

/-! ### Frames that reach no block (R184 to R186) -/

/-- With room, the BUSY reply waits behind what is being sent (R186). -/
theorem answerBusy_queued {s : State} (room : s.port.waiting.length < 4) (sending : s.port.sending.isSome = true)
    (tag kind : Nat) : s.answerBusy tag kind =
      { s with port := { s.port with waiting := s.port.waiting ++ [⟨tag, kind, .busy, .headOnly⟩] } } := by
  obtain ⟨x, hx⟩ := Option.isSome_iff_exists.1 sending
  have room : s.port.waiting.length < Config.maxBusy := room
  simp [State.answerBusy, room, hx]

/-- With the transmitter free, the BUSY reply is sent at once (R186). -/
theorem answerBusy_sent {s : State} (room : s.port.waiting.length < 4) (sending : s.port.sending = none)
    (tag kind : Nat) : s.answerBusy tag kind =
      { s with port := { s.port with sending := some (.busy ⟨tag, kind, .busy, .headOnly⟩) } } := by
  have room : s.port.waiting.length < Config.maxBusy := room
  simp [State.answerBusy, room, sending]

/-- While four BUSY replies wait, the frame is discarded (R186). -/
theorem answerBusy_discarded {s : State} (full : 4 ≤ s.port.waiting.length) (tag kind : Nat) :
    s.answerBusy tag kind = s :=
  if_neg (Nat.not_lt.2 full)

theorem exec_busy {s : State} (h : s.serving = true) (tag kind : Nat) :
    exec (.busy tag kind) s = .next (s.frameTaken.answerBusy tag kind) :=
  congrArg Host.Outcome.next (if_pos h)

theorem exec_frameDiscarded (held : List Byte) (s : State) :
    exec (.frameDiscarded held) s = .next { s with port := { s.port with receiving := rehunt held } } := rfl

/-- Hunting resumes at the next start byte (R184). -/
theorem rehunt_start (b : Byte) {before : List Byte} (h : ∀ x ∈ before, x ≠ startByte) (after : List Byte) :
    rehunt (b :: before ++ startByte :: after) = startByte :: after := by
  show (before ++ startByte :: after).dropWhile _ = _
  rw [List.dropWhile_append_of_pos fun x hx => decide_eq_true (h x hx)]
  exact List.dropWhile_cons_of_neg (by simp)

/-- With no start byte left, the receiver hunts (R184). -/
theorem rehunt_none (b : Byte) {before : List Byte} (h : ∀ x ∈ before, x ≠ startByte) : rehunt (b :: before) = [] :=
  List.dropWhile_eq_nil_iff.2 fun x hx => decide_eq_true (h x hx)

/-- Settles O6: a frame in service is the port's BUSY, the others are answered by it alone, and the receiver hunts again. -/
theorem framesAnsweredByThePortAlone : Obligations.FramesAnsweredByThePortAlone := by
  refine ⟨fun s tag kind serving => ⟨fun room sending => ?_, fun room sending => ?_, fun full => ?_, fun c act hc => ?_⟩,
    fun s => ⟨fun tag kind free => ?_, fun tag kind free => ?_, rfl, fun b before after h => ?_, fun b before h => ?_⟩⟩
  · exact (exec_busy serving tag kind).trans (congrArg _ (answerBusy_queued (s := s.frameTaken) room sending tag kind))
  · exact (exec_busy serving tag kind).trans (congrArg _ (answerBusy_sent (s := s.frameTaken) room sending tag kind))
  · exact (exec_busy serving tag kind).trans (congrArg _ (answerBusy_discarded (s := s.frameTaken) full tag kind))
  · rw [exec_busy serving, exec_request c tag kind act hc, serve_busy s tag kind act serving]
  · exact congrArg Host.Outcome.next (serve_left free rfl)
  · exact congrArg Host.Outcome.next (serve_left free rfl)
  · rw [exec_frameDiscarded, rehunt_start b h after]
  · rw [exec_frameDiscarded, rehunt_none b h]

/-! ### When a reply has been sent (R183, R186) -/

/-- The reply of the request in service goes first (R186). -/
theorem sendNext_waiting {p : Port} {tag kind : Nat} {r : Reply} (service : p.service = some ⟨tag, kind, .waiting r⟩) :
    p.sendNext = { p with service := some ⟨tag, kind, .sending⟩, sending := some (.service r) } := by
  simp only [Port.sendNext, service]

/-- No reply of a request in service waits. -/
def Port.nothingFormed (p : Port) : Prop := ∀ tag kind r, p.service ≠ some ⟨tag, kind, .waiting r⟩

/-- With no reply of a request in service waiting, the first BUSY reply goes (R186). -/
theorem sendNext_busy {p : Port} (h : p.nothingFormed) {next : Reply} {rest : List Reply} (waiting : p.waiting = next :: rest) :
    p.sendNext = { p with sending := some (.busy next), waiting := rest } := by
  unfold Port.sendNext
  split
  · next formed => exact absurd formed (h _ _ _)
  · simp only [waiting]

/-- With none waiting, the transmitter is free (R186). -/
theorem sendNext_free {p : Port} (h : p.nothingFormed) (waiting : p.waiting = []) :
    p.sendNext = { p with sending := none } := by
  unfold Port.sendNext
  split
  · next formed => exact absurd formed (h _ _ _)
  · simp only [waiting]

theorem serviceSent_leaves {p : Port} {r : Reply} (h : ¬ (r.kind = 151 ∧ r.status = .done)) :
    p.serviceSent r = { p with service := none } := if_neg h

theorem serviceSent_stays {p : Port} {r : Reply} {tag : Nat} (kind : r.kind = 151) (status : r.status = .done)
    (service : p.service = some ⟨tag, 151, .sending⟩) : p.serviceSent r = { p with service := some ⟨tag, 151, .sent⟩ } := by
  rw [Port.serviceSent, if_pos ⟨kind, status⟩, service]
  rfl

theorem exec_replySent_service {s : State} {r : Reply} (sending : s.port.sending = some (.service r)) :
    exec .replySent s = .next { s with port := (s.port.serviceSent r).sendNext } := by
  show Host.Outcome.next { s with port := s.port.replySent } = _
  simp only [Port.replySent, sending]

theorem exec_replySent_busy {s : State} {b : Reply} (sending : s.port.sending = some (.busy b)) :
    exec .replySent s = .next { s with port := s.port.sendNext } := by
  show Host.Outcome.next { s with port := s.port.replySent } = _
  simp only [Port.replySent, sending]

/-- Settles O7, by what was sent: the service ends or its WARM RESET stays, and the transmitter takes the next. -/
theorem replySentStartsTheNext : Obligations.ReplySentStartsTheNext := by
  have unserved : ∀ p : Port, ({ p with service := none } : Port).nothingFormed := fun _ _ _ _ => nofun
  have resetSent : ∀ (p : Port) tag, ({ p with service := some ⟨tag, 151, .sent⟩ } : Port).nothingFormed :=
    fun _ _ _ _ _ => nofun
  intro s
  refine ⟨fun r next rest sending other waiting => ?_, fun r sending other waiting => ?_,
    fun r tag sending kind status service waiting => ?_, fun b tag kind r sending service => ?_,
    fun r tag next rest sending kind status service waiting => ?_, fun b sending formed => ⟨fun next rest waiting => ?_,
      fun waiting => ?_⟩⟩
  · rw [exec_replySent_service sending, serviceSent_leaves other, sendNext_busy (unserved _) waiting]
  · rw [exec_replySent_service sending, serviceSent_leaves other, sendNext_free (unserved _) waiting]
  · rw [exec_replySent_service sending, serviceSent_stays kind status service, sendNext_free (resetSent _ _) waiting]
  · rw [exec_replySent_busy sending, sendNext_waiting service]
  · rw [exec_replySent_service sending, serviceSent_stays kind status service, sendNext_busy (resetSent _ _) waiting]
  · rw [exec_replySent_busy sending, sendNext_busy formed waiting]
  · rw [exec_replySent_busy sending, sendNext_free formed waiting]

/-! ### Offers and FETCH EVENTS (R181, R189, R191, R192) -/

theorem fetchEvents_taken (s : State) {count : Nat} (low : 1 ≤ count) (high : count ≤ 16) :
    fetchEvents count s = ⟨{ s with queue := { events := s.queue.events.drop count, overrun := false } }, .done,
      .events s.queue.overrun (s.queue.events.take count) (s.queue.events.length - count)⟩ := by
  rw [← List.length_drop]
  exact if_neg fun h => h.elim (by omega) (Nat.not_lt.2 high)

theorem fetchEvents_refused (s : State) {count : Nat} (h : count = 0 ∨ 16 < count) :
    fetchEvents count s = s.refuse .outOfRange := if_pos h

/-- ATTN stays exactly when records are left (R192). -/
theorem attn_drop {s t : State} {count : Nat} (h : t.queue.events = s.queue.events.drop count) :
    t.attn = true ↔ count < s.used := by
  rw [State.attn, decide_eq_true_iff, State.used, h, List.length_drop]
  exact Nat.sub_pos_iff_lt

/-- Settles O10: the three outcomes of an offer, and the records that FETCH EVENTS takes from the front. -/
theorem eventsAreOfferedAndFetched : Obligations.EventsAreOfferedAndFetched := by
  refine ⟨fun s item body => ⟨offer_disabled s item body, fun enabled room => ?_, fun enabled full => ?_⟩,
    fun s tag count free => ⟨fun low high => ?_, fun range => ?_⟩⟩
  · exact offer_stored s item body enabled (decide_eq_true room)
  · exact offer_dropped s item body enabled (decide_eq_false (Nat.not_lt.2 full))
  · refine ⟨_, ?_, rfl, attn_drop rfl⟩
    exact exec_done (.fetchEvents tag count) rfl free
      { s with queue := { events := s.queue.events.drop count, overrun := false } } rfl (fetchEvents_taken s.frameTaken low high)
  · exact exec_refused (.fetchEvents tag count) rfl free (fetchEvents_refused s.frameTaken range)

end Sys2Proof.Machine
end

section
/-! The layouts of frames and of event records (R184, R185, R190, R191, R196). -/

namespace Sys2Proof.Machine

/-! ### Numbers and fields (R196) -/

@[simp] theorem length_bytesOf (k n : Nat) : (bytesOf k n).length = k := by
  induction k generalizing n with
  | zero => rfl
  | succ k ih => rw [bytesOf, List.length_append, ih, List.length_singleton]

@[simp] theorem length_num1 (n : Nat) : (num1 n).length = 1 := length_bytesOf 1 n
@[simp] theorem length_num2 (n : Nat) : (num2 n).length = 2 := length_bytesOf 2 n
@[simp] theorem length_num4 (n : Nat) : (num4 n).length = 4 := length_bytesOf 4 n
@[simp] theorem length_markByte (b : Bool) : (markByte b).length = 1 := length_num1 _
@[simp] theorem length_laneByte (l : LaneId) : (laneByte l).length = 1 := length_num1 _
@[simp] theorem length_enum {α : Type} [DecidableEq α] (values : List α) (a : α) : (enum values a).length = 1 :=
  length_num1 _
@[simp] theorem length_bankByte (b : BankId) : (bankByte b).length = 1 := by cases b <;> rfl
@[simp] theorem length_destByte (d : Dest) : (destByte d).length = 1 := by cases d <;> rfl

/-- A field with its presence byte. -/
theorem length_optional_le {α : Type} {enc : α → List Byte} {k : Nat} (h : ∀ a, (enc a).length = k) (x : Option α) :
    (optional enc x).length ≤ k + 1 := by
  cases x with
  | none => exact Nat.succ_le_succ (Nat.zero_le k)
  | some a => exact Nat.succ_le_succ (h a).le

/-- A field without a presence byte. -/
theorem length_always_le {α : Type} {enc : α → List Byte} {k : Nat} (h : ∀ a, (enc a).length = k) (x : Option α) :
    (always enc x).length ≤ k := by
  cases x with
  | none => exact Nat.zero_le k
  | some a => exact (h a).le

/-- A list with its count byte. -/
theorem length_counted {α : Type} {enc : α → List Byte} {k : Nat} (h : ∀ a, (enc a).length = k) (l : List α) :
    (counted enc l).length = 1 + k * l.length := by
  have entries : (l.flatMap enc).length = k * l.length := by
    induction l with
    | nil => rfl
    | cons a rest ih => rw [List.flatMap_cons, List.length_append, ih, h, List.length_cons, Nat.mul_succ, Nat.add_comm]
  rw [counted, List.length_cons, entries, Nat.add_comm]

theorem toNat_byte (n : Nat) : (byte n).toNat = n % 256 := BitVec.toNat_ofNat n 8

theorem readNumber_cons (j acc : Nat) (b : Byte) (rest : List Byte) :
    readNumber (j + 1) acc (b :: rest) = readNumber j (acc * 256 + b.toNat) rest := rfl

/-- The reader takes the `k` bytes of a number into its value so far. -/
theorem readNumber_bytesOf (k j acc n : Nat) (rest : List Byte) (h : n < 256 ^ k) :
    readNumber (k + j) acc (bytesOf k n ++ rest) = readNumber j (acc * 256 ^ k + n) rest := by
  induction k generalizing j n rest with
  | zero =>
    obtain rfl : n = 0 := Nat.lt_one_iff.1 h
    simp [bytesOf]
  | succ k ih =>
    have high : n / 256 < 256 ^ k := Nat.div_lt_of_lt_mul (by rwa [Nat.pow_succ'] at h)
    have value : (acc * 256 ^ k + n / 256) * 256 + n % 256 = acc * 256 ^ (k + 1) + n := by
      rw [Nat.add_mul, Nat.mul_assoc, ← Nat.pow_succ, Nat.add_assoc, Nat.div_add_mod']
    calc readNumber (k + 1 + j) acc (bytesOf (k + 1) n ++ rest)
        = readNumber (k + (j + 1)) acc (bytesOf k (n / 256) ++ byte n :: rest) := by
          rw [bytesOf, List.append_assoc, List.singleton_append, Nat.add_assoc, Nat.add_comm 1 j]
      _ = readNumber (j + 1) (acc * 256 ^ k + n / 256) (byte n :: rest) := ih (j + 1) (n / 256) _ high
      _ = readNumber j (acc * 256 ^ (k + 1) + n) rest := by rw [readNumber_cons, toNat_byte, value]

/-- A number is read back from its bytes. -/
theorem readNumber_of_bytes {k n : Nat} (h : n < 256 ^ k) (rest : List Byte) :
    readNumber k 0 (bytesOf k n ++ rest) = some (n, rest) := by
  have read := readNumber_bytesOf k 0 0 n rest h
  rwa [Nat.zero_mul, Nat.zero_add] at read

/-! ### Frames (R184) -/

theorem num2_eq (n : Nat) : num2 n = [byte (n / 256), byte n] := rfl

/-- The length field gives back a length that fits it. -/
theorem num2_value {n : Nat} (h : n ≤ 1024) : (byte (n / 256)).toNat * 256 + (byte n).toNat = n := by
  rw [toNat_byte, toNat_byte]
  omega

/-- A whole frame is judged by its check: the two bytes after the body are the CRC of what stands before them. -/
theorem judge_whole (head tag kind c1 c0 : Byte) {body : List Byte} (rest : List Byte) (h : body.length ≤ 1024) :
    judge (head :: num2 body.length ++ tag :: kind :: body ++ c1 :: c0 :: rest) =
      if num2 (crc16 (num2 body.length ++ tag :: kind :: body)).toNat = [c1, c0] then
        .received tag.toNat kind.toNat body rest
      else .discarded := by
  have taken : (body ++ c1 :: c0 :: rest).take body.length = body := List.take_left
  have check : ((body ++ c1 :: c0 :: rest).drop body.length).take 2 = [c1, c0] := by rw [List.drop_left]; rfl
  have after : (body ++ c1 :: c0 :: rest).drop (body.length + 2) = rest := by rw [List.drop_append]; simp
  have enough : ¬ (tag :: kind :: (body ++ c1 :: c0 :: rest)).length < body.length + 4 := by
    simp only [List.length_cons, List.length_append]
    omega
  simp only [num2_eq body.length, List.cons_append, List.nil_append, judge, num2_value h, if_neg (Nat.not_lt.2 h),
    if_neg enough, taken, check, after] <;> rfl

/-- The CRC of a frame built by its layout is the one judged (R184, R196). -/
theorem judge_frame {tag kind : Nat} {body : List Byte} (rest : List Byte) (htag : tag < 256) (hkind : kind < 256)
    (h : body.length ≤ 1024) : judge (frame tag kind body ++ rest) = .received tag kind body rest := by
  have layout : frame tag kind body ++ rest = byte 0xA5 :: num2 body.length ++ byte tag :: byte kind :: body ++
      byte ((crc16 (num2 body.length ++ byte tag :: byte kind :: body)).toNat / 256) ::
        byte (crc16 (num2 body.length ++ byte tag :: byte kind :: body)).toNat :: rest := by
    simp [frame, withCrc, num1, num2_eq, bytesOf]
  rw [layout, judge_whole _ _ _ _ _ rest h, if_pos (num2_eq _), toNat_byte, toNat_byte, Nat.mod_eq_of_lt htag,
    Nat.mod_eq_of_lt hkind]

theorem judge_bad_check {head kind tag c1 c0 : Byte} {body : List Byte} (rest : List Byte) (h : body.length ≤ 1024)
    (bad : [c1, c0] ≠ num2 (crc16 (num2 body.length ++ tag :: kind :: body)).toNat) :
    judge (head :: num2 body.length ++ tag :: kind :: body ++ c1 :: c0 :: rest) = .discarded := by
  rw [judge_whole _ _ _ _ _ rest h, if_neg bad.symm]

theorem judge_too_long {head l1 l0 : Byte} (more : List Byte) (h : 1024 < l1.toNat * 256 + l0.toNat) :
    judge (head :: l1 :: l0 :: more) = .discarded := if_pos h

/-! ### The details of an event (R14, R130, R131, R195) -/

theorem length_matchBytes_le (result : Option MatchResult) (matched : Option (Nat × Nat)) :
    (matchBytes result matched).length ≤ 9 := by
  have name := length_optional_le (length_enum matchResults) result
  have ra := length_optional_le length_num4 (matched.map (·.1))
  have line := length_optional_le length_num1 (matched.map (·.2))
  simp only [matchBytes, List.length_append]
  omega

/-- The fields of a final event beside those that its kind gives a form of their own. -/
theorem length_finalBytes_le (first : List Byte) {gradeBytes : Option Grade → List Byte} {routeBytes : Option Dest → List Byte}
    (weight : List Byte) (f : FinalFields) (grade : ∀ g, (gradeBytes g).length ≤ 2) (route : ∀ d, (routeBytes d).length ≤ 2) :
    (finalBytes first gradeBytes routeBytes weight f).length ≤ first.length + weight.length + 20 := by
  have found := length_matchBytes_le f.result f.matched
  have grade := grade f.grade
  have route := route f.dest
  simp only [finalBytes, List.length_append, length_laneByte, length_num1, length_num2, length_enum, length_markByte]
  omega

theorem length_gradedBytes_le {f : GradedFields} (h : f.failed.length ≤ 8) : (gradedBytes f).length ≤ 36 := by
  have result := length_optional_le (length_enum matchResults) f.result
  have line := length_optional_le length_num1 f.line
  have category := length_always_le length_num1 f.category
  have failed := length_counted length_num1 f.failed
  have grade := length_always_le (length_enum grades) f.grade
  have shadow := length_optional_le (length_enum grades) f.shadow
  have dest := length_always_le length_destByte (f.route.map Route.dest)
  have reason := length_optional_le (length_enum excReasons) (f.route.bind Route.reason)
  simp only [gradedBytes, List.length_append, length_laneByte, length_num1, length_num2, length_bankByte, length_enum,
    length_markByte]
  omega

theorem length_actionBytes_le (a : FailAction) : (actionBytes a).length ≤ 2 := by
  cases a <;> exact Nat.le_of_ble_eq_true rfl

theorem length_modeBytes_le (m : LineMode) : (modeBytes m).length ≤ 3 := by
  have kind := length_optional_le (length_enum stopKinds) m.kind
  rw [modeBytes, List.length_append, length_num1]
  omega

theorem detail_parcelClosed_le (lane : LaneId) (parcel : Nat) (account : Option Nat) (cause : EndCause) (retired : Nat)
    {outcomes : List (Nat × RaOutcome × Nat)} (h : outcomes.length ≤ 4) :
    (EventBody.parcelClosed lane parcel account cause retired outcomes).detail.length ≤ 36 := by
  have account := length_optional_le length_num4 account
  have each : ∀ o : Nat × RaOutcome × Nat, (num4 o.1 ++ enum raOutcomes o.2.1 ++ num1 o.2.2).length = 6 := fun o => by simp
  have listed := length_counted each outcomes
  simp only [EventBody.detail, List.length_append, length_num1, length_num2, length_enum] at *
  omega

/-- R190: the details of every event fit the record's 36 bytes. -/
theorem length_detail_le (body : EventBody)
    (parcel : ∀ lane parcel account cause retired outcomes,
      body = .parcelClosed lane parcel account cause retired outcomes → outcomes.length ≤ 4)
    (graded : ∀ f, body = .itemGraded f → f.failed.length ≤ 8) : body.detail.length ≤ 36 := by
  have grade := length_always_le (length_enum grades)
  have dest := length_always_le length_destByte
  cases body with
  | itemPlaced tote w f =>
    have fields := length_finalBytes_le [] (num2 w) f (fun g => (grade g).trans (by decide)) fun d => (dest d).trans (by decide)
    exact fields.trans (by simp)
  | itemException r f =>
    have fields := length_finalBytes_le (enum excReasons r) [] f (fun g => (grade g).trans (by decide))
      fun d => (dest d).trans (by decide)
    exact fields.trans (by simp)
  | itemWithdrawn r f =>
    have fields := length_finalBytes_le (enum withdrawReasons r) [] f (length_optional_le (length_enum grades))
      (length_optional_le length_destByte)
    exact fields.trans (by simp)
  | itemGraded f => exact length_gradedBytes_le (graded f rfl)
  | parcelClosed lane n account cause retired outcomes =>
    exact detail_parcelClosed_le lane n account cause retired (parcel _ _ _ _ _ _ rfl)
  | checkFailed f =>
    have value := length_optional_le length_num2 f.value
    have action := length_actionBytes_le f.action
    simp only [EventBody.detail, List.length_append, length_num1, length_enum]
    omega
  | toteComplete tote d count weight reason firstDrop =>
    have first := length_optional_le length_num4 firstDrop
    simp only [EventBody.detail, List.length_append, length_num1, length_num2, length_enum]
    omega
  | lineState mode pause hold cause =>
    have mode := length_modeBytes_le mode
    have pause := length_optional_le (length_enum pauseCauses) pause
    simp only [EventBody.detail, List.length_append, length_markByte, length_enum]
    omega
  | _ => simp [EventBody.detail]

/-! ### The event record and FETCH EVENTS (R190, R191) -/

theorem length_eventRecord {e : Event} (h : e.body.detail.length ≤ 36) : (eventRecord e).length = 48 := by
  simp only [eventRecord, List.length_append, length_num1, length_num2, length_num4, List.length_replicate]
  omega

theorem length_records {records : List Event} (h : ∀ e ∈ records, e.body.detail.length ≤ 36) :
    (records.flatMap eventRecord).length = 48 * records.length := by
  induction records with
  | nil => rfl
  | cons e rest ih =>
    rw [List.flatMap_cons, List.length_append, length_eventRecord (h e List.mem_cons_self),
      ih fun x hx => h x (List.mem_cons_of_mem e hx), List.length_cons]
    omega

theorem length_fetched (overrun : Bool) {records : List Event} (left : Nat)
    (h : ∀ e ∈ records, e.body.detail.length ≤ 36) :
    (dataBytes (.events overrun records left)).length = 4 + 48 * records.length := by
  simp only [dataBytes, List.length_append, length_markByte, length_num1, length_num2, length_records h]
  omega

/-- Settles O52: frames by `judge_whole`, numbers by the reader over their bytes, records by the lengths of their fields. -/
theorem framesAndRecordsHaveTheirLayout : Obligations.FramesAndRecordsHaveTheirLayout :=
  ⟨⟨fun _ _ _ rest htag hkind h => judge_frame rest htag hkind h, fun _ _ _ _ _ _ rest h bad => judge_bad_check rest h bad,
      fun _ _ _ more h => judge_too_long more h, fun _ _ rest h => readNumber_of_bytes h rest⟩,
    ⟨fun _ h => length_eventRecord h, fun overrun _ left h => length_fetched overrun left h, length_detail_le⟩⟩

end Sys2Proof.Machine
end
